-- ==== Sys2Proof/Word.lean ====
section
/-! DEFINITION. The machine's words: 32-bit deep-space words (R11), bytes, and the 48-bit time (R13). -/

namespace Sys2Proof

/-- A deep-space register or Calico word (R11). -/
abbrev Word := BitVec 32

/-- A byte of a memory or of a frame. -/
abbrev Byte := BitVec 8

/-- A count of 1/1024 s in the RTC format (R13). -/
abbrev Time := BitVec 48

end Sys2Proof
end

