-- ==== Sys2Proof/Syntax.lean ====
section
/-! DEFINITION. The commands of the part: every row of the opcode table, with its operands. -/

namespace Sys2Proof

/-- What an initiator asks of Twill: a read, a write to the live word, an instruction fetch (R40), a write or a read through a
path that names a staging set (R39, R204, R205), or a read (`none`) or write of a word inside a target that deep space gives no address
(ROM, VLT, CRY, RTX and PTX of Table FAB-2), the address being the word offset in it. -/
inductive BusOp where
  | read
  | write (v : Word)
  | fetch
  | stage (dated : Bool) (v : Word)
  | stageRead (dated : Bool)
  | inner (t : Fin 20) (v : Option Word)
  deriving DecidableEq, Repr

/-- What the SECDED code of a Calico word shows when the word is read (R21): nothing, a single-bit error, a double-bit
error. An upset is a physical event; it stays in the stored word until a full-word write replaces it. -/
inductive Upset where
  | clean | single | double
  deriving DecidableEq, Repr

/-- How Twill refused an access that a command makes of itself: at which target, and with REFUSED_BUSY or, a read, with DATA_ERR (R26, R27). -/
structure Denial where
  target : Fin 20
  dataErr : Bool
  deriving DecidableEq, Repr

/-- A lease command (R31). -/
inductive LeaseOp where
  | acquire | renew | release
  deriving DecidableEq, Repr

/-- A lease command of an initiator, accepted in the same cycle as another one for the same lease (R43). -/
structure LeaseCmd where
  init : Fin 14
  op : LeaseOp
  deriving DecidableEq, Repr

/-- Where a register access goes: a deep-space word reached by an initiator, or one of the host registers, at A[6:1], in a
host cycle that completes or is cut short (R178). -/
inductive RegAt where
  | deep (i : Fin 14) (addr : BitVec 24)
  | host (off : BitVec 6) (whole : Bool)
  deriving DecidableEq, Repr


/-- What the receive path hands the engine for one shot (R230, R266): the samples of the capture at 64 MS/s, and the times at
which the comparator sees positive-going zero crossings, in ps from the fire edge. -/
structure Capture where
  samples : List (BitVec 12)
  crossings : List Nat
  deriving DecidableEq, Repr

/-- The self-calibration of a receive channel (R260): the reference pulse is missed, or the measured offset φ in ps. -/
structure CalPulse where
  rx : Fin 16
  phi : Option Int
  deriving DecidableEq, Repr

/-- A conversion of an RTD or bridge channel (R299 to R301): the modulator saturates, the reference phase lies outside its
window, Twill holds the energy engine up, so that the result waits in its crossing queue (R129, R130), and the ratio r in 2^−32. -/
structure Conversion where
  saturated : Bool
  refOut : Bool
  stalled : Bool
  ratio : Int
  deriving DecidableEq, Repr

/-- A message that NWC sends for itself: its destination and payload, the key slot that protects it, whether it asks for an
acknowledgement, and the descriptor bits WAKE, REPLY and LISTEN for the radio (R472). -/
structure NetMessage where
  dst : BitVec 32
  payload : List (BitVec 8)
  slot : Option (Fin 32)
  ackreq : Bool
  wake : Bool
  reply : Bool
  listen : Bool
  deriving DecidableEq, Repr

/-- What a receiver measures on one phase in a half-cycle, the fundamental removed (R429): the energies in the four slot
windows and in the early and the late guard window, in units of 0.25 mV²·ms, and the peak current of a pulse sent in it
(R428), in units of 10 mA. -/
structure PhaseWave where
  slots : List Nat
  early : Nat
  late : Nat
  peak : Nat
  deriving DecidableEq, Repr

/-- The triggers of Table PWR-6: PFAIL below 1.10 V, HOLD below 2.85 V while PFAIL is below 1.20 V, VBAT below 2.45 V. -/
inductive PfTrigger where
  | pfail | hold | vbat
  deriving DecidableEq, Repr


/-- Which supplies are good: the AO supply above 2.30 V, VMAIN above 2.95 V, VIO_H above 1.60 V (Table PWR-2). -/
structure Supplies where
  ao : Bool
  vmain : Bool
  vioH : Bool
  deriving DecidableEq, Repr

/-- The commands of the part: one constructor per row of the opcode table, in its order, each with the operands that the
event carries from outside (an initiator, an address, a value, the features a physical stimulus presents). -/
inductive Instr where
  /-- REGISTER_WRITE (R5): A write to a register that has no row of its own takes effect according to its access code (RW, W1C, WO, ignored for RO or reserved bits). -/
  | registerWrite (loc : RegAt) (waited : Nat) (v : Word)
  /-- RC_READ_COMPLETE (R7): A completed read of an RC field returns its value and clears it; when the chip sets the field in the same cycle, the set wins. -/
  | rcReadComplete (loc : RegAt) (returned : Word) (since : Word)
  /-- MULTIWORD_LOW_READ (R132): A read of the lowest word of a multi-word register latches its higher words for the reading initiator. -/
  | multiwordLowRead (i : Fin 14) (addr : BitVec 24)
  /-- MULTIWORD_HIGH_WRITE (R133): A write of the highest word of a multi-word RW register commits it together with the held lower words. -/
  | multiwordHighWrite (i : Fin 14) (addr : BitVec 24) (v : Word)
  /-- RTC_END (R15): The RTC count reaches 0xFFFF_FFFF_FFFF, holds there and raises an event in EB00. -/
  | rtcEnd
  /-- TWILL_REQUEST (R28): An initiator presents an access to a target; refusal codes other than REFUSED_BUSY and DATA_ERR are decided at once. -/
  | twillRequest (i : Fin 14) (addr : BitVec 24) (op : BusOp)
  /-- ACCESS_ACCEPTED (R26): A target accepts a waiting access in a wheel slot; the access is served, or served delayed after the soft bound. -/
  | accessAccepted (t : Fin 20) (waited : Nat) (upset : Upset) (context : Bool)
  /-- HARD_BOUND_EXPIRY (R26): A request that has not been accepted by its hard bound is withdrawn and refused with REFUSED_BUSY. -/
  | hardBoundExpiry (i : Fin 14)
  /-- ACQUIRE (R33): A lease ACQUIRE grants a free lease or places the initiator in that lease's queue. -/
  | leaseAcquire (i : Fin 14) (k : Fin 4) (also : List LeaseCmd)
  /-- RENEW (R34): A RENEW by the holder restarts the lease when its queue is empty, and is otherwise denied. -/
  | leaseRenew (i : Fin 14) (k : Fin 4) (also : List LeaseCmd)
  /-- RELEASE (R34): A RELEASE by the holder frees the lease and passes it to the head of the queue. -/
  | leaseRelease (i : Fin 14) (k : Fin 4) (also : List LeaseCmd)
  /-- REVOKE (R35): A lease reaches expiry; it is revoked and passed on, and its former holder is fenced. -/
  | leaseRevoke (k : Fin 4) (also : List LeaseCmd)
  /-- DOMAIN_RESET_END (R599): The domain reset that ends a fence completes, the fence lifts and FENCE_CLEAR is raised. -/
  | domainResetEnd (i : Fin 14)
  /-- TARGET_FLUSH (R598): After a revocation the leased target finishes its accepted operation and discards the former holder's work. -/
  | targetFlush (k : Fin 4)
  /-- POWER_ON_RESET (R148): The AO supply falls below the power-on reset threshold, or the supplies first rise; a power-on start begins. -/
  | powerOnReset (sup : Supplies)
  /-- STRAP_PRESAMPLE (R649): After VIO_H has been good for 2 µs, AO samples D0 three times and applies the start conditions for that profile. -/
  | strapPresample (samples : BitVec 3)
  /-- PIN_RESET (R150): RESET_N held low for 1 µs or more stops the host-bus drivers and begins a pin start with a reset store. -/
  | pinReset
  /-- SOFTWARE_START (R148): 0xC35A written to SYS_SWRST.KEY, or a keyed H_CTRL.SRST, requests a software start with a reset store. -/
  | softwareStart
  /-- RSTORE_CUT (R151): A reset store that has not ended after 10 ms asserts the internal reset at the next page boundary. -/
  | rstoreCut
  /-- INTERNAL_RESET_RELEASE (R152): The internal reset is released 50 µs after its conditions hold, and the start sequence begins. -/
  | internalResetRelease (sup : Supplies) (a : BitVec 4) (b : BitVec 4) (c : BitVec 4)
  /-- OSCILLATORS_UP (R153): HFXO runs and the SPLL locks; the system domains move to the SPLL, and the Calico clear and the journal resolution start. -/
  | oscillatorsUp (lfxo : Bool)
  /-- HOST_READY (R153): The instant regions are recalled and Calico is clear; the host bridge accepts cycles and LGC starts. -/
  | hostReady (high : Bool)
  /-- METER_READY (R160): LGC has checked its ROM and loaded the qualifying legal register set; the chip raises METER_READY and starts APC and the settled recall. -/
  | meterReady (romGood : Bool)
  /-- APC_RUNNING (R153): APC runs its services after its patch image has been checked, and NWC starts. -/
  | apcRunning
  /-- NWC_RUNNING (R153): NWC runs, the transports start and the loop by-pass may open. -/
  | nwcRunning
  /-- SETTLED_PAGE_RECALL (R159): A page of a settled region is recalled in the background, or out of order at the first access to it. -/
  | settledPageRecall (refused : Option Denial)
  /-- RECALL_SETTLED (R153): Every settled region has been recalled; RECALL_SETTLED is raised. -/
  | recallSettled
  /-- FRZ_N_FALL (R65): A falling edge on FRZ_N starts the 100 ns deglitch, or is ignored during a power-fail sequence or a reset store. -/
  | frzNFall (high : Bool)
  /-- FREEZE_ACCEPT (R365): FRZ_N has stayed low for 100 ns; the chip releases WAIT_N, stops its domains in stages and starts the span counter. -/
  | freezeAccept (programming : Bool) (receiving : Bool) (loopIn : Bool) (cut : Option (BitVec 6)) (stood : Bool)
  /-- IMAGE_READY (R366): The page being programmed at the freeze completes, and the Umbra image becomes ready. -/
  | imageReady
  /-- UMBRA_PORT_ENABLE (R65): Once CS_N has been high for 20 ns after a freeze, D[15:0] become the Umbra port. -/
  | umbraPortEnable (falls : Bool)
  /-- UMBRA_ADVANCE (R375): A UCLK rising edge while CS_N is low advances the read-out position and drives the next word. -/
  | umbraAdvance (fell : Bool) (rises : Bool)
  /-- UMBRA_REWIND (R378): CS_N falling after RD_N has been low for 20 ns rewinds the read-out to position 0. -/
  | umbraRewind (rises : Bool)
  /-- FRZ_N_RISE (R66): FRZ_N rising stops the drivers on D[15:0] and starts the resume deglitch. -/
  | frzNRise
  /-- RESUME_ACCEPT (R382): FRZ_N has stayed high for 100 ns; the span counter stops, the RTC advances and the domains restart. -/
  | resumeAccept (high : Bool)
  /-- SPAN_END (R380): The span counter reaches 0xFFFF_FFFF and the chip resumes by itself. -/
  | spanEnd (high : Bool)
  /-- BYPASS_SWITCH (R526): The loop by-pass opens or closes once LI has been idle for 8 µs or 2 ms has passed, or at once for the fast causes. -/
  | bypassSwitch
  /-- BYPASS_SETTLED (R71): SETTLE runs out after the relay is driven, and the node counts as joined. -/
  | bypassSettled
  /-- BYPASS_FAULT (R79): No valid Manchester transitions for 1 ms after SETTLE; the chip closes the by-pass and counts a relay fault. -/
  | bypassFault
  /-- BYPASS_RETRY (R528): The wait after a by-pass fault runs out and the chip tries to join again. -/
  | bypassRetry
  /-- VIOL_LOSS (R81): VIO_L falls below power-good; the chip treats the VIO_L outputs as off and closes the by-pass. -/
  | violLoss
  /-- VIOH_LOSS (R116): VIO_H falls below power-good; the chip stops driving the host bus and ignores its inputs and FRZ_N. -/
  | viohLoss
  /-- VIOH_BACK (R116): VIO_H has been above 1.60 V for 1 ms; host cycles and FRZ_N are accepted again. -/
  | viohBack (high : Bool)
  /-- PF_TRIGGER (R99): PFAIL, the HOLD watermark or VBAT end triggers a power failure and starts the 400 µs deglitch, or declares at once. -/
  | pfTrigger (t : PfTrigger) (vmain : Bool)
  /-- PF_RIDE (R101): The trigger clears before the deglitch ends; the dip is counted as ridden through. -/
  | pfRide (hold : Bool) (vmain : Bool)
  /-- PF_DECLARED (R102): The deglitch expires; the chip sheds its load, copies the legal registers and stores the dirty pages. -/
  | pfDeclared
  /-- HOLD_FLOOR (R103): HOLD falls below 2.30 V during the power-fail store; the store ends at the next page boundary. -/
  | holdFloor
  /-- PF_STORE_END (R102): The power-fail store ends; the chip writes the power-fail record, moves AO to VBAT and enters Vault. -/
  | pfStoreEnd
  /-- MAINS_BACK (R104): PFAIL has stayed above 1.20 V for 10 ms in a Vault entered by a power failure; a warm start waits for HOLDOK. -/
  | mainsBack
  /-- HOLDOK_REACHED (R106): HOLD comes within 0.10 V of VMAIN, which lets a hub leave power-on reset. -/
  | holdokReached
  /-- HOLD_FAULT (R106): HOLDOK is still 0 100 ms after VMAIN power-good; the hub starts anyway. -/
  | holdFault
  /-- VBAT_NEW_CELL (R104): VBAT has been above 3.00 V for 10 s after a VBAT-end power failure; the pod wakes. -/
  | vbatNewCell
  /-- BATEND (R108): In the Hub profile VBAT falls below 2.45 V; BATEND is set without any power failure. -/
  | batend
  /-- VBAT_SAMPLE (R107): The housekeeping ADC samples VBAT after a transmission or at the hourly limit, and checks it against BATLOW. -/
  | vbatSample (mv : BitVec 12)
  /-- VDRV_FAULT (R115): VDRV leaves its range, or the pump misses its setpoint, and firing stops. -/
  | vdrvFault
  /-- DOZE_REQUEST (R98): Request code 1 asks for Doze until the next wake source. -/
  | dozeRequest
  /-- LISTEN_REQUEST (R98): Request code 2 asks for Listen; it is refused in the Hub profile or while any metering point is enabled. -/
  | listenRequest
  /-- VAULT_REQUEST (R98): Request code 3 asks for Vault; it is refused while metering or during a power-fail sequence. -/
  | vaultRequest
  /-- MODE_STORE_DONE (R401): The store of every region that precedes Vault or Listen ends, and the mode is entered. -/
  | modeStoreDone
  /-- AUTO_DOZE (R93): With FLOOR 1 and every idle condition met, the chip enters Doze by itself. -/
  | autoDoze (other : Bool)
  /-- SCHEDULED_WAKE (R94): The chip leaves Doze 450 µs before scheduled work. -/
  | scheduledWake (other : Bool)
  /-- RTC_ALARM (R96): The RTC reaches PWR_ALARM from below and wakes the chip. -/
  | rtcAlarm
  /-- HOST_WAKE (R114): CS_N or SEL_N falling wakes the chip; the waking cycle has no effect. -/
  | hostWake
  /-- WARM_START (R148): A wake source in Vault or Listen starts a warm start with the straps kept. -/
  | warmStart (source : Fin 10)
  /-- LFXO_FAIL (R137): No LFXO edge for 4 LPO periods; the RTC and the LFXO domains move to the LPO. -/
  | lfxoFail
  /-- LFXO_BACK (R137): LFXO has been within tolerance for 1,024 cycles; the chip switches back at a 1/1024 s boundary. -/
  | lfxoBack
  /-- HFXO_FAIL (R139): No HFXO edge for 2 µs; the system domains move to the SRO and the front-end domains stop. -/
  | hfxoFail
  /-- SPLL_UNLOCK (R137): The SPLL phase error is beyond its limit for 1 µs; the chip responds as for an HFXO failure. -/
  | spllUnlock
  /-- HFXO_RESTART_TRY (R137): Each second the chip tries to restart HFXO and checks its counts. -/
  | hfxoRestartTry (count : Nat)
  /-- HFXO_BACK (R137): Four counts in window and an SPLL relock return the system domains to HFXO and the SPLL. -/
  | hfxoBack
  /-- HFXO_START_TIMEOUT (R145): HFXO has not started 2 ms after power-on reset; the chip starts on the SRO. -/
  | hfxoStartTimeout (lfxo : Bool)
  /-- EPLL_UNLOCK (R137): An echo-engine PLL loses lock; the engine fires nothing and discards the shot in flight. -/
  | epllUnlock (k : Fin 4)
  /-- EPLL_RELOCK (R137): The EPLL relock has held for 1 ms and the engine may fire again. -/
  | epllRelock (k : Fin 4)
  /-- LPO_RANGE (R137): The LPO leaves 24–40 kHz; the Doze timer runs from LFXO. -/
  | lpoRange
  /-- LPO_BACK (R137): The LPO has been back in range for 16 s. -/
  | lpoBack
  /-- LPO_CALIBRATE (R138): Each second that HFXO runs while the LPO drives the RTC, the LPO is calibrated. -/
  | lpoCalibrate (freq : BitVec 22)
  /-- XO_MISMATCH_COUNT (R140): An HFXO count over 32 LFXO or LPO cycles ends and is checked against its window. -/
  | xoMismatchCount (count : Nat)
  /-- ZERO_CROSSING (R135): A mains crossing is observed; the tracker updates r and P or ignores it, and acquires or keeps lock. -/
  | zeroCrossing (phase : Fin 3) (t : Int)
  /-- ZC_MISSED (R135): No crossing is seen by the prediction plus 300 µs; it counts as deviating and may clear LOCK. -/
  | zcMissed (phase : Fin 3)
  /-- H_KEY_ARM (R193): 0x5AC3 written to H_KEY arms the key; any other value disarms it. -/
  | hKeyArm (v : BitVec 16)
  /-- KEY_TIMEOUT (R193): The key disarms 1 ms after arming. -/
  | keyTimeout
  /-- WINRST (R171): Keyed H_CTRL.WINRST clears every window's address, latches, buffer and held half. -/
  | winrst
  /-- MBOXRST (R171): Keyed H_CTRL.MBOXRST empties both mailbox FIFOs and the message queue. -/
  | mboxrst
  /-- WINDOW_SELECT_WRITE (R187): A write of Wn_SEL or Wn_ADDR clears RDY and, with prefetch, starts a prefetch. -/
  | windowSelectWrite (n : Fin 3) (address : Bool) (v : BitVec 16)
  /-- PREFETCH_DONE (R191): A window's prefetch read is served or refused, and RDY or CODE is set. -/
  | prefetchDone (n : Fin 3) (waited : Nat) (upset : Upset)
  /-- WINDOW_DLO_READ (R188): A read of Wn_DLO reads the whole word, latches its high half, commits side effects at completion and may advance the address. -/
  | windowDloRead (n : Fin 3) (waited : Nat) (upset : Upset) (since : Word) (whole : Bool) (posted : Nat)
  /-- WINDOW_DLO_WRITE (R189): A write of Wn_DLO holds the low half in the bridge. -/
  | windowDloWrite (n : Fin 3) (v : BitVec 16)
  /-- WINDOW_DHI_WRITE (R189): A write of Wn_DHI commits the held low half and the high half as one 32-bit write. -/
  | windowDhiWrite (n : Fin 3) (waited : Nat) (v : BitVec 16)
  /-- HOST_BOUND_EXPIRY (R173): A forwarded host access not accepted 6 µs after its strobe is refused with REFUSED_BUSY. -/
  | hostBoundExpiry (off : BitVec 6) (write : Bool) (presented : Bool)
  /-- SERIAL_FRAME (R183): SEL_N rises after at least 32 edges; the frame takes effect if its CRC matches, and is discarded otherwise. -/
  | serialFrame (bits : BitVec 32) (edges : Nat) (waited : Nat) (occupied : Bool) (since : Word) (high : Bool) (posted : Nat) (driven : BitVec 12) (level : BitVec 12)
  /-- SER_SHORT (R185): SEL_N rises after 1 to 31 edges; the frame is discarded and counted. -/
  | serShort (high : Bool) (driven : BitVec 12) (level : BitVec 12)
  /-- H_TIME_LO_READ (R195): A read of H_TIME_LO returns RTC bits 15:0 and latches bits 47:16. -/
  | hTimeLoRead
  /-- H_EVT_LO_READ (R557): A read of H_EVT_LO returns the pending bits 15:0 of the bank and latches bits 31:16 for H_EVT_ACK.ALL. -/
  | hEvtLoRead
  /-- CLOCK_SET_REQUEST (R195): A keyed write of H_TIME_CTL.CMD = 1 requests a set of the RTC to the held value. -/
  | clockSetRequest (waited : Nat)
  /-- CLOCK_SET_LOAD (R195): At the next 1/1024 s boundary the held value is loaded into the RTC, and TIME_SET is raised and logged. -/
  | clockSetLoad
  /-- WDG_KICK (R196): A write of H_WDG with KICK 0xA5 restarts the host watchdog count. -/
  | wdgKick
  /-- WDG_SET_PERIOD (R196): A write of H_WDG with KICK 0x00 sets PERIOD and restarts the count. -/
  | wdgSetPeriod (period : BitVec 8)
  /-- HOST_WDG (R196): The host watchdog expires; HOSTLOST is set and MBOX becomes unavailable. -/
  | hostWdg
  /-- MBOX_TX_WRITE (R197): A write of H_MBOX_TX adds a word to the transmit FIFO, or is refused with FULL. -/
  | mboxTxWrite (v : BitVec 16)
  /-- MBOX_MESSAGE (R197): A whole message is in the transmit FIFO and the chip takes it. -/
  | mboxMessage
  /-- MBOX_RX_READ (R197): A completed read of H_MBOX_RX removes the word it returned. -/
  | mboxRxRead
  /-- MBOX_DELIVER (R198): The chip places a whole message in the receive FIFO, or queues it, dropping the oldest when 16 wait. -/
  | mboxDeliver
  /-- STG_ERR_READ (R215): A completed read of H_STG_ERR consumes the next conflict code. -/
  | stgErrRead
  /-- STAGING_WRITE (R204): A write through a staging path creates or replaces an entry, or is ignored or marks the set full. -/
  | stagingWrite (i : Fin 14) (dated : Bool) (addr : BitVec 24) (v : Word)
  /-- CHECK (R209): CHECK starts evaluating the result configuration of the named set without changing anything. -/
  | stgCheck (dated : Bool)
  /-- CHECK_DONE (R209): The check ends with CHECK_OK or CONFLICT and its conflict list. -/
  | stgCheckDone
  /-- APPLY (R210): APPLY closes the set to writes and starts the check of an immediate or a dated apply. -/
  | stgApply (dated : Bool)
  /-- APPLY_CHECK_DONE (R210): The check of an APPLY ends; the set becomes SCHEDULED with its boundary, or is refused. -/
  | stgApplyCheckDone
  /-- DISCARD (R213): DISCARD empties a set, or is refused when the set is COMMITTED or lacks a needed session. -/
  | stgDiscard (dated : Bool)
  /-- COMMIT_POINT (R212): At B − 1 ms the set is checked again and becomes COMMITTED, or is refused whole. -/
  | commitPoint
  /-- SET_TAKES_EFFECT (R218): At its boundary the set writes every staged field live in one instant and CFGVER advances. -/
  | setTakesEffect (refused : List (BitVec 24))
  /-- EPOCH_BOUNDARY (R243): An epoch starts and the chip builds its firing schedule from the configuration. -/
  | epochBoundary
  /-- SHOT_PREPARATION (R247): 50 µs before its forward fire, a unit unclamps and connects its ports and self-calibrates its receive channels. -/
  | shotPreparation (n : Nat) (rings : List (Fin 4 × Nat)) (cals : List CalPulse)
  /-- FORWARD_FIRE (R244): At its scheduled time a unit fires its forward bursts, or the shots are NOT_FIRED. -/
  | forwardFire (n : Nat) (vdrv : Nat)
  /-- DRIVE_FAULT (R257): A driver reaches its current limit for 1 µs and stops for the rest of the shot. -/
  | driveFault (port : Fin 64)
  /-- CAPTURE_CLOSE (R247): A capture window closes, the shot record is queued and the roles are swapped. -/
  | captureClose (p : Fin 32) (cap : Capture)
  /-- REVERSE_FIRE (R239): The reverse shots fire w(u) + g(u) after the forward shots. -/
  | reverseFire (n : Nat) (vdrv : Nat) (rings : List (Fin 4 × Nat)) (cals : List CalPulse)
  /-- UNIT_RELEASE (R247): 20 µs after the reverse capture closes, the ports are clamped and the engines are free. -/
  | unitRelease (n : Nat)
  /-- SHOT_PROCESSED (R267): An engine finishes processing a shot into a TOF and a quality, testing the codes in order. -/
  | shotProcessed (e : Fin 4) (refused : Option Denial)
  /-- FLOW_CUTOFF (R309): At B + 38 ms FLE and NGE take the pairs processed so far and compute the epoch. -/
  | flowCutoff (nge : Bool) (refused : Option Denial)
  /-- TEMP_CONVERSION (R299): An RTD conversion completes and gives a temperature, or an overload, or a fault after four overloads. -/
  | tempConversion (c : Fin 16) (conv : Conversion)
  /-- BRIDGE_CONVERSION (R301): A bridge conversion completes and gives a pressure, or an overload or a fault. -/
  | bridgeConversion (k : Fin 4) (conv : Conversion)
  /-- EPOCH_PUBLICATION (R250): At the end of the tail the epoch is published and unprocessed shots end OVERRUN. -/
  | epochPublication
  /-- BIL_CMD_CLOSE (R330): A CLOSE command takes the present RTC as C for a close at the next publication. -/
  | bilCmdClose (mask : BitVec 4)
  /-- RESETTR (R318): A RESETTR command resets the tariff registers after a close at the next publication. -/
  | resettr (mask : BitVec 4)
  /-- VSW_CHANGE (R341): VSW_N has held a new level for 10 ms; VSW is set or cleared and the chip wakes. -/
  | vswChange (low : Bool)
  /-- OPEN (R343): OPEN into SYS_VS_CMD starts the session request: BUSY is set and FAILS incremented first. -/
  | sessionOpen
  /-- OPEN_RESULT (R343): 96 µs after the request, RESULT reads OPENED or DENIED and a lock-out may start. -/
  | sessionOpenResult
  /-- SESSION_CLOSE (R348): CLOSE in SYS_VS_CMD ends an open session. -/
  | sessionClose
  /-- SESSION_TIMEOUT (R348): 4 hours on the AO tick after the latest accepted OPEN, the session ends. -/
  | sessionTimeout
  /-- LOCKOUT_END (R346): A session lock-out runs out on the AO tick. -/
  | lockoutEnd
  /-- INSTALL (R360): INSTALL starts the tests of a patch image in an open Calico bank. -/
  | patchInstall
  /-- PATCH_TESTS_DONE (R361): The installation tests end; the image is stored and FLOOR advances, or it is refused with a code. -/
  | patchTestsDone (refused : Option Denial)
  /-- PATCH_REMOVE (R362): REMOVE deletes a core's stored patch image from the next start. -/
  | patchRemove (core : BitVec 2)
  /-- STORE_PERIOD (R396): The RTC reaches a multiple of a region's PERIOD and a store of that region is requested. -/
  | storePeriod
  /-- STORE_START (R397): STC starts the next pending store and takes its set of dirty pages. -/
  | storeStart
  /-- STORE_PAGE_DONE (R398): A page is programmed and read back; it is retried, or moved to a spare. -/
  | storePageDone (good : Bool)
  /-- STORE_DONE (R397): A store of a region ends and STORE_DONE is raised. -/
  | storeDone
  /-- STORE (R409): STORE requests stores of the regions in its mask, with no access check. -/
  | stoStore (who : Fin 14) (mask : BitVec 16)
  /-- READ (R406): READ on the data port starts an access check, or opens a transfer at once for the owner. -/
  | stoRead (who : Fin 14) (region : Fin 32)
  /-- WRITE (R406): WRITE on the data port starts an access check, or opens a transfer at once for the owner. -/
  | stoWrite (who : Fin 14) (region : Fin 32)
  /-- SETPWR (R416): SETPWR starts an access check to replace a user region's read password. -/
  | stoSetPwr (who : Fin 14) (region : Fin 32)
  /-- SETPWW (R416): SETPWW starts an access check to replace a user region's write password. -/
  | stoSetPww (who : Fin 14) (region : Fin 32)
  /-- TRANSFER_CLOSE (R405): CLOSE ends an open data-port transfer with OK. -/
  | transferClose (who : Fin 14)
  /-- ACCESS_CHECK_DONE (R411): 96 µs after a checked command, RESULT reads OK or STO_E_DENIED and a lock-out may start. -/
  | accessCheckDone
  /-- STO_LOCKOUT_END (R412): A store attempt-counter lock-out runs out on the AO tick. -/
  | stoLockoutEnd (c : Fin 17)
  /-- PDATA_ACCESS (R406): An access to STO_PDATA moves the next 4 bytes of the open transfer and may close it. -/
  | pdataAccess (who : Fin 14) (v : Option Word)
  /-- STC_FABRIC_RETRY (R421): After a refused Twill access, STC retries it after 100 µs or every 1 ms. -/
  | stcFabricRetry (refused : Option Denial)
  /-- RESV_STORED (R418): The store of a frame-counter reservation ends and the new limit is confirmed; waiting frames go on. -/
  | resvStored
  /-- PLS_TRAIN_LOAD (R443): NWC loads a train into the PLC transmitter under the PTX lease. -/
  | plsTrainLoad (own : List NetMessage)
  /-- PLS_BACKOFF_END (R439): The back-off countdown ends after the idle wait and the train starts. -/
  | plsBackoffEnd (r : Nat)
  /-- TRAIN_END (R434): The flush of a train ends and the node waits for its acknowledgement. -/
  | trainEnd
  /-- TX_FAULT (R428): Eight consecutive pulses peak below ITXMIN and the train is abandoned. -/
  | txFault (phase : Fin 3)
  /-- PREAMBLE_DETECT (R438): A receiver detects a preamble and start word; the medium is busy and R is taken from the start word. -/
  | preambleDetect (code : Fin 3)
  /-- PLS_FRAME_RECEIVED (R437): A power-line frame is decoded; it is taken, relayed or dropped after its HCS and CRC tests. -/
  | plsFrameReceived (bytes : List (BitVec 8)) (refused : Option Denial)
  /-- PLS_ACK_SEND (R440): 8 half-cycles after a train with ACKREQ ends, the receiver sends its acknowledgement train. -/
  | plsAckSend
  /-- PLS_ACK_TIMEOUT (R441): The acknowledgement wait ends; frames not acknowledged return to NWC for retry. -/
  | plsAckTimeout
  /-- TRAIN_ABANDONED (R446): LOCK has not returned within GAPMAX half-cycles and the train is abandoned. -/
  | trainAbandoned
  /-- GAP_ERASED (R447): A receiver counts more than GAPMAX erased half-cycles and ends its reception. -/
  | gapErased
  /-- ROUTE_ADVERTISEMENT (R454): Every ADV minutes, or after a large cost change, the node broadcasts its route advertisements. -/
  | routeAdvertisement
  /-- NBR_LOST (R452): A mesh neighbour unheard for three advertisement periods is removed and its routes broken. -/
  | nbrLost (n : Fin 32)
  /-- RADIO_FRAME_LOAD (R472): NWC loads a frame with its descriptor into RTX, or the load is refused at a full queue. -/
  | radioFrameLoad (own : Option NetMessage)
  /-- RADIO_BACKOFF_END (R474): A back-off ends and a 160 µs clear-channel assessment runs. -/
  | radioBackoffEnd (r : Nat)
  /-- CCA_DONE (R474): The assessment ends; the node sends, or backs off again, or fails the try after CCAMAX. -/
  | ccaDone (busy : Bool)
  /-- TX_DONE (R461): A radio transmission ends; an acknowledgement wait or the next work begins. -/
  | txDone
  /-- GAUZE_FRAME_RECEIVED (R468): A Gauze frame is received and passes CRC, NET, NEXT, sequence and security steps before delivery or relay. -/
  | gauzeFrameReceived (bytes : List (BitVec 8)) (rssi : BitVec 8) (refused : Option Denial)
  /-- RADIO_ACK_SEND (R475): 500 µs after a frame with ACKREQ for this node, the acknowledgement is sent. -/
  | radioAckSend
  /-- RADIO_ACK_RECEIVED (R476): An acknowledgement arrives for a frame that awaits it; a held frame may follow after PENDING. -/
  | radioAckReceived (bytes : List (BitVec 8))
  /-- RADIO_ACK_TIMEOUT (R476): No acknowledgement within 4.3 ms; the frame is tried again or given up. -/
  | radioAckTimeout
  /-- DUTY_TIMEOUT (R477): A frame has waited 3,600 s for duty budget and is treated as after its last try. -/
  | dutyTimeout
  /-- GWAIT_EXPIRY (R478): GWAIT after a Glint pattern ends and the WAKE frame is sent on the Gauze channel. -/
  | gwaitExpiry
  /-- GLINT_MATCH (R480): The Glint receiver matches a wake pattern for this pod and wakes it. -/
  | glintMatch (pattern : List (BitVec 8))
  /-- RXWIN_EXPIRY (R481): The pod's receive or answer window runs out and the receiver closes. -/
  | rxwinExpiry
  /-- RELAY_DELAY_END (R484): A queued relay's random delay runs out and its back-off starts. -/
  | relayDelayEnd (k : Nat)
  /-- WMB_TELEGRAM (R464): The telegram interval with its jitter expires and an EN 13757-4 telegram is sent. -/
  | wmbTelegram (air : Nat)
  /-- WMB_RX (R464): A C1 or T1 telegram with a good CRC is received and handed to NWC. -/
  | wmbRx (telegram : List (BitVec 8)) (good : Bool)
  /-- UPDATE (R492): UPDATE loads a key into a slot, resets its counter and makes the first reservation. -/
  | keyUpdate (slot : Fin 32) (size : Bool) (use : BitVec 4)
  /-- ERASE (R492): ERASE writes 0 to a slot's key and makes it EMPTY. -/
  | keyErase (slot : Fin 32)
  /-- SEC_RAISE_LIMIT (R504): Each 60 s of the AO tick, AUTH_FAIL or REPLAY may be raised again if its count has grown. -/
  | secRaiseLimit
  /-- LOOP_MESSAGE_LOAD (R521): NWC loads a loop message into the master or slave queue, which is refused when full. -/
  | loopMessageLoad (own : Option NetMessage)
  /-- POLL (R520): The master sends a POLL to the next station, with any waiting down message. -/
  | loopPoll
  /-- BROADCAST (R524): The master sends a BROADCAST with a message for all nodes. -/
  | loopBroadcast
  /-- DISCOVER (R519): The master sends a DISCOVER and the slaves in turn take stations. -/
  | loopDiscover
  /-- LOOP_FRAME_REPEAT (R518): A slave repeats a frame cut-through, checking HCS and CRC and rewriting its fields. -/
  | loopFrameRepeat (bytes : List (BitVec 8)) (stalled : Bool) (refused : Option Denial)
  /-- LOOP_VIOLATION (R525): A slave detects a Manchester violation in a frame, stops forwarding and sends the abort sequence. -/
  | loopViolation (cells : Nat) (transitions : List Nat)
  /-- LOOP_ABORT_RX (R525): A slave receives an abort sequence and propagates it. -/
  | loopAbortRx
  /-- LOOP_RETURN (R523): A frame returns to the master and is taken, or fails late or with a bad CRC. -/
  | loopReturn (bytes : List (BitVec 8)) (after : Nat) (broken : Bool) (stalled : Bool) (refused : Option Denial)
  /-- LOOP_NO_RETURN (R523): No start word returns by 325 µs; the frame fails and the ring may be lost. -/
  | loopNoReturn
  /-- LOOP_SILENT (R529): A slave sees no good-HCS frame for 100 ms and clears RING. -/
  | loopSilent
  /-- STATION_LOSS (R527): A slave with no good-HCS frame for 1 s loses its station. -/
  | stationLoss
  /-- REPORT_DUE (R536): A pod's report interval or a rising flag triggers a JOIN or a REPORT to its hub. -/
  | reportDue
  /-- JOIN (R540): A hub takes a JOIN and admits or refuses the pod, answering with JOIN_RESP. -/
  | podJoin
  /-- JOIN_RESP (R537): A pod takes a JOIN_RESP and sets JOINED or stays unjoined. -/
  | podJoinResp
  /-- REPORT (R542): A hub stores the reading records of a REPORT from a joined pod. -/
  | podReport
  /-- POD_DOWN (R549): A hub sends the bytes of a POD_DOWN to the pod, or answers NO_POD. -/
  | podDown
  /-- POD_REMOVE (R541): POD_REMOVE frees the pod's entry and its records. -/
  | podRemove
  /-- READ_STORE (R549): READ_STORE marks the pod's stored records from an RSEQ as unforwarded. -/
  | readStore
  /-- TRANSIT (R548): A hub sends onward a concentrator message addressed to it from another hub. -/
  | conTransit
  /-- CON_CMD_REMOVE (R541): REMOVE in CON_CMD frees entry INDEX of the pod table. -/
  | conCmdRemove (index : BitVec 8)
  /-- FORWARD_CYCLE (R545): Every RETRYMIN minutes the hub rebuilds messages from unforwarded records and forwards them. -/
  | forwardCycle
  /-- POD_SILENT (R541): A pod unheard for SILENTH hours becomes SILENT. -/
  | podSilent (n : Fin 250)
  /-- HELD_EXPIRED (R549): A frame held for a pod for HOLDMAX minutes is sent with WAKE 1. -/
  | heldExpired
  /-- EVENT_RAISE (R553): The event matrix takes a raise, sets its raw bit and routes it to host, cores, wake logic and logs. -/
  | eventRaise
  /-- H_EVT_ACK (R557): A write of H_EVT_ACK clears one host-pending bit, or every bit that the latest H_EVT_LO read returned as 1. -/
  | hEvtAck (v : BitVec 16) (waited : Nat)
  /-- LEGAL_ENTRY_WRITE (R564): LGC writes the next queued legal entry into the log array, or withholds it under the quota rule. -/
  | legalEntryWrite (good : Bool)
  /-- OPEN_ENTRY_WRITE (R570): The log controller writes the next FIFO entry into the open log with its SEQ. -/
  | openEntryWrite (good : Bool)
  /-- OPT_REQUEST (R582): A request message whose address matches opens an optical session. -/
  | optRequest (msg : List (BitVec 8))
  /-- OPT_IDENT_SEND (R582): 200 ms after the request, the chip sends its identification. -/
  | optIdentSend
  /-- OPT_ACK (R581): An acknowledgement selects the rate and leads to the data message after 200 ms. -/
  | optAck (z : BitVec 8) (y : BitVec 8) (bad : Bool)
  /-- OPT_ACK_TIMEOUT (R582): No acknowledgement within 1,500 ms; the data message is sent at 300 baud. -/
  | optAckTimeout
  /-- OPT_READOUT (R583): The chip sends the data message with one line for each item of list 3. -/
  | optReadout
  /-- OPT_SILENCE (R584): 1,500 ms without a character ends the optical session. -/
  | optSilence
  /-- OPT_VS_REQ (R586): A W6 message through the optical head writes the credential and OPEN, or CLOSE, and is answered after 200 ms. -/
  | optVsReq (msg : List (BitVec 8)) (bad : Bool)
  /-- BUTTON_PRESS (R591): BTNn has been low for 20 ms; the button acts on the display. -/
  | buttonPress (n : Fin 4)
  /-- BTN_LONG (R591): A press held for 2 s is a long press with its own action. -/
  | btnLong (n : Fin 4)
  /-- BUTTON_RELEASE (R591): BTNn has been high for 20 ms and the button counts as released. -/
  | buttonRelease (n : Fin 4)
  /-- DISPLAY_TEST_END (R591): The 2 s display test ends. -/
  | displayTestEnd
  /-- DISPLAY_SCROLL (R590): Every SCROLL seconds without a press, the display advances through list 0. -/
  | displayScroll
  /-- DISPLAY_OFF (R590): In MODE 1 the display turns off ONTIME seconds after the latest press. -/
  | displayOff
  /-- DISPLAY_TIMEOUT (R591): TIMEOUT seconds without a press return the display to list 0, item 0. -/
  | displayTimeout
  /-- PULSE_END (R592): A pulse or its open interval of WIDTH ms ends and the next backlog pulse may start. -/
  | pulseEnd (n : Fin 4)
  /-- PULSE_INPUT_EDGE (R594): A filtered edge on PIn is counted. -/
  | pulseInputEdge (n : Fin 4) (rising : Bool)
  /-- CORE_WDG (R603): A core watchdog expires and the core restarts with cause WATCHDOG. -/
  | coreWdg (c : Fin 3)
  /-- CORE_RESTART_DONE (R601): A core restart completes; LGC runs its integrity check and the others check their patch images. -/
  | coreRestartDone (c : Fin 3)
  /-- TEMP_SAMPLE (R626): The housekeeping ADC samples the die temperature at an epoch start, or each minute in Doze. -/
  | tempSample (value : BitVec 16)
  /-- OPT_START_BIT_WAKE (R585): A start bit on OPT_RX wakes the chip from Doze, and the character it begins is received. -/
  | optStartBitWake
  /-- VAULT_RETENTION_LOSS (R118): The AO supply falls below 1.80 V and the vault content and RTC count are lost. -/
  | vaultRetentionLoss
  /-- VDRV_BACK (R115): VDRV returns into range, or the Pod pump reaches its setpoint, VDRVOK is set and firing may resume under R256. -/
  | vdrvBack
  /-- VIOL_BACK (R67): VIO_L rises back above power-good and the VIO_L ball groups leave their unpowered state. -/
  | violBack
  /-- PLS_HALF_CYCLE (R429): Each half-cycle of the timing phase, relative to the predicted crossing, the transmitter places its pulse and the receiver closes its windows and decides a symbol or an erasure. -/
  | plsHalfCycle (waves : List PhaseWave)
  /-- DUTY_BUDGET_FITS (R477): Older transmit time leaves the rolling 3,600 s window, and a frame waiting under the duty budget now fits and proceeds. -/
  | dutyBudgetFits
  /-- PENDING_FRAME_SEND (R478): 2 ms after an acknowledgement carrying PENDING 1, the hub sends the held frame for that pod without back-off. -/
  | pendingFrameSend
  /-- OPT_MESSAGE_END (R584): The last character of the optical data message is sent, the session ends and the port returns to 300 baud. -/
  | optMessageEnd
  deriving DecidableEq, Repr

end Sys2Proof
end

