-- ==== Sys2Proof/Config.lean ====
section
/-! DEFINITION. What an implementation fixes and what the spec leaves open: constants without a body (free values) that
nothing in Lean can evaluate, so that a claim about them holds for every value. -/

namespace Sys2Proof.Config

/-- A fresh 32-bit value the spec leaves open, one per value of the state's counter `free`. -/
opaque freeWord : Nat → BitVec 32

/-- Ploerelm's glycol tables (R303), held in sealed ROM and not printed: density in kg/m³ and specific enthalpy in kJ/kg, by
FLUID (1 ethylene glycol, 2 propylene glycol), volume per cent (a 10 % step), temperature in 10 µK Celsius and pressure in Pa. -/
opaque glycolDensity : Nat → Nat → Int → Int → Rat
opaque glycolEnthalpy : Nat → Nat → Int → Int → Rat

/-- The volume at base conditions of R306 in mL where its formula divides by 0 (PB of 0, or a temperature of 0 K), by the volume in mL, the
pressure in Pa, PB in Pa and the temperature in 10 µK Celsius. -/
opaque openBaseVolume : Rat → Int → Nat → Int → Rat

/-- The response of a receive channel's band-pass filter, corners at 0.5 and 2 times FREQ in kHz, to samples at 64 MS/s (R230), and the quadrature
of a template, by which its correlation with a capture is complex (R262): the spec names both and gives no filter. -/
opaque channelFilter : Nat → List Rat → List Rat
opaque quadrature : List Rat → List Rat

/-- The ROM version of a core, 0 LGC, 1 APC, 2 NWC, and the CRC-32 over LGC's ROM and fluid tables: fixed for the stepping and
not printed (R358, R360). -/
opaque romVersion : Nat → BitVec 32
opaque lgcRomCrc : BitVec 32

/-- Is the ECDSA signature of a patch image (R359) valid under Ploerelm's public key, which the spec does not print? -/
opaque patchSigned : List (BitVec 32) → Bool

/-- Word `k` of the area of CB0 in which LGC keeps its Calico-resident legal registers, for the register words of a set's body: the layout is the
ROM's own and no interface (R602, R648). -/
opaque legalAreaWord : List (BitVec 32) → Nat → BitVec 32

/-- The seven-bit character that stands for the degree sign in a data message (Table LOC-2): the spec names no code. -/
opaque degreeChar : BitVec 8

end Sys2Proof.Config
end

