-- ==== Sys2Proof/Machine/Fields.lean ====
section
/-! DEFINITION. The names and places of every register field of the spec: one `Fd` (word address, high bit, low bit)
per field of the register tables of chapters 00 to 23, and the word address of every register.
Deep-space registers stand at their word address (Table IDX-2); the 48 host registers of Table HST-1, which are not in
deep space, stand at `hostBase` plus A[6:1]. -/

namespace Sys2Proof.Machine

/-- A register field: the word it lies in and its bits `hi` down to `lo` (R5). -/
structure Fd where
  addr : Nat
  hi : Nat
  lo : Nat
  deriving DecidableEq, Repr

/-- Where the host registers of Table HST-1 stand in the register store (above deep space, which ends at 0xFF_FFFF). -/
def hostBase : Nat := 0x1000000

def SYS_RCAUSE.addr : Nat := 0x20
def SYS_RCAUSE.CAUSE : Fd := ⟨SYS_RCAUSE.addr, 2, 0⟩
def SYS_RCAUSE.SEEN : Fd := ⟨SYS_RCAUSE.addr, 7, 4⟩
def SYS_RSTCNT.addr : Nat := 0x21
def SYS_RSTCNT.POR : Fd := ⟨SYS_RSTCNT.addr, 7, 0⟩
def SYS_RSTCNT.PIN : Fd := ⟨SYS_RSTCNT.addr, 15, 8⟩
def SYS_RSTCNT.SOFT : Fd := ⟨SYS_RSTCNT.addr, 23, 16⟩
def SYS_RSTCNT.WARM : Fd := ⟨SYS_RSTCNT.addr, 31, 24⟩
def SYS_BOOT.addr : Nat := 0x22
def SYS_BOOT.PHASE : Fd := ⟨SYS_BOOT.addr, 3, 0⟩
def SYS_BOOT.LEGALBACK : Fd := ⟨SYS_BOOT.addr, 4, 4⟩
def SYS_BOOT.LEGALZERO : Fd := ⟨SYS_BOOT.addr, 5, 5⟩
def SYS_BOOT.ROMFAIL : Fd := ⟨SYS_BOOT.addr, 6, 6⟩
def SYS_BOOT.READY : Fd := ⟨SYS_BOOT.addr, 31, 16⟩
def SYS_RECALL.addr (i : Nat) : Nat := 0x23 + i
def SYS_RECALL.OUTCOMES (i : Nat) : Fd := ⟨SYS_RECALL.addr i, 31, 0⟩
def SYS_TSTART.addr : Nat := 0x25
def SYS_TSTART.TSTART_LO : Fd := ⟨SYS_TSTART.addr, 31, 0⟩
def SYS_TSTART_H.addr : Nat := 0x26
def SYS_TSTART_H.TSTART_HI : Fd := ⟨SYS_TSTART_H.addr, 15, 0⟩
def SYS_SWRST.addr : Nat := 0x27
def SYS_SWRST.KEY : Fd := ⟨SYS_SWRST.addr, 15, 0⟩
def SYS_STRAP.addr : Nat := 0x40
def SYS_STRAP.PROFILE : Fd := ⟨SYS_STRAP.addr, 0, 0⟩
def SYS_STRAP.HOSTMODE : Fd := ⟨SYS_STRAP.addr, 1, 1⟩
def SYS_STRAP.BYPTYPE : Fd := ⟨SYS_STRAP.addr, 2, 2⟩
def SYS_STRAP.LCDEN : Fd := ⟨SYS_STRAP.addr, 3, 3⟩
def SYS_STRAP.SPLIT : Fd := ⟨SYS_STRAP.addr, 11, 8⟩
def SYS_SPARE.addr : Nat := 0x41
def SYS_SPARE.SPARE : Fd := ⟨SYS_SPARE.addr, 11, 0⟩
def SYS_SPARE.PDIS : Fd := ⟨SYS_SPARE.addr, 16, 16⟩
def SYS_PINCFG.addr : Nat := 0x42
def SYS_PINCFG.PIDIS : Fd := ⟨SYS_PINCFG.addr, 3, 0⟩
def SYS_PINCFG.BTNDIS : Fd := ⟨SYS_PINCFG.addr, 7, 4⟩
def SYS_PINCFG.OPTDIS : Fd := ⟨SYS_PINCFG.addr, 8, 8⟩
def SYS_PINCFG.AUXDIS : Fd := ⟨SYS_PINCFG.addr, 9, 9⟩
def SYS_BYPASS.addr : Nat := 0x43
def SYS_BYPASS.SETTLE : Fd := ⟨SYS_BYPASS.addr, 4, 0⟩
def SYS_BYPASS.CLOSED : Fd := ⟨SYS_BYPASS.addr, 16, 16⟩
def SYS_BYPASS.FAULTS : Fd := ⟨SYS_BYPASS.addr, 31, 24⟩
def SYS_TEMP.addr : Nat := 0x44
def SYS_TEMP.TEMP : Fd := ⟨SYS_TEMP.addr, 15, 0⟩
def SYS_VS_CMD.addr : Nat := 0x80
def SYS_VS_CMD.CMD : Fd := ⟨SYS_VS_CMD.addr, 1, 0⟩
def SYS_VS_STAT.addr : Nat := 0x81
def SYS_VS_STAT.BUSY : Fd := ⟨SYS_VS_STAT.addr, 0, 0⟩
def SYS_VS_STAT.RESULT : Fd := ⟨SYS_VS_STAT.addr, 3, 1⟩
def SYS_VS_STAT.ENDCAUSE : Fd := ⟨SYS_VS_STAT.addr, 6, 4⟩
def SYS_VS_CRED.addr (i : Nat) : Nat := 0x84 + i
def SYS_VS_CRED.CRED (i : Nat) : Fd := ⟨SYS_VS_CRED.addr i, 31, 0⟩
def SYS_PATCH_CMD.addr : Nat := 0x90
def SYS_PATCH_CMD.CMD : Fd := ⟨SYS_PATCH_CMD.addr, 1, 0⟩
def SYS_PATCH_CMD.CORE : Fd := ⟨SYS_PATCH_CMD.addr, 3, 2⟩
def SYS_PATCH_SRC.addr : Nat := 0x91
def SYS_PATCH_SRC.ADDR : Fd := ⟨SYS_PATCH_SRC.addr, 23, 0⟩
def SYS_PATCH_STAT.addr : Nat := 0x92
def SYS_PATCH_STAT.BUSY : Fd := ⟨SYS_PATCH_STAT.addr, 0, 0⟩
def SYS_PATCH_STAT.CODE : Fd := ⟨SYS_PATCH_STAT.addr, 4, 1⟩
def FLT_CORE.addr (i : Nat) : Nat := 0xc0 + i
def FLT_CORE.RESTARTS (i : Nat) : Fd := ⟨FLT_CORE.addr i, 7, 0⟩
def FLT_CORE.LAST (i : Nat) : Fd := ⟨FLT_CORE.addr i, 10, 8⟩
def FLT_CORE.HALTED (i : Nat) : Fd := ⟨FLT_CORE.addr i, 11, 11⟩
def FLT_CORE.WINDOW (i : Nat) : Fd := ⟨FLT_CORE.addr i, 19, 16⟩
def PWR_STAT.addr : Nat := 0x10000
def PWR_STAT.AOSRC : Fd := ⟨PWR_STAT.addr, 0, 0⟩
def PWR_STAT.HOLDOK : Fd := ⟨PWR_STAT.addr, 1, 1⟩
def PWR_STAT.PFLOW : Fd := ⟨PWR_STAT.addr, 2, 2⟩
def PWR_STAT.BATLOW : Fd := ⟨PWR_STAT.addr, 3, 3⟩
def PWR_STAT.BATEND : Fd := ⟨PWR_STAT.addr, 4, 4⟩
def PWR_STAT.VIOHOK : Fd := ⟨PWR_STAT.addr, 5, 5⟩
def PWR_STAT.VIOLOK : Fd := ⟨PWR_STAT.addr, 6, 6⟩
def PWR_STAT.VDRVOK : Fd := ⟨PWR_STAT.addr, 7, 7⟩
def PWR_STAT.VLOST : Fd := ⟨PWR_STAT.addr, 8, 8⟩
def PWR_STAT.CUT : Fd := ⟨PWR_STAT.addr, 9, 9⟩
def PWR_REQ.addr : Nat := 0x10001
def PWR_REQ.REQ : Fd := ⟨PWR_REQ.addr, 1, 0⟩
def PWR_REQ.RESULT : Fd := ⟨PWR_REQ.addr, 6, 4⟩
def PWR_CFG.addr : Nat := 0x10002
def PWR_CFG.FLOOR : Fd := ⟨PWR_CFG.addr, 0, 0⟩
def PWR_CFG.LCDDOZE : Fd := ⟨PWR_CFG.addr, 1, 1⟩
def PWR_CFG.BATLOW : Fd := ⟨PWR_CFG.addr, 15, 8⟩
def PWR_BANK.addr : Nat := 0x10003
def PWR_BANK.OFF : Fd := ⟨PWR_BANK.addr, 3, 0⟩
def PWR_BANK.RET : Fd := ⟨PWR_BANK.addr, 11, 8⟩
def PWR_DRV.addr : Nat := 0x10004
def PWR_DRV.SET : Fd := ⟨PWR_DRV.addr, 3, 0⟩
def PWR_DRV.SRC : Fd := ⟨PWR_DRV.addr, 8, 8⟩
def PWR_WAKE.addr : Nat := 0x10005
def PWR_WAKE.ALARM : Fd := ⟨PWR_WAKE.addr, 0, 0⟩
def PWR_WAKE.BTN : Fd := ⟨PWR_WAKE.addr, 1, 1⟩
def PWR_WAKE.HOST : Fd := ⟨PWR_WAKE.addr, 2, 2⟩
def PWR_WAKE.GLINT : Fd := ⟨PWR_WAKE.addr, 3, 3⟩
def PWR_WAKE.OPT : Fd := ⟨PWR_WAKE.addr, 4, 4⟩
def PWR_WCAUSE.addr : Nat := 0x10006
def PWR_WCAUSE.CAUSES : Fd := ⟨PWR_WCAUSE.addr, 9, 0⟩
def PWR_ALARM.addr : Nat := 0x10007
def PWR_ALARM.ALARM_LO : Fd := ⟨PWR_ALARM.addr, 31, 0⟩
def PWR_ALARM_H.addr : Nat := 0x10008
def PWR_ALARM_H.ALARM_HI : Fd := ⟨PWR_ALARM_H.addr, 15, 0⟩
def PWR_VBAT.addr : Nat := 0x10009
def PWR_VBAT.MV : Fd := ⟨PWR_VBAT.addr, 11, 0⟩
def PWR_PF.addr : Nat := 0x1000a
def PWR_PF.RIDES : Fd := ⟨PWR_PF.addr, 7, 0⟩
def PWR_PF.PFS : Fd := ⟨PWR_PF.addr, 15, 8⟩
def PWR_PF.PAGES : Fd := ⟨PWR_PF.addr, 25, 16⟩
def PWR_DOM.addr (i : Nat) : Nat := 0x10010 + i
def PWR_DOM.ON (i : Nat) : Fd := ⟨PWR_DOM.addr i, 31, 0⟩
def CLK_STAT.addr : Nat := 0x20000
def CLK_STAT.LFXOOK : Fd := ⟨CLK_STAT.addr, 0, 0⟩
def CLK_STAT.HFXOOK : Fd := ⟨CLK_STAT.addr, 1, 1⟩
def CLK_STAT.SPLLOK : Fd := ⟨CLK_STAT.addr, 2, 2⟩
def CLK_STAT.EPLLOK : Fd := ⟨CLK_STAT.addr, 6, 3⟩
def CLK_STAT.TDCOK : Fd := ⟨CLK_STAT.addr, 10, 7⟩
def CLK_STAT.LPOOK : Fd := ⟨CLK_STAT.addr, 11, 11⟩
def CLK_STAT.RTCSRC : Fd := ⟨CLK_STAT.addr, 12, 12⟩
def CLK_STAT.SYSSRC : Fd := ⟨CLK_STAT.addr, 13, 13⟩
def CLK_STAT.MISMATCH : Fd := ⟨CLK_STAT.addr, 14, 14⟩
def CLK_FAIL.addr : Nat := 0x20001
def CLK_FAIL.LFXO : Fd := ⟨CLK_FAIL.addr, 7, 0⟩
def CLK_FAIL.HFXO : Fd := ⟨CLK_FAIL.addr, 15, 8⟩
def CLK_FAIL.SPLL : Fd := ⟨CLK_FAIL.addr, 23, 16⟩
def CLK_FAIL.EPLL : Fd := ⟨CLK_FAIL.addr, 31, 24⟩
def CLK_TRIM.addr : Nat := 0x20002
def CLK_TRIM.LFXOCAP : Fd := ⟨CLK_TRIM.addr, 5, 0⟩
def CLK_TRIM.HFXOCAP : Fd := ⟨CLK_TRIM.addr, 13, 8⟩
def CLK_LPO.addr : Nat := 0x20003
def CLK_LPO.FREQ : Fd := ⟨CLK_LPO.addr, 21, 0⟩
def CLK_RUN.addr (i : Nat) : Nat := 0x20004 + i
def CLK_RUN.RUN (i : Nat) : Fd := ⟨CLK_RUN.addr i, 31, 0⟩
def CLK_ZC.addr (i : Nat) : Nat := 0x20010 + i
def CLK_ZC.HALF (i : Nat) : Fd := ⟨CLK_ZC.addr i, 15, 0⟩
def CLK_ZC.LOCK (i : Nat) : Fd := ⟨CLK_ZC.addr i, 16, 16⟩
def CLK_ZC.HOLD (i : Nat) : Fd := ⟨CLK_ZC.addr i, 21, 17⟩
def CLK_ZC.IGNORED (i : Nat) : Fd := ⟨CLK_ZC.addr i, 31, 24⟩
def CLK_QCNT.addr (i : Nat) : Nat := 0x20020 + i
def CLK_QCNT.DROPS (i : Nat) : Fd := ⟨CLK_QCNT.addr i, 15, 0⟩
def CLK_QCNT.PEAK (i : Nat) : Fd := ⟨CLK_QCNT.addr i, 23, 16⟩
def EVT_HPEND.addr (i : Nat) : Nat := 0x30300 + i
def EVT_HPEND.P (i : Nat) : Fd := ⟨EVT_HPEND.addr i, 31, 0⟩
def EVT_RAW.addr (i : Nat) : Nat := 0x30340 + i
def EVT_RAW.R (i : Nat) : Fd := ⟨EVT_RAW.addr i, 31, 0⟩
def EVT_CPEND.addr (i : Nat) (j : Nat) : Nat := 0x30400 + 0x40 * i + j
def EVT_CPEND.P (i : Nat) (j : Nat) : Fd := ⟨EVT_CPEND.addr i j, 31, 0⟩
def TWL_ECC.addr : Nat := 0x40000
def TWL_ECC.CORR : Fd := ⟨TWL_ECC.addr, 15, 0⟩
def TWL_ECC.UNCORR : Fd := ⟨TWL_ECC.addr, 23, 16⟩
def TWL_ECC.BANK : Fd := ⟨TWL_ECC.addr, 26, 24⟩
def TWL_ECC_ADDR.addr : Nat := 0x40001
def TWL_ECC_ADDR.ADDR : Fd := ⟨TWL_ECC_ADDR.addr, 18, 0⟩
def TWL_INIT.addr (i : Nat) : Nat := 0x40010 + i
def TWL_INIT.CLASS (i : Nat) : Fd := ⟨TWL_INIT.addr i, 1, 0⟩
def TWL_INIT.SEALW (i : Nat) : Fd := ⟨TWL_INIT.addr i, 2, 2⟩
def TWL_INIT.FENCED (i : Nat) : Fd := ⟨TWL_INIT.addr i, 3, 3⟩
def TWL_INIT.SOFT (i : Nat) : Fd := ⟨TWL_INIT.addr i, 15, 8⟩
def TWL_INIT.HARD (i : Nat) : Fd := ⟨TWL_INIT.addr i, 23, 16⟩
def TWL_INIT13.addr : Nat := 0x4001d
def TWL_INIT13.CLASS : Fd := ⟨TWL_INIT13.addr, 1, 0⟩
def TWL_INIT13.SEALW : Fd := ⟨TWL_INIT13.addr, 2, 2⟩
def TWL_INIT13.FENCED : Fd := ⟨TWL_INIT13.addr, 3, 3⟩
def TWL_INIT13.SOFT : Fd := ⟨TWL_INIT13.addr, 15, 8⟩
def TWL_INIT13.HARD : Fd := ⟨TWL_INIT13.addr, 23, 16⟩
def TWL_CNT.addr (i : Nat) : Nat := 0x40020 + i
def TWL_CNT.DELAYED (i : Nat) : Fd := ⟨TWL_CNT.addr i, 15, 0⟩
def TWL_CNT.REFUSED (i : Nat) : Fd := ⟨TWL_CNT.addr i, 31, 16⟩
def TWL_LAST.addr (i : Nat) : Nat := 0x40030 + i
def TWL_LAST.CODE (i : Nat) : Fd := ⟨TWL_LAST.addr i, 3, 0⟩
def TWL_LAST.TARGET (i : Nat) : Fd := ⟨TWL_LAST.addr i, 8, 4⟩
def TWL_LEASE.addr (i : Nat) : Nat := 0x40040 + i
def TWL_LEASE.HELD (i : Nat) : Fd := ⟨TWL_LEASE.addr i, 0, 0⟩
def TWL_LEASE.HOLDER (i : Nat) : Fd := ⟨TWL_LEASE.addr i, 4, 1⟩
def TWL_LEASE.QLEN (i : Nat) : Fd := ⟨TWL_LEASE.addr i, 11, 8⟩
def TWL_LEASE.REMAIN (i : Nat) : Fd := ⟨TWL_LEASE.addr i, 31, 16⟩
def TWL_LEASE_CMD.addr : Nat := 0x40048
def TWL_LEASE_CMD.CMD : Fd := ⟨TWL_LEASE_CMD.addr, 1, 0⟩
def TWL_LEASE_CMD.LEASE : Fd := ⟨TWL_LEASE_CMD.addr, 3, 2⟩
def TWL_LEASE_CMD.RESULT : Fd := ⟨TWL_LEASE_CMD.addr, 6, 4⟩
def TWL_LEASE_DUR.addr (i : Nat) : Nat := 0x40050 + i
def TWL_LEASE_DUR.DUR (i : Nat) : Fd := ⟨TWL_LEASE_DUR.addr i, 8, 0⟩
def ECH_STAT.addr (i : Nat) : Nat := 0x80000 + 0x10000 * i
def ECH_STAT.ACTIVE (i : Nat) : Fd := ⟨ECH_STAT.addr i, 0, 0⟩
def ECH_STAT.RXBUSY (i : Nat) : Fd := ⟨ECH_STAT.addr i, 4, 1⟩
def ECH_STAT.CLIP (i : Nat) : Fd := ⟨ECH_STAT.addr i, 5, 5⟩
def ECH_EPA.addr (i : Nat) : Nat := 0x80001 + 0x10000 * i
def ECH_EPA.SCHED (i : Nat) : Fd := ⟨ECH_EPA.addr i, 15, 0⟩
def ECH_EPA.FIRED (i : Nat) : Fd := ⟨ECH_EPA.addr i, 31, 16⟩
def ECH_EPB.addr (i : Nat) : Nat := 0x80002 + 0x10000 * i
def ECH_EPB.LOST (i : Nat) : Fd := ⟨ECH_EPB.addr i, 15, 0⟩
def ECH_EPB.INCOMPLETE (i : Nat) : Fd := ⟨ECH_EPB.addr i, 16, 16⟩
def ECH_EPB.CAUSE (i : Nat) : Fd := ⟨ECH_EPB.addr i, 20, 17⟩
def ECH_PORTFLT.addr (i : Nat) : Nat := 0x80003 + 0x10000 * i
def ECH_PORTFLT.SHORT (i : Nat) : Fd := ⟨ECH_PORTFLT.addr i, 15, 0⟩
def ECH_CAL.addr (i : Nat) (j : Nat) : Nat := 0x80004 + 0x10000 * i + j
def ECH_CAL.OFFSET (i : Nat) (j : Nat) : Fd := ⟨ECH_CAL.addr i j, 15, 0⟩
def ECH_CAL.RESID (i : Nat) (j : Nat) : Fd := ⟨ECH_CAL.addr i j, 23, 16⟩
def ECH_CAL.FAILS (i : Nat) (j : Nat) : Fd := ⟨ECH_CAL.addr i j, 31, 24⟩
def ECH_TDC.addr (i : Nat) : Nat := 0x80008 + 0x10000 * i
def ECH_TDC.PERIOD (i : Nat) : Fd := ⟨ECH_TDC.addr i, 15, 0⟩
def ECH_TDC.LSB (i : Nat) : Fd := ⟨ECH_TDC.addr i, 31, 16⟩
def ECH_BURST0.addr (i : Nat) (j : Nat) : Nat := 0x80010 + 0x10000 * i + 2 * j
def ECH_BURST0.TYPE (i : Nat) (j : Nat) : Fd := ⟨ECH_BURST0.addr i j, 1, 0⟩
def ECH_BURST0.CPC (i : Nat) (j : Nat) : Fd := ⟨ECH_BURST0.addr i j, 3, 2⟩
def ECH_BURST0.CYC (i : Nat) (j : Nat) : Fd := ⟨ECH_BURST0.addr i j, 14, 8⟩
def ECH_BURST0.FREQ (i : Nat) (j : Nat) : Fd := ⟨ECH_BURST0.addr i j, 27, 16⟩
def ECH_BURST1.addr (i : Nat) (j : Nat) : Nat := 0x80011 + 0x10000 * i + 2 * j
def ECH_BURST1.AMP (i : Nat) (j : Nat) : Fd := ⟨ECH_BURST1.addr i j, 6, 0⟩
def ECH_BURST1.SPAN (i : Nat) (j : Nat) : Fd := ⟨ECH_BURST1.addr i j, 13, 8⟩
def FIR_EPOCH.addr : Nat := 0x88000
def FIR_EPOCH.EPLOG : Fd := ⟨FIR_EPOCH.addr, 3, 0⟩
def FIR_PUB.addr : Nat := 0x88001
def FIR_PUB.EPNUM : Fd := ⟨FIR_PUB.addr, 31, 0⟩
def FIR_PUBLEN.addr : Nat := 0x88002
def FIR_PUBLEN.LEN : Fd := ⟨FIR_PUBLEN.addr, 27, 0⟩
def FIR_PUBLEN.INCOMPLETE : Fd := ⟨FIR_PUBLEN.addr, 28, 28⟩
def FIR_PATH_A.addr (i : Nat) : Nat := 0x88100 + 4 * i
def FIR_PATH_A.PORTA (i : Nat) : Fd := ⟨FIR_PATH_A.addr i, 5, 0⟩
def FIR_PATH_A.PORTB (i : Nat) : Fd := ⟨FIR_PATH_A.addr i, 13, 8⟩
def FIR_PATH_A.BURST (i : Nat) : Fd := ⟨FIR_PATH_A.addr i, 19, 16⟩
def FIR_PATH_A.GROUP (i : Nat) : Fd := ⟨FIR_PATH_A.addr i, 23, 20⟩
def FIR_PATH_A.PAIRS (i : Nat) : Fd := ⟨FIR_PATH_A.addr i, 27, 24⟩
def FIR_PATH_A.ENG (i : Nat) : Fd := ⟨FIR_PATH_A.addr i, 29, 28⟩
def FIR_PATH_A.EN (i : Nat) : Fd := ⟨FIR_PATH_A.addr i, 31, 31⟩
def FIR_PATH_B.addr (i : Nat) : Nat := 0x88101 + 4 * i
def FIR_PATH_B.WOPEN (i : Nat) : Fd := ⟨FIR_PATH_B.addr i, 11, 0⟩
def FIR_PATH_B.WLEN (i : Nat) : Fd := ⟨FIR_PATH_B.addr i, 27, 16⟩
def FIR_PATH_C.addr (i : Nat) : Nat := 0x88102 + 4 * i
def FIR_PATH_C.GAIN (i : Nat) : Fd := ⟨FIR_PATH_C.addr i, 2, 0⟩
def FIR_PATH_C.MATCH (i : Nat) : Fd := ⟨FIR_PATH_C.addr i, 3, 3⟩
def FIR_PATH_C.GAP (i : Nat) : Fd := ⟨FIR_PATH_C.addr i, 14, 8⟩
def FIR_PATH_C.GOLD (i : Nat) : Fd := ⟨FIR_PATH_C.addr i, 21, 16⟩
def FIR_PATH_D.addr (i : Nat) : Nat := 0x88103 + 4 * i
def FIR_PATH_D.ZFO (i : Nat) : Fd := ⟨FIR_PATH_D.addr i, 31, 0⟩
def FIR_PCNT.addr (i : Nat) : Nat := 0x88200 + i
def FIR_PCNT.OVERRUN (i : Nat) : Fd := ⟨FIR_PCNT.addr i, 7, 0⟩
def FIR_PCNT.NOTFIRED (i : Nat) : Fd := ⟨FIR_PCNT.addr i, 15, 8⟩
def FIR_PCNT.DISCARDED (i : Nat) : Fd := ⟨FIR_PCNT.addr i, 23, 16⟩
def FIR_PCNT.DRIVEF (i : Nat) : Fd := ⟨FIR_PCNT.addr i, 31, 24⟩
def ARV_PATH_M.addr (i : Nat) : Nat := 0x88400 + 4 * i
def ARV_PATH_M.MODE (i : Nat) : Fd := ⟨ARV_PATH_M.addr i, 0, 0⟩
def ARV_PATH_M.TMPL (i : Nat) : Fd := ⟨ARV_PATH_M.addr i, 1, 1⟩
def ARV_PATH_M.THR (i : Nat) : Fd := ⟨ARV_PATH_M.addr i, 15, 8⟩
def ARV_PATH_M.ZCSEL (i : Nat) : Fd := ⟨ARV_PATH_M.addr i, 19, 16⟩
def ARV_PATH_M.ZCN (i : Nat) : Fd := ⟨ARV_PATH_M.addr i, 23, 20⟩
def ARV_PATH_M.RHOMIN (i : Nat) : Fd := ⟨ARV_PATH_M.addr i, 31, 24⟩
def ARV_PATH_Q.addr (i : Nat) : Nat := 0x88401 + 4 * i
def ARV_PATH_Q.AMIN (i : Nat) : Fd := ⟨ARV_PATH_Q.addr i, 11, 0⟩
def ARV_PATH_Q.SIDEMAX (i : Nat) : Fd := ⟨ARV_PATH_Q.addr i, 23, 16⟩
def ARV_PATH_Q.PRE (i : Nat) : Fd := ⟨ARV_PATH_Q.addr i, 31, 24⟩
def ARV_PATH_L.addr (i : Nat) : Nat := 0x88402 + 4 * i
def ARV_PATH_L.PLEN (i : Nat) : Fd := ⟨ARV_PATH_L.addr i, 31, 0⟩
def ARV_PATH_T.addr (i : Nat) : Nat := 0x88403 + 4 * i
def ARV_PATH_T.TDLY (i : Nat) : Fd := ⟨ARV_PATH_T.addr i, 31, 0⟩
def ARV_LAST_F.addr (i : Nat) : Nat := 0x88600 + 4 * i
def ARV_LAST_F.TOF (i : Nat) : Fd := ⟨ARV_LAST_F.addr i, 31, 0⟩
def ARV_LAST_R.addr (i : Nat) : Nat := 0x88601 + 4 * i
def ARV_LAST_R.TOF (i : Nat) : Fd := ⟨ARV_LAST_R.addr i, 31, 0⟩
def ARV_LAST_Q.addr (i : Nat) : Nat := 0x88602 + 4 * i
def ARV_LAST_Q.QF (i : Nat) : Fd := ⟨ARV_LAST_Q.addr i, 3, 0⟩
def ARV_LAST_Q.QR (i : Nat) : Fd := ⟨ARV_LAST_Q.addr i, 7, 4⟩
def ARV_LAST_Q.AMPF (i : Nat) : Fd := ⟨ARV_LAST_Q.addr i, 19, 8⟩
def ARV_LAST_Q.AMPR (i : Nat) : Fd := ⟨ARV_LAST_Q.addr i, 31, 20⟩
def ARV_SOS.addr (i : Nat) : Nat := 0x88603 + 4 * i
def ARV_SOS.SOS (i : Nat) : Fd := ⟨ARV_SOS.addr i, 31, 0⟩
def ARV_QCNT0.addr (i : Nat) : Nat := 0x88700 + 2 * i
def ARV_QCNT0.CALFAIL (i : Nat) : Fd := ⟨ARV_QCNT0.addr i, 7, 0⟩
def ARV_QCNT0.SATURATED (i : Nat) : Fd := ⟨ARV_QCNT0.addr i, 15, 8⟩
def ARV_QCNT0.LOWAMP (i : Nat) : Fd := ⟨ARV_QCNT0.addr i, 23, 16⟩
def ARV_QCNT0.NOARRIVAL (i : Nat) : Fd := ⟨ARV_QCNT0.addr i, 31, 24⟩
def ARV_QCNT1.addr (i : Nat) : Nat := 0x88701 + 2 * i
def ARV_QCNT1.EDGE (i : Nat) : Fd := ⟨ARV_QCNT1.addr i, 7, 0⟩
def ARV_QCNT1.AMBIGUOUS (i : Nat) : Fd := ⟨ARV_QCNT1.addr i, 15, 8⟩
def ARV_QCNT1.DISTURBED (i : Nat) : Fd := ⟨ARV_QCNT1.addr i, 23, 16⟩
def ARV_QCNT1.CYCLESKIP (i : Nat) : Fd := ⟨ARV_QCNT1.addr i, 31, 24⟩
def TMP_CFG.addr (i : Nat) : Nat := 0xc0000 + 4 * i
def TMP_CFG.EN (i : Nat) : Fd := ⟨TMP_CFG.addr i, 0, 0⟩
def TMP_CFG.TYPE (i : Nat) : Fd := ⟨TMP_CFG.addr i, 2, 1⟩
def TMP_CFG.TCONV (i : Nat) : Fd := ⟨TMP_CFG.addr i, 4, 3⟩
def TMP_CFG.RDIV (i : Nat) : Fd := ⟨TMP_CFG.addr i, 7, 5⟩
def TMP_CFG.OFS (i : Nat) : Fd := ⟨TMP_CFG.addr i, 31, 8⟩
def TMP_RNOM.addr (i : Nat) : Nat := 0xc0001 + 4 * i
def TMP_RNOM.RNOM (i : Nat) : Fd := ⟨TMP_RNOM.addr i, 31, 0⟩
def TMP_VAL.addr (i : Nat) : Nat := 0xc0002 + 4 * i
def TMP_VAL.VAL (i : Nat) : Fd := ⟨TMP_VAL.addr i, 31, 0⟩
def TMP_ST.addr (i : Nat) : Nat := 0xc0003 + 4 * i
def TMP_ST.OVL (i : Nat) : Fd := ⟨TMP_ST.addr i, 0, 0⟩
def TMP_ST.FAULT (i : Nat) : Fd := ⟨TMP_ST.addr i, 1, 1⟩
def TMP_ST.OVLS (i : Nat) : Fd := ⟨TMP_ST.addr i, 15, 8⟩
def TMP_ST.RATIO (i : Nat) : Fd := ⟨TMP_ST.addr i, 31, 16⟩
def TMP_REF.addr : Nat := 0xc0040
def TMP_REF.RREF : Fd := ⟨TMP_REF.addr, 31, 0⟩
def BRG_CFG.addr (i : Nat) : Nat := 0xd0000 + 8 * i
def BRG_CFG.EN (i : Nat) : Fd := ⟨BRG_CFG.addr i, 0, 0⟩
def BRG_CFG.TCONV (i : Nat) : Fd := ⟨BRG_CFG.addr i, 4, 3⟩
def BRG_CFG.RDIV (i : Nat) : Fd := ⟨BRG_CFG.addr i, 7, 5⟩
def BRG_P0.addr (i : Nat) : Nat := 0xd0001 + 8 * i
def BRG_P0.P (i : Nat) : Fd := ⟨BRG_P0.addr i, 31, 0⟩
def BRG_P1.addr (i : Nat) : Nat := 0xd0002 + 8 * i
def BRG_P1.P (i : Nat) : Fd := ⟨BRG_P1.addr i, 31, 0⟩
def BRG_P2.addr (i : Nat) : Nat := 0xd0003 + 8 * i
def BRG_P2.P (i : Nat) : Fd := ⟨BRG_P2.addr i, 31, 0⟩
def BRG_VAL.addr (i : Nat) : Nat := 0xd0004 + 8 * i
def BRG_VAL.VAL (i : Nat) : Fd := ⟨BRG_VAL.addr i, 31, 0⟩
def BRG_ST.addr (i : Nat) : Nat := 0xd0005 + 8 * i
def BRG_ST.OVL (i : Nat) : Fd := ⟨BRG_ST.addr i, 0, 0⟩
def BRG_ST.FAULT (i : Nat) : Fd := ⟨BRG_ST.addr i, 1, 1⟩
def BRG_ST.OVLS (i : Nat) : Fd := ⟨BRG_ST.addr i, 15, 8⟩
def BRG_ST.RATIO (i : Nat) : Fd := ⟨BRG_ST.addr i, 31, 16⟩
def FLO_CFG.addr (i : Nat) : Nat := 0xe0000 + 0x40 * i
def FLO_CFG.EN (i : Nat) : Fd := ⟨FLO_CFG.addr i, 0, 0⟩
def FLO_CFG.KIND (i : Nat) : Fd := ⟨FLO_CFG.addr i, 2, 1⟩
def FLO_CFG.MODE (i : Nat) : Fd := ⟨FLO_CFG.addr i, 3, 3⟩
def FLO_CFG.MINPAIRS (i : Nat) : Fd := ⟨FLO_CFG.addr i, 11, 4⟩
def FLO_CFG.HOLD (i : Nat) : Fd := ⟨FLO_CFG.addr i, 15, 12⟩
def FLO_PATHS.addr (i : Nat) : Nat := 0xe0001 + 0x40 * i
def FLO_PATHS.MASK (i : Nat) : Fd := ⟨FLO_PATHS.addr i, 31, 0⟩
def FLO_DIAM.addr (i : Nat) : Nat := 0xe0002 + 0x40 * i
def FLO_DIAM.DIAM (i : Nat) : Fd := ⟨FLO_DIAM.addr i, 31, 0⟩
def FLO_LIM.addr (i : Nat) : Nat := 0xe0003 + 0x40 * i
def FLO_LIM.CUTOFF (i : Nat) : Fd := ⟨FLO_LIM.addr i, 15, 0⟩
def FLO_LIM.RESMAX (i : Nat) : Fd := ⟨FLO_LIM.addr i, 31, 16⟩
def FLO_QMAX.addr (i : Nat) : Nat := 0xe0004 + 0x40 * i
def FLO_QMAX.QMAX (i : Nat) : Fd := ⟨FLO_QMAX.addr i, 31, 0⟩
def FLO_Q.addr (i : Nat) : Nat := 0xe0008 + 0x40 * i
def FLO_Q.Q (i : Nat) : Fd := ⟨FLO_Q.addr i, 31, 0⟩
def FLO_VEL.addr (i : Nat) : Nat := 0xe0009 + 0x40 * i
def FLO_VEL.VEL (i : Nat) : Fd := ⟨FLO_VEL.addr i, 31, 0⟩
def FLO_STAT.addr (i : Nat) : Nat := 0xe000a + 0x40 * i
def FLO_STAT.NPAIRS (i : Nat) : Fd := ⟨FLO_STAT.addr i, 7, 0⟩
def FLO_STAT.FAILED (i : Nat) : Fd := ⟨FLO_STAT.addr i, 8, 8⟩
def FLO_STAT.SUBST (i : Nat) : Fd := ⟨FLO_STAT.addr i, 9, 9⟩
def FLO_STAT.FALLBACK (i : Nat) : Fd := ⟨FLO_STAT.addr i, 10, 10⟩
def FLO_STAT.CUT (i : Nat) : Fd := ⟨FLO_STAT.addr i, 11, 11⟩
def FLO_STAT.SAT (i : Nat) : Fd := ⟨FLO_STAT.addr i, 12, 12⟩
def FLO_STAT.LATE (i : Nat) : Fd := ⟨FLO_STAT.addr i, 23, 16⟩
def FLO_RESID.addr (i : Nat) : Nat := 0xe000b + 0x40 * i
def FLO_RESID.RESID (i : Nat) : Fd := ⟨FLO_RESID.addr i, 31, 0⟩
def FLO_VOLF.addr (i : Nat) : Nat := 0xe0010 + 0x40 * i
def FLO_VOLF.VOLF_LO (i : Nat) : Fd := ⟨FLO_VOLF.addr i, 31, 0⟩
def FLO_VOLF_H.addr (i : Nat) : Nat := 0xe0011 + 0x40 * i
def FLO_VOLF_H.VOLF_HI (i : Nat) : Fd := ⟨FLO_VOLF_H.addr i, 31, 0⟩
def FLO_VOLR.addr (i : Nat) : Nat := 0xe0012 + 0x40 * i
def FLO_VOLR.VOLR_LO (i : Nat) : Fd := ⟨FLO_VOLR.addr i, 31, 0⟩
def FLO_VOLR_H.addr (i : Nat) : Nat := 0xe0013 + 0x40 * i
def FLO_VOLR_H.VOLR_HI (i : Nat) : Fd := ⟨FLO_VOLR_H.addr i, 31, 0⟩
def FLO_FTIME.addr (i : Nat) : Nat := 0xe0014 + 0x40 * i
def FLO_FTIME.FTIME_LO (i : Nat) : Fd := ⟨FLO_FTIME.addr i, 31, 0⟩
def FLO_FTIME_H.addr (i : Nat) : Nat := 0xe0015 + 0x40 * i
def FLO_FTIME_H.FTIME_HI (i : Nat) : Fd := ⟨FLO_FTIME_H.addr i, 15, 0⟩
def FLO_COEF.addr (i : Nat) (j : Nat) : Nat := 0xe0020 + 0x40 * i + j
def FLO_COEF.COEF (i : Nat) (j : Nat) : Fd := ⟨FLO_COEF.addr i j, 31, 0⟩
def FLO_PATH_AX.addr (i : Nat) : Nat := 0xe0200 + 8 * i
def FLO_PATH_AX.AXIAL (i : Nat) : Fd := ⟨FLO_PATH_AX.addr i, 31, 0⟩
def FLO_PATH_WG.addr (i : Nat) : Nat := 0xe0201 + 8 * i
def FLO_PATH_WG.WGT (i : Nat) : Fd := ⟨FLO_PATH_WG.addr i, 15, 0⟩
def FLO_PATH_CH.addr (i : Nat) : Nat := 0xe0202 + 8 * i
def FLO_PATH_CH.H (i : Nat) : Fd := ⟨FLO_PATH_CH.addr i, 15, 0⟩
def FLO_PATH_CH.PHI (i : Nat) : Fd := ⟨FLO_PATH_CH.addr i, 31, 16⟩
def FLO_PATH_DT.addr (i : Nat) : Nat := 0xe0203 + 8 * i
def FLO_PATH_DT.DT (i : Nat) : Fd := ⟨FLO_PATH_DT.addr i, 31, 0⟩
def FLO_PATH_V.addr (i : Nat) : Nat := 0xe0204 + 8 * i
def FLO_PATH_V.V (i : Nat) : Fd := ⟨FLO_PATH_V.addr i, 31, 0⟩
def FLO_PATH_N.addr (i : Nat) : Nat := 0xe0205 + 8 * i
def FLO_PATH_N.N (i : Nat) : Fd := ⟨FLO_PATH_N.addr i, 7, 0⟩
def FLO_CURVE_X.addr (i : Nat) (j : Nat) : Nat := 0xe0400 + 0x10 * i + 2 * j
def FLO_CURVE_X.X (i : Nat) (j : Nat) : Fd := ⟨FLO_CURVE_X.addr i j, 31, 0⟩
def FLO_CURVE_K.addr (i : Nat) (j : Nat) : Nat := 0xe0401 + 0x10 * i + 2 * j
def FLO_CURVE_K.K (i : Nat) (j : Nat) : Fd := ⟨FLO_CURVE_K.addr i j, 31, 0⟩
def FLO_REG.addr : Nat := 0xe0500
def FLO_REG.REGA : Fd := ⟨FLO_REG.addr, 15, 0⟩
def FLO_REG.REGS : Fd := ⟨FLO_REG.addr, 31, 16⟩
def MED_TAB0.addr (i : Nat) : Nat := 0xe0800 + 4 * i
def MED_TAB0.KIND (i : Nat) : Fd := ⟨MED_TAB0.addr i, 1, 0⟩
def MED_TAB0.CURVE (i : Nat) : Fd := ⟨MED_TAB0.addr i, 7, 4⟩
def MED_TAB0.TOL (i : Nat) : Fd := ⟨MED_TAB0.addr i, 23, 8⟩
def MED_TAB1.addr (i : Nat) : Nat := 0xe0801 + 4 * i
def MED_TAB1.C0 (i : Nat) : Fd := ⟨MED_TAB1.addr i, 31, 0⟩
def MED_TAB2.addr (i : Nat) : Nat := 0xe0802 + 4 * i
def MED_TAB2.TREF (i : Nat) : Fd := ⟨MED_TAB2.addr i, 15, 0⟩
def MED_TAB2.TC1 (i : Nat) : Fd := ⟨MED_TAB2.addr i, 31, 16⟩
def MED_TAB3.addr (i : Nat) : Nat := 0xe0803 + 4 * i
def MED_TAB3.TC2 (i : Nat) : Fd := ⟨MED_TAB3.addr i, 7, 0⟩
def MED_TAB3.HA (i : Nat) : Fd := ⟨MED_TAB3.addr i, 15, 8⟩
def MED_TAB3.HB (i : Nat) : Fd := ⟨MED_TAB3.addr i, 23, 16⟩
def MED_TAB3.H2ALARM (i : Nat) : Fd := ⟨MED_TAB3.addr i, 31, 24⟩
def MED_CFG.addr : Nat := 0xe0880
def MED_CFG.HYST : Fd := ⟨MED_CFG.addr, 3, 0⟩
def MED_CFG.UNKCURVE : Fd := ⟨MED_CFG.addr, 7, 4⟩
def MED_MP0.addr (i : Nat) : Nat := 0xe0900 + 2 * i
def MED_MP0.SOS (i : Nat) : Fd := ⟨MED_MP0.addr i, 31, 0⟩
def MED_MP1.addr (i : Nat) : Nat := 0xe0901 + 2 * i
def MED_MP1.CLASS (i : Nat) : Fd := ⟨MED_MP1.addr i, 3, 0⟩
def MED_MP1.UNKNOWN (i : Nat) : Fd := ⟨MED_MP1.addr i, 4, 4⟩
def MED_MP1.CAND (i : Nat) : Fd := ⟨MED_MP1.addr i, 11, 8⟩
def MED_MP1.RUN (i : Nat) : Fd := ⟨MED_MP1.addr i, 15, 12⟩
def MED_MP1.CURVE (i : Nat) : Fd := ⟨MED_MP1.addr i, 19, 16⟩
def MED_MP1.H2 (i : Nat) : Fd := ⟨MED_MP1.addr i, 28, 20⟩
def MED_MP1.H2OUT (i : Nat) : Fd := ⟨MED_MP1.addr i, 29, 29⟩
def MED_MP1.H2HIGH (i : Nat) : Fd := ⟨MED_MP1.addr i, 30, 30⟩
def NGE_CFG.addr (i : Nat) : Nat := 0xf0000 + 0x40 * i
def NGE_CFG.FLUID (i : Nat) : Fd := ⟨NGE_CFG.addr i, 1, 0⟩
def NGE_CFG.GLYPCT (i : Nat) : Fd := ⟨NGE_CFG.addr i, 7, 2⟩
def NGE_CFG.INSTALL (i : Nat) : Fd := ⟨NGE_CFG.addr i, 8, 8⟩
def NGE_CFG.COOLEN (i : Nat) : Fd := ⟨NGE_CFG.addr i, 9, 9⟩
def NGE_CFG.DTMIN (i : Nat) : Fd := ⟨NGE_CFG.addr i, 31, 16⟩
def NGE_CH.addr (i : Nat) : Nat := 0xf0001 + 0x40 * i
def NGE_CH.TA (i : Nat) : Fd := ⟨NGE_CH.addr i, 4, 0⟩
def NGE_CH.TB (i : Nat) : Fd := ⟨NGE_CH.addr i, 9, 5⟩
def NGE_CH.PCH (i : Nat) : Fd := ⟨NGE_CH.addr i, 13, 10⟩
def NGE_PNOM.addr (i : Nat) : Nat := 0xf0002 + 0x40 * i
def NGE_PNOM.PNOM (i : Nat) : Fd := ⟨NGE_PNOM.addr i, 31, 0⟩
def NGE_PB.addr (i : Nat) : Nat := 0xf0003 + 0x40 * i
def NGE_PB.PB (i : Nat) : Fd := ⟨NGE_PB.addr i, 31, 0⟩
def NGE_TB.addr (i : Nat) : Nat := 0xf0004 + 0x40 * i
def NGE_TB.TB (i : Nat) : Fd := ⟨NGE_TB.addr i, 31, 0⟩
def NGE_ZRATIO.addr (i : Nat) : Nat := 0xf0005 + 0x40 * i
def NGE_ZRATIO.ZRATIO (i : Nat) : Fd := ⟨NGE_ZRATIO.addr i, 31, 0⟩
def NGE_TFIX.addr (i : Nat) : Nat := 0xf0006 + 0x40 * i
def NGE_TFIX.TFIX (i : Nat) : Fd := ⟨NGE_TFIX.addr i, 31, 0⟩
def NGE_TS.addr (i : Nat) : Nat := 0xf0008 + 0x40 * i
def NGE_TS.TS (i : Nat) : Fd := ⟨NGE_TS.addr i, 31, 0⟩
def NGE_TR.addr (i : Nat) : Nat := 0xf0009 + 0x40 * i
def NGE_TR.TR (i : Nat) : Fd := ⟨NGE_TR.addr i, 31, 0⟩
def NGE_DT.addr (i : Nat) : Nat := 0xf000a + 0x40 * i
def NGE_DT.DT (i : Nat) : Fd := ⟨NGE_DT.addr i, 31, 0⟩
def NGE_KCOEF.addr (i : Nat) : Nat := 0xf000b + 0x40 * i
def NGE_KCOEF.KCOEF (i : Nat) : Fd := ⟨NGE_KCOEF.addr i, 31, 0⟩
def NGE_POWER.addr (i : Nat) : Nat := 0xf000c + 0x40 * i
def NGE_POWER.POWER (i : Nat) : Fd := ⟨NGE_POWER.addr i, 31, 0⟩
def NGE_DUR.addr (i : Nat) : Nat := 0xf000e + 0x40 * i
def NGE_DUR.DUR (i : Nat) : Fd := ⟨NGE_DUR.addr i, 31, 0⟩
def NGE_STAT.addr (i : Nat) : Nat := 0xf000f + 0x40 * i
def NGE_STAT.POWSAT (i : Nat) : Fd := ⟨NGE_STAT.addr i, 0, 0⟩
def NGE_STAT.TFAULT (i : Nat) : Fd := ⟨NGE_STAT.addr i, 1, 1⟩
def NGE_HEAT.addr (i : Nat) : Nat := 0xf0010 + 0x40 * i
def NGE_HEAT.HEAT_LO (i : Nat) : Fd := ⟨NGE_HEAT.addr i, 31, 0⟩
def NGE_HEAT_H.addr (i : Nat) : Nat := 0xf0011 + 0x40 * i
def NGE_HEAT_H.HEAT_HI (i : Nat) : Fd := ⟨NGE_HEAT_H.addr i, 31, 0⟩
def NGE_COOL.addr (i : Nat) : Nat := 0xf0012 + 0x40 * i
def NGE_COOL.COOL_LO (i : Nat) : Fd := ⟨NGE_COOL.addr i, 31, 0⟩
def NGE_COOL_H.addr (i : Nat) : Nat := 0xf0013 + 0x40 * i
def NGE_COOL_H.COOL_HI (i : Nat) : Fd := ⟨NGE_COOL_H.addr i, 31, 0⟩
def NGE_VOLB.addr (i : Nat) : Nat := 0xf0014 + 0x40 * i
def NGE_VOLB.VOLB_LO (i : Nat) : Fd := ⟨NGE_VOLB.addr i, 31, 0⟩
def NGE_VOLB_H.addr (i : Nat) : Nat := 0xf0015 + 0x40 * i
def NGE_VOLB_H.VOLB_HI (i : Nat) : Fd := ⟨NGE_VOLB_H.addr i, 31, 0⟩
def NGE_FTIME.addr (i : Nat) : Nat := 0xf0016 + 0x40 * i
def NGE_FTIME.FTIME_LO (i : Nat) : Fd := ⟨NGE_FTIME.addr i, 31, 0⟩
def NGE_FTIME_H.addr (i : Nat) : Nat := 0xf0017 + 0x40 * i
def NGE_FTIME_H.FTIME_HI (i : Nat) : Fd := ⟨NGE_FTIME_H.addr i, 15, 0⟩
def BIL_CFG.addr : Nat := 0x100000
def BIL_CFG.DSTEN : Fd := ⟨BIL_CFG.addr, 0, 0⟩
def BIL_CFG.CLOSEACT : Fd := ⟨BIL_CFG.addr, 1, 1⟩
def BIL_TOFS.addr : Nat := 0x100001
def BIL_TOFS.TOFS : Fd := ⟨BIL_TOFS.addr, 15, 0⟩
def BIL_TOFS.DSTOFS : Fd := ⟨BIL_TOFS.addr, 23, 16⟩
def BIL_DSTON.addr : Nat := 0x100002
def BIL_DSTON.MONTH : Fd := ⟨BIL_DSTON.addr, 3, 0⟩
def BIL_DSTON.WEEK : Fd := ⟨BIL_DSTON.addr, 6, 4⟩
def BIL_DSTON.WDAY : Fd := ⟨BIL_DSTON.addr, 9, 7⟩
def BIL_DSTON.MIN : Fd := ⟨BIL_DSTON.addr, 20, 10⟩
def BIL_DSTOFF.addr : Nat := 0x100003
def BIL_DSTOFF.MONTH : Fd := ⟨BIL_DSTOFF.addr, 3, 0⟩
def BIL_DSTOFF.WEEK : Fd := ⟨BIL_DSTOFF.addr, 6, 4⟩
def BIL_DSTOFF.WDAY : Fd := ⟨BIL_DSTOFF.addr, 9, 7⟩
def BIL_DSTOFF.MIN : Fd := ⟨BIL_DSTOFF.addr, 20, 10⟩
def BIL_CALID.addr : Nat := 0x100004
def BIL_CALID.ID : Fd := ⟨BIL_CALID.addr, 31, 0⟩
def BIL_BCFG.addr : Nat := 0x100005
def BIL_BCFG.MODE : Fd := ⟨BIL_BCFG.addr, 1, 0⟩
def BIL_BCFG.DOM : Fd := ⟨BIL_BCFG.addr, 6, 2⟩
def BIL_BCFG.MIN : Fd := ⟨BIL_BCFG.addr, 17, 7⟩
def BIL_BCFG.PMON : Fd := ⟨BIL_BCFG.addr, 21, 18⟩
def BIL_BCFG.ANCHOR : Fd := ⟨BIL_BCFG.addr, 25, 22⟩
def BIL_CMD.addr : Nat := 0x100006
def BIL_CMD.CMD : Fd := ⟨BIL_CMD.addr, 1, 0⟩
def BIL_CMD.MPMASK : Fd := ⟨BIL_CMD.addr, 7, 4⟩
def BIL_CMD.RESULT : Fd := ⟨BIL_CMD.addr, 10, 8⟩
def BIL_NOW.addr : Nat := 0x100008
def BIL_NOW.SEASON : Fd := ⟨BIL_NOW.addr, 3, 0⟩
def BIL_NOW.WEEK : Fd := ⟨BIL_NOW.addr, 6, 4⟩
def BIL_NOW.DAYP : Fd := ⟨BIL_NOW.addr, 10, 7⟩
def BIL_NOW.SPECIAL : Fd := ⟨BIL_NOW.addr, 11, 11⟩
def BIL_NOW.DST : Fd := ⟨BIL_NOW.addr, 12, 12⟩
def BIL_NOW.TCAL : Fd := ⟨BIL_NOW.addr, 15, 13⟩
def BIL_NOW.MIN : Fd := ⟨BIL_NOW.addr, 26, 16⟩
def BIL_LASTB.addr : Nat := 0x100009
def BIL_LASTB.B_LO : Fd := ⟨BIL_LASTB.addr, 31, 0⟩
def BIL_LASTB_H.addr : Nat := 0x10000a
def BIL_LASTB_H.B_HI : Fd := ⟨BIL_LASTB_H.addr, 15, 0⟩
def BIL_SEASON.addr (i : Nat) : Nat := 0x100010 + i
def BIL_SEASON.EN (i : Nat) : Fd := ⟨BIL_SEASON.addr i, 0, 0⟩
def BIL_SEASON.WEEK (i : Nat) : Fd := ⟨BIL_SEASON.addr i, 3, 1⟩
def BIL_SEASON.MONTH (i : Nat) : Fd := ⟨BIL_SEASON.addr i, 7, 4⟩
def BIL_SEASON.DAY (i : Nat) : Fd := ⟨BIL_SEASON.addr i, 12, 8⟩
def BIL_WEEK.addr (i : Nat) : Nat := 0x100018 + i
def BIL_WEEK.DAYPS (i : Nat) : Fd := ⟨BIL_WEEK.addr i, 27, 0⟩
def BIL_SPEC.addr (i : Nat) : Nat := 0x100020 + i
def BIL_SPEC.EN (i : Nat) : Fd := ⟨BIL_SPEC.addr i, 0, 0⟩
def BIL_SPEC.DAYP (i : Nat) : Fd := ⟨BIL_SPEC.addr i, 4, 1⟩
def BIL_SPEC.MONTH (i : Nat) : Fd := ⟨BIL_SPEC.addr i, 8, 5⟩
def BIL_SPEC.DAY (i : Nat) : Fd := ⟨BIL_SPEC.addr i, 13, 9⟩
def BIL_SPEC.YEAR (i : Nat) : Fd := ⟨BIL_SPEC.addr i, 20, 14⟩
def BIL_DAY_SP.addr (i : Nat) (j : Nat) : Nat := 0x100100 + 0x10 * i + j
def BIL_DAY_SP.EN (i : Nat) (j : Nat) : Fd := ⟨BIL_DAY_SP.addr i j, 0, 0⟩
def BIL_DAY_SP.TARIFF (i : Nat) (j : Nat) : Fd := ⟨BIL_DAY_SP.addr i j, 3, 1⟩
def BIL_DAY_SP.MIN (i : Nat) (j : Nat) : Fd := ⟨BIL_DAY_SP.addr i j, 15, 5⟩
def BIL_MP_CFG.addr (i : Nat) : Nat := 0x101000 + 0x100 * i
def BIL_MP_CFG.EN (i : Nat) : Fd := ⟨BIL_MP_CFG.addr i, 0, 0⟩
def BIL_MP_CFG.QTY (i : Nat) : Fd := ⟨BIL_MP_CFG.addr i, 2, 1⟩
def BIL_MP_CFG.DMODE (i : Nat) : Fd := ⟨BIL_MP_CFG.addr i, 3, 3⟩
def BIL_MP_CFG.DLEN (i : Nat) : Fd := ⟨BIL_MP_CFG.addr i, 7, 4⟩
def BIL_MP_CFG.NSUB (i : Nat) : Fd := ⟨BIL_MP_CFG.addr i, 11, 8⟩
def BIL_MP_NOW.addr (i : Nat) : Nat := 0x101001 + 0x100 * i
def BIL_MP_NOW.TARIFF (i : Nat) : Fd := ⟨BIL_MP_NOW.addr i, 2, 0⟩
def BIL_MP_NOW.WHO (i : Nat) : Fd := ⟨BIL_MP_NOW.addr i, 5, 3⟩
def BIL_MP_CONDA.addr (i : Nat) (j : Nat) : Nat := 0x101004 + 0x100 * i + 2 * j
def BIL_MP_CONDA.EN (i : Nat) (j : Nat) : Fd := ⟨BIL_MP_CONDA.addr i j, 0, 0⟩
def BIL_MP_CONDA.SRC (i : Nat) (j : Nat) : Fd := ⟨BIL_MP_CONDA.addr i j, 4, 1⟩
def BIL_MP_CONDA.OP (i : Nat) (j : Nat) : Fd := ⟨BIL_MP_CONDA.addr i j, 5, 5⟩
def BIL_MP_CONDA.TARIFF (i : Nat) (j : Nat) : Fd := ⟨BIL_MP_CONDA.addr i j, 8, 6⟩
def BIL_MP_CONDB.addr (i : Nat) (j : Nat) : Nat := 0x101005 + 0x100 * i + 2 * j
def BIL_MP_CONDB.THR (i : Nat) (j : Nat) : Fd := ⟨BIL_MP_CONDB.addr i j, 31, 0⟩
def BIL_MP_TR.addr (i : Nat) (j : Nat) : Nat := 0x101010 + 0x100 * i + 2 * j
def BIL_MP_TR.TR_LO (i : Nat) (j : Nat) : Fd := ⟨BIL_MP_TR.addr i j, 31, 0⟩
def BIL_MP_TR_H.addr (i : Nat) (j : Nat) : Nat := 0x101011 + 0x100 * i + 2 * j
def BIL_MP_TR_H.TR_HI (i : Nat) (j : Nat) : Fd := ⟨BIL_MP_TR_H.addr i j, 31, 0⟩
def BIL_MP_BASE.addr (i : Nat) : Nat := 0x101020 + 0x100 * i
def BIL_MP_BASE.BASE_LO (i : Nat) : Fd := ⟨BIL_MP_BASE.addr i, 31, 0⟩
def BIL_MP_BASE_H.addr (i : Nat) : Nat := 0x101021 + 0x100 * i
def BIL_MP_BASE_H.BASE_HI (i : Nat) : Fd := ⟨BIL_MP_BASE_H.addr i, 31, 0⟩
def BIL_MP_DCUR.addr (i : Nat) : Nat := 0x101028 + 0x100 * i
def BIL_MP_DCUR.DCUR (i : Nat) : Fd := ⟨BIL_MP_DCUR.addr i, 31, 0⟩
def BIL_MP_DLAST.addr (i : Nat) : Nat := 0x101029 + 0x100 * i
def BIL_MP_DLAST.DLAST (i : Nat) : Fd := ⟨BIL_MP_DLAST.addr i, 31, 0⟩
def BIL_MP_DLASTT.addr (i : Nat) : Nat := 0x10102a + 0x100 * i
def BIL_MP_DLASTT.DLASTT_LO (i : Nat) : Fd := ⟨BIL_MP_DLASTT.addr i, 31, 0⟩
def BIL_MP_DLASTT_H.addr (i : Nat) : Nat := 0x10102b + 0x100 * i
def BIL_MP_DLASTT_H.DLASTT_HI (i : Nat) : Fd := ⟨BIL_MP_DLASTT_H.addr i, 15, 0⟩
def BIL_MP_DSTAT.addr (i : Nat) : Nat := 0x10102c + 0x100 * i
def BIL_MP_DSTAT.CSET (i : Nat) : Fd := ⟨BIL_MP_DSTAT.addr i, 0, 0⟩
def BIL_MP_DSTAT.OUTAGE (i : Nat) : Fd := ⟨BIL_MP_DSTAT.addr i, 1, 1⟩
def BIL_MP_DSTAT.PARTIAL (i : Nat) : Fd := ⟨BIL_MP_DSTAT.addr i, 2, 2⟩
def BIL_MP_DSTAT.GAP (i : Nat) : Fd := ⟨BIL_MP_DSTAT.addr i, 3, 3⟩
def BIL_MP_DSTAT.ELAPSED (i : Nat) : Fd := ⟨BIL_MP_DSTAT.addr i, 31, 16⟩
def BIL_MP_MD.addr (i : Nat) (j : Nat) : Nat := 0x101030 + 0x100 * i + 3 * j
def BIL_MP_MD.MD (i : Nat) (j : Nat) : Fd := ⟨BIL_MP_MD.addr i j, 31, 0⟩
def BIL_MP_MDT.addr (i : Nat) (j : Nat) : Nat := 0x101031 + 0x100 * i + 3 * j
def BIL_MP_MDT.MDT_LO (i : Nat) (j : Nat) : Fd := ⟨BIL_MP_MDT.addr i j, 31, 0⟩
def BIL_MP_MDT_H.addr (i : Nat) (j : Nat) : Nat := 0x101032 + 0x100 * i + 3 * j
def BIL_MP_MDT_H.MDT_HI (i : Nat) (j : Nat) : Fd := ⟨BIL_MP_MDT_H.addr i j, 15, 0⟩
def BIL_MP_SNAPIDX.addr (i : Nat) : Nat := 0x101050 + 0x100 * i
def BIL_MP_SNAPIDX.NEWEST (i : Nat) : Fd := ⟨BIL_MP_SNAPIDX.addr i, 4, 0⟩
def BIL_MP_SNAPIDX.COUNT (i : Nat) : Fd := ⟨BIL_MP_SNAPIDX.addr i, 12, 8⟩
def BIL_MP_SNAPIDX.SEQ (i : Nat) : Fd := ⟨BIL_MP_SNAPIDX.addr i, 31, 16⟩
def BIL_SNAP.addr (i : Nat) (j : Nat) : Nat := 0x104000 + 0x800 * i + j
def BIL_SNAP.W (i : Nat) (j : Nat) : Fd := ⟨BIL_SNAP.addr i j, 31, 0⟩
def STO_STAT.addr : Nat := 0x110000
def STO_STAT.PENDING : Fd := ⟨STO_STAT.addr, 15, 0⟩
def STO_STAT.STORING : Fd := ⟨STO_STAT.addr, 16, 16⟩
def STO_STAT.CURRENT : Fd := ⟨STO_STAT.addr, 20, 17⟩
def STO_SPARE.addr : Nat := 0x110001
def STO_SPARE.SEALFREE : Fd := ⟨STO_SPARE.addr, 4, 0⟩
def STO_SPARE.OPENFREE : Fd := ⟨STO_SPARE.addr, 12, 8⟩
def STO_LAST.addr : Nat := 0x110002
def STO_LAST.PAGES : Fd := ⟨STO_LAST.addr, 9, 0⟩
def STO_LAST.REGION : Fd := ⟨STO_LAST.addr, 13, 10⟩
def STO_LAST.RESULT : Fd := ⟨STO_LAST.addr, 16, 14⟩
def STO_PSTAT.addr : Nat := 0x110003
def STO_PSTAT.BUSY : Fd := ⟨STO_PSTAT.addr, 0, 0⟩
def STO_PSTAT.OPEN : Fd := ⟨STO_PSTAT.addr, 1, 1⟩
def STO_PSTAT.WRITE : Fd := ⟨STO_PSTAT.addr, 2, 2⟩
def STO_PSTAT.RESULT : Fd := ⟨STO_PSTAT.addr, 5, 3⟩
def STO_PSTAT.REMAIN : Fd := ⟨STO_PSTAT.addr, 28, 16⟩
def STO_REG_CFG.addr (i : Nat) : Nat := 0x110010 + i
def STO_REG_CFG.POLICY (i : Nat) : Fd := ⟨STO_REG_CFG.addr i, 0, 0⟩
def STO_REG_CFG.PERIOD (i : Nat) : Fd := ⟨STO_REG_CFG.addr i, 26, 16⟩
def STO_REG_CFGO.addr (i : Nat) : Nat := 0x110014 + i
def STO_REG_CFGO.POLICY (i : Nat) : Fd := ⟨STO_REG_CFGO.addr i, 0, 0⟩
def STO_REG_CFGO.PERIOD (i : Nat) : Fd := ⟨STO_REG_CFGO.addr i, 26, 16⟩
def STO_REG_STAT.addr (i : Nat) : Nat := 0x110020 + i
def STO_REG_STAT.FIRST (i : Nat) : Fd := ⟨STO_REG_STAT.addr i, 8, 0⟩
def STO_REG_STAT.SIZE (i : Nat) : Fd := ⟨STO_REG_STAT.addr i, 15, 9⟩
def STO_REG_STAT.DIRTY (i : Nat) : Fd := ⟨STO_REG_STAT.addr i, 22, 16⟩
def STO_REG_STAT.END (i : Nat) : Fd := ⟨STO_REG_STAT.addr i, 23, 23⟩
def STO_REG_STAT.SEALED (i : Nat) : Fd := ⟨STO_REG_STAT.addr i, 24, 24⟩
def STO_REG_STAT.RECALLED (i : Nat) : Fd := ⟨STO_REG_STAT.addr i, 25, 25⟩
def STO_REG_WEAR.addr (i : Nat) : Nat := 0x110030 + i
def STO_REG_WEAR.MAXCNT (i : Nat) : Fd := ⟨STO_REG_WEAR.addr i, 23, 0⟩
def STO_REG_WEAR.REMAPS (i : Nat) : Fd := ⟨STO_REG_WEAR.addr i, 31, 24⟩
def STO_LOCK.addr (i : Nat) : Nat := 0x110040 + i
def STO_LOCK.FAILS (i : Nat) : Fd := ⟨STO_LOCK.addr i, 3, 0⟩
def STO_LOCK.LEVEL (i : Nat) : Fd := ⟨STO_LOCK.addr i, 7, 4⟩
def STO_LOCK.REMAIN (i : Nat) : Fd := ⟨STO_LOCK.addr i, 31, 16⟩
def STO_PCMD.addr : Nat := 0x118000
def STO_PCMD.CMD : Fd := ⟨STO_PCMD.addr, 2, 0⟩
def STO_PCMD.REGION : Fd := ⟨STO_PCMD.addr, 8, 4⟩
def STO_PCMD.MASK : Fd := ⟨STO_PCMD.addr, 31, 16⟩
def STO_PADDR.addr : Nat := 0x118001
def STO_PADDR.OFFSET : Fd := ⟨STO_PADDR.addr, 16, 0⟩
def STO_PLEN.addr : Nat := 0x118002
def STO_PLEN.LEN : Fd := ⟨STO_PLEN.addr, 16, 0⟩
def STO_PDATA.addr : Nat := 0x118004
def STO_PDATA.DATA : Fd := ⟨STO_PDATA.addr, 31, 0⟩
def STO_PW.addr (i : Nat) : Nat := 0x118008 + i
def STO_PW.PW (i : Nat) : Fd := ⟨STO_PW.addr i, 31, 0⟩
def PLS_CFG.addr : Nat := 0x120000
def PLS_CFG.EN : Fd := ⟨PLS_CFG.addr, 0, 0⟩
def PLS_CFG.ROLE : Fd := ⟨PLS_CFG.addr, 1, 1⟩
def PLS_CFG.NETMODE : Fd := ⟨PLS_CFG.addr, 2, 2⟩
def PLS_CFG.COUPLE : Fd := ⟨PLS_CFG.addr, 3, 3⟩
def PLS_CFG.PHASE : Fd := ⟨PLS_CFG.addr, 5, 4⟩
def PLS_CFG.TTL : Fd := ⟨PLS_CFG.addr, 11, 8⟩
def PLS_CFG.NETID : Fd := ⟨PLS_CFG.addr, 31, 16⟩
def PLS_ADDR.addr : Nat := 0x120001
def PLS_ADDR.ADDR : Fd := ⟨PLS_ADDR.addr, 31, 0⟩
def PLS_PHY.addr : Nat := 0x120002
def PLS_PHY.PW : Fd := ⟨PLS_PHY.addr, 5, 0⟩
def PLS_PHY.SPAN : Fd := ⟨PLS_PHY.addr, 12, 8⟩
def PLS_PHY.RMODE : Fd := ⟨PLS_PHY.addr, 15, 14⟩
def PLS_PHY.DETMIN : Fd := ⟨PLS_PHY.addr, 23, 16⟩
def PLS_PHY.ITXMIN : Fd := ⟨PLS_PHY.addr, 31, 24⟩
def PLS_MAC.addr : Nat := 0x120003
def PLS_MAC.RETRY : Fd := ⟨PLS_MAC.addr, 2, 0⟩
def PLS_MAC.CWMIN : Fd := ⟨PLS_MAC.addr, 6, 4⟩
def PLS_MAC.CWMAX : Fd := ⟨PLS_MAC.addr, 10, 8⟩
def PLS_MAC.ADV : Fd := ⟨PLS_MAC.addr, 23, 16⟩
def PLS_MAC.GAPMAX : Fd := ⟨PLS_MAC.addr, 31, 24⟩
def PLS_STAT.addr : Nat := 0x120004
def PLS_STAT.TXACT : Fd := ⟨PLS_STAT.addr, 0, 0⟩
def PLS_STAT.RXACT : Fd := ⟨PLS_STAT.addr, 1, 1⟩
def PLS_STAT.PAUSED : Fd := ⟨PLS_STAT.addr, 2, 2⟩
def PLS_STAT.LOCK : Fd := ⟨PLS_STAT.addr, 5, 3⟩
def PLS_STAT.RCUR : Fd := ⟨PLS_STAT.addr, 7, 6⟩
def PLS_STAT.QOWN : Fd := ⟨PLS_STAT.addr, 15, 8⟩
def PLS_STAT.QRELAY : Fd := ⟨PLS_STAT.addr, 23, 16⟩
def PLS_CNT0.addr : Nat := 0x120008
def PLS_CNT0.TRAINS : Fd := ⟨PLS_CNT0.addr, 15, 0⟩
def PLS_CNT0.ABANDONED : Fd := ⟨PLS_CNT0.addr, 31, 16⟩
def PLS_CNT1.addr : Nat := 0x120009
def PLS_CNT1.FRAMES : Fd := ⟨PLS_CNT1.addr, 15, 0⟩
def PLS_CNT1.FECFAIL : Fd := ⟨PLS_CNT1.addr, 31, 16⟩
def PLS_CNT2.addr : Nat := 0x12000a
def PLS_CNT2.HCSFAIL : Fd := ⟨PLS_CNT2.addr, 7, 0⟩
def PLS_CNT2.PAUSES : Fd := ⟨PLS_CNT2.addr, 15, 8⟩
def PLS_CNT2.NOACK : Fd := ⟨PLS_CNT2.addr, 23, 16⟩
def PLS_CNT2.TTLDROP : Fd := ⟨PLS_CNT2.addr, 31, 24⟩
def PLS_CNT3.addr : Nat := 0x12000b
def PLS_CNT3.RELAYDROP : Fd := ⟨PLS_CNT3.addr, 11, 0⟩
def PLS_CNT3.RELAYDELAY : Fd := ⟨PLS_CNT3.addr, 23, 12⟩
def PLS_CNT3.RXDROP : Fd := ⟨PLS_CNT3.addr, 31, 24⟩
def PLS_NBR_A.addr (i : Nat) : Nat := 0x120100 + 2 * i
def PLS_NBR_A.ADDR (i : Nat) : Fd := ⟨PLS_NBR_A.addr i, 31, 0⟩
def PLS_NBR_B.addr (i : Nat) : Nat := 0x120101 + 2 * i
def PLS_NBR_B.F (i : Nat) : Fd := ⟨PLS_NBR_B.addr i, 7, 0⟩
def PLS_NBR_B.D (i : Nat) : Fd := ⟨PLS_NBR_B.addr i, 15, 8⟩
def PLS_NBR_B.R (i : Nat) : Fd := ⟨PLS_NBR_B.addr i, 17, 16⟩
def PLS_NBR_B.LC (i : Nat) : Fd := ⟨PLS_NBR_B.addr i, 29, 18⟩
def PLS_RT_A.addr (i : Nat) : Nat := 0x120200 + 4 * i
def PLS_RT_A.DEST (i : Nat) : Fd := ⟨PLS_RT_A.addr i, 31, 0⟩
def PLS_RT_B.addr (i : Nat) : Nat := 0x120201 + 4 * i
def PLS_RT_B.NEXT (i : Nat) : Fd := ⟨PLS_RT_B.addr i, 31, 0⟩
def PLS_RT_C.addr (i : Nat) : Nat := 0x120202 + 4 * i
def PLS_RT_C.COST (i : Nat) : Fd := ⟨PLS_RT_C.addr i, 15, 0⟩
def PLS_RT_C.SEQ (i : Nat) : Fd := ⟨PLS_RT_C.addr i, 23, 16⟩
def PLS_RT_C.HOPS (i : Nat) : Fd := ⟨PLS_RT_C.addr i, 27, 24⟩
def PLS_RT_C.VALID (i : Nat) : Fd := ⟨PLS_RT_C.addr i, 28, 28⟩
def PLS_RT_C.BROKEN (i : Nat) : Fd := ⟨PLS_RT_C.addr i, 29, 29⟩
def PLS_CAND_DEST.addr (i : Nat) : Nat := 0x124000 + 0x20 * i
def PLS_CAND_DEST.DEST (i : Nat) : Fd := ⟨PLS_CAND_DEST.addr i, 31, 0⟩
def PLS_CAND_REP0.addr (i : Nat) (j : Nat) : Nat := 0x124001 + 0x20 * i + 5 * j
def PLS_CAND_REP0.REP (i : Nat) (j : Nat) : Fd := ⟨PLS_CAND_REP0.addr i j, 31, 0⟩
def PLS_CAND_REP1.addr (i : Nat) (j : Nat) : Nat := 0x124002 + 0x20 * i + 5 * j
def PLS_CAND_REP1.REP (i : Nat) (j : Nat) : Fd := ⟨PLS_CAND_REP1.addr i j, 31, 0⟩
def PLS_CAND_REP2.addr (i : Nat) (j : Nat) : Nat := 0x124003 + 0x20 * i + 5 * j
def PLS_CAND_REP2.REP (i : Nat) (j : Nat) : Fd := ⟨PLS_CAND_REP2.addr i j, 31, 0⟩
def PLS_CAND_REP3.addr (i : Nat) (j : Nat) : Nat := 0x124004 + 0x20 * i + 5 * j
def PLS_CAND_REP3.REP (i : Nat) (j : Nat) : Fd := ⟨PLS_CAND_REP3.addr i j, 31, 0⟩
def PLS_CAND_S.addr (i : Nat) (j : Nat) : Nat := 0x124005 + 0x20 * i + 5 * j
def PLS_CAND_S.RCNT (i : Nat) (j : Nat) : Fd := ⟨PLS_CAND_S.addr i j, 2, 0⟩
def PLS_CAND_S.SCORE (i : Nat) (j : Nat) : Fd := ⟨PLS_CAND_S.addr i j, 31, 16⟩
def RAD_CFG.addr : Nat := 0x130000
def RAD_CFG.EN : Fd := ⟨RAD_CFG.addr, 0, 0⟩
def RAD_CFG.BAND : Fd := ⟨RAD_CFG.addr, 1, 1⟩
def RAD_CFG.RXMODE : Fd := ⟨RAD_CFG.addr, 3, 2⟩
def RAD_CFG.PWR : Fd := ⟨RAD_CFG.addr, 9, 4⟩
def RAD_CFG.NETID : Fd := ⟨RAD_CFG.addr, 31, 16⟩
def RAD_ADDR.addr : Nat := 0x130001
def RAD_ADDR.ADDR : Fd := ⟨RAD_ADDR.addr, 31, 0⟩
def RAD_CHAN.addr : Nat := 0x130002
def RAD_CHAN.GCH : Fd := ⟨RAD_CHAN.addr, 5, 0⟩
def RAD_CHAN.GLCH : Fd := ⟨RAD_CHAN.addr, 13, 8⟩
def RAD_CCA.addr : Nat := 0x130003
def RAD_CCA.THR : Fd := ⟨RAD_CCA.addr, 7, 0⟩
def RAD_CCA.BEMIN : Fd := ⟨RAD_CCA.addr, 10, 8⟩
def RAD_CCA.BEMAX : Fd := ⟨RAD_CCA.addr, 14, 12⟩
def RAD_CCA.CCAMAX : Fd := ⟨RAD_CCA.addr, 18, 16⟩
def RAD_CCA.RETRY : Fd := ⟨RAD_CCA.addr, 22, 20⟩
def RAD_DUTY.addr : Nat := 0x130004
def RAD_DUTY.BUDGET : Fd := ⟨RAD_DUTY.addr, 15, 0⟩
def RAD_DUTY.USED : Fd := ⟨RAD_DUTY.addr, 31, 16⟩
def RAD_WMB.addr : Nat := 0x130005
def RAD_WMB.MODE : Fd := ⟨RAD_WMB.addr, 2, 0⟩
def RAD_WMB.FMT : Fd := ⟨RAD_WMB.addr, 3, 3⟩
def RAD_WMB.LPRE : Fd := ⟨RAD_WMB.addr, 4, 4⟩
def RAD_WMB.INT : Fd := ⟨RAD_WMB.addr, 19, 8⟩
def RAD_WMB.JIT : Fd := ⟨RAD_WMB.addr, 24, 20⟩
def RAD_STAT.addr : Nat := 0x130006
def RAD_STAT.TXACT : Fd := ⟨RAD_STAT.addr, 0, 0⟩
def RAD_STAT.RXACT : Fd := ⟨RAD_STAT.addr, 1, 1⟩
def RAD_STAT.DEFER : Fd := ⟨RAD_STAT.addr, 2, 2⟩
def RAD_CNT0.addr : Nat := 0x130008
def RAD_CNT0.TXFRAMES : Fd := ⟨RAD_CNT0.addr, 15, 0⟩
def RAD_CNT0.RXFRAMES : Fd := ⟨RAD_CNT0.addr, 31, 16⟩
def RAD_CNT1.addr : Nat := 0x130009
def RAD_CNT1.CRCFAIL : Fd := ⟨RAD_CNT1.addr, 15, 0⟩
def RAD_CNT1.RXDROP : Fd := ⟨RAD_CNT1.addr, 31, 16⟩
def RAD_CNT2.addr : Nat := 0x13000a
def RAD_CNT2.NOACK : Fd := ⟨RAD_CNT2.addr, 7, 0⟩
def RAD_CNT2.CCAFAIL : Fd := ⟨RAD_CNT2.addr, 15, 8⟩
def RAD_CNT2.DUTYDEFER : Fd := ⟨RAD_CNT2.addr, 23, 16⟩
def GLN_CFG.addr : Nat := 0x130010
def GLN_CFG.EN : Fd := ⟨GLN_CFG.addr, 0, 0⟩
def GLN_CFG.ALLEN : Fd := ⟨GLN_CFG.addr, 1, 1⟩
def GLN_CFG.GROUP : Fd := ⟨GLN_CFG.addr, 15, 8⟩
def GLN_CFG.GWAIT : Fd := ⟨GLN_CFG.addr, 23, 16⟩
def GLN_CFG.RXWIN : Fd := ⟨GLN_CFG.addr, 31, 24⟩
def GLN_STAT.addr : Nat := 0x130011
def GLN_STAT.MATCHES : Fd := ⟨GLN_STAT.addr, 15, 0⟩
def GLN_STAT.FALSE : Fd := ⟨GLN_STAT.addr, 31, 16⟩
def MSH_CFG.addr : Nat := 0x140000
def MSH_CFG.RELAY : Fd := ⟨MSH_CFG.addr, 0, 0⟩
def MSH_CFG.TTL : Fd := ⟨MSH_CFG.addr, 11, 8⟩
def MSH_CFG.RDELAY : Fd := ⟨MSH_CFG.addr, 15, 12⟩
def MSH_CFG.SUPP : Fd := ⟨MSH_CFG.addr, 19, 16⟩
def MSH_CFG.SEENLIFE : Fd := ⟨MSH_CFG.addr, 31, 24⟩
def MSH_MAC.addr : Nat := 0x140001
def MSH_STAT.addr : Nat := 0x140002
def MSH_STAT.QOWN : Fd := ⟨MSH_STAT.addr, 3, 0⟩
def MSH_STAT.QRELAY : Fd := ⟨MSH_STAT.addr, 12, 8⟩
def MSH_STAT.SEEN : Fd := ⟨MSH_STAT.addr, 23, 16⟩
def MSH_CNT0.addr : Nat := 0x140008
def MSH_CNT0.RELAYDROP : Fd := ⟨MSH_CNT0.addr, 15, 0⟩
def MSH_CNT0.RELAYDELAY : Fd := ⟨MSH_CNT0.addr, 31, 16⟩
def MSH_CNT1.addr : Nat := 0x140009
def MSH_CNT1.TTLDROP : Fd := ⟨MSH_CNT1.addr, 15, 0⟩
def MSH_CNT1.SUPPRESSED : Fd := ⟨MSH_CNT1.addr, 31, 16⟩
def MSH_CNT2.addr : Nat := 0x14000a
def MSH_CNT2.SEQDUP : Fd := ⟨MSH_CNT2.addr, 15, 0⟩
def MSH_CNT2.SEQOLD : Fd := ⟨MSH_CNT2.addr, 31, 16⟩
def MSH_CNT3.addr : Nat := 0x14000b
def MSH_CNT3.OWNREFUSED : Fd := ⟨MSH_CNT3.addr, 7, 0⟩
def MSH_CNT3.SEENEVICT : Fd := ⟨MSH_CNT3.addr, 15, 8⟩
def MSH_CNT3.NBREVICT : Fd := ⟨MSH_CNT3.addr, 23, 16⟩
def MSH_CNT3.RESEED : Fd := ⟨MSH_CNT3.addr, 31, 24⟩
def MSH_NBR_A.addr (i : Nat) : Nat := 0x141000 + 2 * i
def MSH_NBR_A.ADDR (i : Nat) : Fd := ⟨MSH_NBR_A.addr i, 31, 0⟩
def MSH_NBR_B.addr (i : Nat) : Nat := 0x141001 + 2 * i
def MSH_NBR_B.H (i : Nat) : Fd := ⟨MSH_NBR_B.addr i, 15, 0⟩
def MSH_NBR_B.RSSI (i : Nat) : Fd := ⟨MSH_NBR_B.addr i, 23, 16⟩
def MSH_NBR_B.AGE (i : Nat) : Fd := ⟨MSH_NBR_B.addr i, 31, 24⟩
def SEC_CFG.addr : Nat := 0x150000
def SEC_CFG.REQUIRE : Fd := ⟨SEC_CFG.addr, 2, 0⟩
def SEC_CMD.addr : Nat := 0x150001
def SEC_CMD.CMD : Fd := ⟨SEC_CMD.addr, 1, 0⟩
def SEC_CMD.SLOT : Fd := ⟨SEC_CMD.addr, 6, 2⟩
def SEC_CMD.SIZE : Fd := ⟨SEC_CMD.addr, 7, 7⟩
def SEC_CMD.USE : Fd := ⟨SEC_CMD.addr, 11, 8⟩
def SEC_CMD.RESULT : Fd := ⟨SEC_CMD.addr, 14, 12⟩
def SEC_KEYW.addr (i : Nat) : Nat := 0x150008 + i
def SEC_KEYW.KEY (i : Nat) : Fd := ⟨SEC_KEYW.addr i, 31, 0⟩
def SEC_CNT0.addr : Nat := 0x150010
def SEC_CNT0.AUTHFAIL : Fd := ⟨SEC_CNT0.addr, 15, 0⟩
def SEC_CNT0.REPLAY : Fd := ⟨SEC_CNT0.addr, 31, 16⟩
def SEC_CNT1.addr : Nat := 0x150011
def SEC_CNT1.TXREFUSED : Fd := ⟨SEC_CNT1.addr, 7, 0⟩
def SEC_CNT1.RESVWAIT : Fd := ⟨SEC_CNT1.addr, 15, 8⟩
def SEC_CNT1.RXEVICT : Fd := ⟨SEC_CNT1.addr, 31, 16⟩
def SEC_RXTAB.addr : Nat := 0x150012
def SEC_RXTAB.USED : Fd := ⟨SEC_RXTAB.addr, 7, 0⟩
def SEC_KS_CFG.addr (i : Nat) : Nat := 0x150100 + 4 * i
def SEC_KS_CFG.STATE (i : Nat) : Fd := ⟨SEC_KS_CFG.addr i, 1, 0⟩
def SEC_KS_CFG.SIZE (i : Nat) : Fd := ⟨SEC_KS_CFG.addr i, 2, 2⟩
def SEC_KS_CFG.USE (i : Nat) : Fd := ⟨SEC_KS_CFG.addr i, 6, 3⟩
def SEC_KS_CFG.VONLY (i : Nat) : Fd := ⟨SEC_KS_CFG.addr i, 7, 7⟩
def SEC_KS_CFG.GEN (i : Nat) : Fd := ⟨SEC_KS_CFG.addr i, 15, 8⟩
def SEC_KS_CTR.addr (i : Nat) : Nat := 0x150101 + 4 * i
def SEC_KS_CTR.CTR (i : Nat) : Fd := ⟨SEC_KS_CTR.addr i, 31, 0⟩
def SEC_KS_LIM.addr (i : Nat) : Nat := 0x150102 + 4 * i
def SEC_KS_LIM.LIM (i : Nat) : Fd := ⟨SEC_KS_LIM.addr i, 31, 0⟩
def LOP_CFG.addr : Nat := 0x160000
def LOP_CFG.EN : Fd := ⟨LOP_CFG.addr, 0, 0⟩
def LOP_CFG.ROLE : Fd := ⟨LOP_CFG.addr, 1, 1⟩
def LOP_CFG.NETID : Fd := ⟨LOP_CFG.addr, 31, 16⟩
def LOP_ADDR.addr : Nat := 0x160001
def LOP_ADDR.ADDR : Fd := ⟨LOP_ADDR.addr, 31, 0⟩
def LOP_MAC.addr : Nat := 0x160002
def LOP_MAC.RSLOT : Fd := ⟨LOP_MAC.addr, 7, 0⟩
def LOP_MAC.RETRY : Fd := ⟨LOP_MAC.addr, 10, 8⟩
def LOP_MAC.DISC : Fd := ⟨LOP_MAC.addr, 23, 16⟩
def LOP_STAT.addr : Nat := 0x160003
def LOP_STAT.REPEAT : Fd := ⟨LOP_STAT.addr, 0, 0⟩
def LOP_STAT.RING : Fd := ⟨LOP_STAT.addr, 1, 1⟩
def LOP_STAT.OVERFULL : Fd := ⟨LOP_STAT.addr, 2, 2⟩
def LOP_STAT.STATION : Fd := ⟨LOP_STAT.addr, 9, 4⟩
def LOP_STAT.NODES : Fd := ⟨LOP_STAT.addr, 22, 16⟩
def LOP_STAT.QOWN : Fd := ⟨LOP_STAT.addr, 27, 24⟩
def LOP_CNT0.addr : Nat := 0x160008
def LOP_CNT0.FRAMES : Fd := ⟨LOP_CNT0.addr, 15, 0⟩
def LOP_CNT0.FRAMEFAIL : Fd := ⟨LOP_CNT0.addr, 31, 16⟩
def LOP_CNT1.addr : Nat := 0x160009
def LOP_CNT1.VIOLATION : Fd := ⟨LOP_CNT1.addr, 7, 0⟩
def LOP_CNT1.ABORTRX : Fd := ⟨LOP_CNT1.addr, 15, 8⟩
def LOP_CNT1.HCSFAIL : Fd := ⟨LOP_CNT1.addr, 23, 16⟩
def LOP_CNT1.CRCFAIL : Fd := ⟨LOP_CNT1.addr, 31, 24⟩
def LOP_CNT2.addr : Nat := 0x16000a
def LOP_CNT2.NORETURN : Fd := ⟨LOP_CNT2.addr, 7, 0⟩
def LOP_CNT2.LATE : Fd := ⟨LOP_CNT2.addr, 15, 8⟩
def LOP_CNT2.NOACK : Fd := ⟨LOP_CNT2.addr, 23, 16⟩
def LOP_CNT2.RXDROP : Fd := ⟨LOP_CNT2.addr, 31, 24⟩
def LOP_CNT3.addr : Nat := 0x16000b
def LOP_CNT3.OWNREFUSED : Fd := ⟨LOP_CNT3.addr, 7, 0⟩
def LOP_CNT3.UPWAIT : Fd := ⟨LOP_CNT3.addr, 15, 8⟩
def LOP_CNT3.FOREIGN : Fd := ⟨LOP_CNT3.addr, 23, 16⟩
def LOP_CNT3.DOWNDUP : Fd := ⟨LOP_CNT3.addr, 31, 24⟩
def LOP_ST.addr (i : Nat) : Nat := 0x160101 + i
def LOP_ST.ADDR (i : Nat) : Fd := ⟨LOP_ST.addr i, 31, 0⟩
def LOC_OPT.addr : Nat := 0x170000
def LOC_OPT.EN : Fd := ⟨LOC_OPT.addr, 0, 0⟩
def LOC_OPT.MODE : Fd := ⟨LOC_OPT.addr, 1, 1⟩
def LOC_OPT.ZMAX : Fd := ⟨LOC_OPT.addr, 4, 2⟩
def LOC_OPT.VSEN : Fd := ⟨LOC_OPT.addr, 5, 5⟩
def LOC_OSTAT.addr : Nat := 0x170001
def LOC_OSTAT.ACTIVE : Fd := ⟨LOC_OSTAT.addr, 0, 0⟩
def LOC_OSTAT.BAUD : Fd := ⟨LOC_OSTAT.addr, 3, 1⟩
def LOC_OSTAT.ERRORS : Fd := ⟨LOC_OSTAT.addr, 15, 8⟩
def LOC_OSTAT.READOUTS : Fd := ⟨LOC_OSTAT.addr, 31, 16⟩
def LOC_LCD.addr : Nat := 0x170002
def LOC_LCD.MODE : Fd := ⟨LOC_LCD.addr, 0, 0⟩
def LOC_LCD.ONTIME : Fd := ⟨LOC_LCD.addr, 15, 8⟩
def LOC_LCD.SCROLL : Fd := ⟨LOC_LCD.addr, 19, 16⟩
def LOC_LCD.TIMEOUT : Fd := ⟨LOC_LCD.addr, 27, 20⟩
def LOC_LCD.VLCD : Fd := ⟨LOC_LCD.addr, 31, 28⟩
def LOC_DSTAT.addr : Nat := 0x170003
def LOC_DSTAT.ON : Fd := ⟨LOC_DSTAT.addr, 0, 0⟩
def LOC_DSTAT.LIST : Fd := ⟨LOC_DSTAT.addr, 2, 1⟩
def LOC_DSTAT.ITEM : Fd := ⟨LOC_DSTAT.addr, 8, 3⟩
def LOC_SYM.addr : Nat := 0x170004
def LOC_SYM.S : Fd := ⟨LOC_SYM.addr, 31, 0⟩
def LOC_BTN.addr : Nat := 0x170005
def LOC_BTN.LEVEL : Fd := ⟨LOC_BTN.addr, 3, 0⟩
def LOC_PO_CFG.addr (i : Nat) : Nat := 0x170008 + i
def LOC_PO_CFG.MODE (i : Nat) : Fd := ⟨LOC_PO_CFG.addr i, 1, 0⟩
def LOC_PO_CFG.MP (i : Nat) : Fd := ⟨LOC_PO_CFG.addr i, 3, 2⟩
def LOC_PO_CFG.SRC (i : Nat) : Fd := ⟨LOC_PO_CFG.addr i, 6, 4⟩
def LOC_PO_CFG.IDX (i : Nat) : Fd := ⟨LOC_PO_CFG.addr i, 9, 7⟩
def LOC_PO_CFG.WIDTH (i : Nat) : Fd := ⟨LOC_PO_CFG.addr i, 23, 16⟩
def LOC_PO_W.addr (i : Nat) : Nat := 0x17000c + i
def LOC_PO_W.W (i : Nat) : Fd := ⟨LOC_PO_W.addr i, 31, 0⟩
def LOC_PO_ST.addr (i : Nat) : Nat := 0x170010 + i
def LOC_PO_ST.BACKLOG (i : Nat) : Fd := ⟨LOC_PO_ST.addr i, 15, 0⟩
def LOC_PO_ST.LOST (i : Nat) : Fd := ⟨LOC_PO_ST.addr i, 23, 16⟩
def LOC_PI_CFG.addr (i : Nat) : Nat := 0x170014 + i
def LOC_PI_CFG.FILT (i : Nat) : Fd := ⟨LOC_PI_CFG.addr i, 7, 0⟩
def LOC_PI_CFG.EDGE (i : Nat) : Fd := ⟨LOC_PI_CFG.addr i, 8, 8⟩
def LOC_PI_CNT.addr (i : Nat) : Nat := 0x170018 + i
def LOC_PI_CNT.CNT (i : Nat) : Fd := ⟨LOC_PI_CNT.addr i, 31, 0⟩
def LOC_IDENT.addr (i : Nat) : Nat := 0x170020 + i
def LOC_IDENT.IDENT (i : Nat) : Fd := ⟨LOC_IDENT.addr i, 31, 0⟩
def LOC_ADDR.addr (i : Nat) : Nat := 0x170024 + i
def LOC_ADDR.ADDR (i : Nat) : Fd := ⟨LOC_ADDR.addr i, 31, 0⟩
def LOC_ITEM_A.addr (i : Nat) : Nat := 0x170100 + 3 * i
def LOC_ITEM_A.SRC (i : Nat) : Fd := ⟨LOC_ITEM_A.addr i, 4, 0⟩
def LOC_ITEM_A.MP (i : Nat) : Fd := ⟨LOC_ITEM_A.addr i, 6, 5⟩
def LOC_ITEM_A.IDX (i : Nat) : Fd := ⟨LOC_ITEM_A.addr i, 11, 7⟩
def LOC_ITEM_A.AGE (i : Nat) : Fd := ⟨LOC_ITEM_A.addr i, 16, 12⟩
def LOC_ITEM_A.SCALE (i : Nat) : Fd := ⟨LOC_ITEM_A.addr i, 20, 17⟩
def LOC_ITEM_A.DEC (i : Nat) : Fd := ⟨LOC_ITEM_A.addr i, 23, 21⟩
def LOC_ITEM_A.DIGITS (i : Nat) : Fd := ⟨LOC_ITEM_A.addr i, 27, 24⟩
def LOC_ITEM_A.UNIT (i : Nat) : Fd := ⟨LOC_ITEM_A.addr i, 31, 28⟩
def LOC_ITEM_B.addr (i : Nat) : Nat := 0x170101 + 3 * i
def LOC_ITEM_B.ID (i : Nat) : Fd := ⟨LOC_ITEM_B.addr i, 31, 0⟩
def LOC_ITEM_C.addr (i : Nat) : Nat := 0x170102 + 3 * i
def LOC_ITEM_C.ID (i : Nat) : Fd := ⟨LOC_ITEM_C.addr i, 31, 0⟩
def LOC_ITEMW_A.addr (i : Nat) : Nat := 0x170160 + 3 * i
def LOC_ITEMW_A.SRC (i : Nat) : Fd := ⟨LOC_ITEMW_A.addr i, 4, 0⟩
def LOC_ITEMW_A.MP (i : Nat) : Fd := ⟨LOC_ITEMW_A.addr i, 6, 5⟩
def LOC_ITEMW_A.IDX (i : Nat) : Fd := ⟨LOC_ITEMW_A.addr i, 11, 7⟩
def LOC_ITEMW_A.AGE (i : Nat) : Fd := ⟨LOC_ITEMW_A.addr i, 16, 12⟩
def LOC_ITEMW_A.SCALE (i : Nat) : Fd := ⟨LOC_ITEMW_A.addr i, 20, 17⟩
def LOC_ITEMW_A.DEC (i : Nat) : Fd := ⟨LOC_ITEMW_A.addr i, 23, 21⟩
def LOC_ITEMW_A.DIGITS (i : Nat) : Fd := ⟨LOC_ITEMW_A.addr i, 27, 24⟩
def LOC_ITEMW_A.UNIT (i : Nat) : Fd := ⟨LOC_ITEMW_A.addr i, 31, 28⟩
def LOC_ITEMW_B.addr (i : Nat) : Nat := 0x170161 + 3 * i
def LOC_ITEMW_B.ID (i : Nat) : Fd := ⟨LOC_ITEMW_B.addr i, 31, 0⟩
def LOC_ITEMW_C.addr (i : Nat) : Nat := 0x170162 + 3 * i
def LOC_ITEMW_C.ID (i : Nat) : Fd := ⟨LOC_ITEMW_C.addr i, 31, 0⟩
def LOC_LIST0.addr (i : Nat) : Nat := 0x170300 + i
def LOC_LIST0.ENTRIES (i : Nat) : Fd := ⟨LOC_LIST0.addr i, 31, 0⟩
def LOC_LIST.addr (i : Nat) (j : Nat) : Nat := 0x170310 + 0x10 * i + j
def LOC_LIST.ENTRIES (i : Nat) (j : Nat) : Fd := ⟨LOC_LIST.addr i j, 31, 0⟩
def LOC_SEG.addr (i : Nat) : Nat := 0x170400 + i
def LOC_SEG.MAP0 (i : Nat) : Fd := ⟨LOC_SEG.addr i, 9, 0⟩
def LOC_SEG.MAP1 (i : Nat) : Fd := ⟨LOC_SEG.addr i, 25, 16⟩
def LOG_LSTAT.addr : Nat := 0x180000
def LOG_LSTAT.WRITTEN : Fd := ⟨LOG_LSTAT.addr, 11, 0⟩
def LOG_LSTAT.QUEUED : Fd := ⟨LOG_LSTAT.addr, 21, 16⟩
def LOG_LSKIP.addr : Nat := 0x180001
def LOG_LSKIP.N : Fd := ⟨LOG_LSKIP.addr, 31, 0⟩
def LOG_OSTAT.addr : Nat := 0x180002
def LOG_OSTAT.NEWEST : Fd := ⟨LOG_OSTAT.addr, 31, 0⟩
def LOG_FIFO.addr : Nat := 0x180003
def LOG_FIFO.USED : Fd := ⟨LOG_FIFO.addr, 7, 0⟩
def LOG_FIFO.PEAK : Fd := ⟨LOG_FIFO.addr, 15, 8⟩
def LOG_FIFO.DROPS : Fd := ⟨LOG_FIFO.addr, 31, 16⟩
def LOG_OBANK.addr : Nat := 0x180004
def LOG_OBANK.BANK : Fd := ⟨LOG_OBANK.addr, 2, 0⟩
def UMB_STAT.addr : Nat := 0x190000
def UMB_STAT.COMPLETE : Fd := ⟨UMB_STAT.addr, 0, 0⟩
def UMB_STAT.OVER : Fd := ⟨UMB_STAT.addr, 1, 1⟩
def UMB_STAT.ABANDON : Fd := ⟨UMB_STAT.addr, 2, 2⟩
def UMB_STAT.SPANEND : Fd := ⟨UMB_STAT.addr, 3, 3⟩
def UMB_STAT.ENDCAUSE : Fd := ⟨UMB_STAT.addr, 6, 4⟩
def UMB_STAT.STOP : Fd := ⟨UMB_STAT.addr, 15, 8⟩
def UMB_STAT.IGNORED : Fd := ⟨UMB_STAT.addr, 23, 16⟩
def UMB_STAT.OVERCNT : Fd := ⟨UMB_STAT.addr, 31, 24⟩
def UMB_FRZNUM.addr : Nat := 0x190001
def UMB_FRZNUM.N : Fd := ⟨UMB_FRZNUM.addr, 31, 0⟩
def UMB_ENTRY.addr : Nat := 0x190002
def UMB_ENTRY.T_LO : Fd := ⟨UMB_ENTRY.addr, 31, 0⟩
def UMB_ENTRY_H.addr : Nat := 0x190003
def UMB_ENTRY_H.T_HI : Fd := ⟨UMB_ENTRY_H.addr, 15, 0⟩
def UMB_SPAN.addr : Nat := 0x190004
def UMB_SPAN.CYC : Fd := ⟨UMB_SPAN.addr, 31, 0⟩
def UMB_TOTAL.addr : Nat := 0x190005
def UMB_TOTAL.T_LO : Fd := ⟨UMB_TOTAL.addr, 31, 0⟩
def UMB_TOTAL_H.addr : Nat := 0x190006
def UMB_TOTAL_H.T_HI : Fd := ⟨UMB_TOTAL_H.addr, 31, 0⟩
def UMB_READ.addr : Nat := 0x190007
def UMB_READ.WORDS : Fd := ⟨UMB_READ.addr, 16, 0⟩
def UMB_CRC.addr : Nat := 0x190008
def UMB_CRC.CRC : Fd := ⟨UMB_CRC.addr, 31, 0⟩
def STG_CMD.addr : Nat := 0x1a0000
def STG_CMD.CMD : Fd := ⟨STG_CMD.addr, 2, 0⟩
def STG_CMD.SET : Fd := ⟨STG_CMD.addr, 3, 3⟩
def STG_STAT.addr : Nat := 0x1a0001
def STG_STAT.BUSY : Fd := ⟨STG_STAT.addr, 0, 0⟩
def STG_STAT.SET : Fd := ⟨STG_STAT.addr, 1, 1⟩
def STG_STAT.RESULT : Fd := ⟨STG_STAT.addr, 5, 2⟩
def STG_STAT.NCONF : Fd := ⟨STG_STAT.addr, 15, 8⟩
def STG_AT.addr : Nat := 0x1a0002
def STG_AT.AT : Fd := ⟨STG_AT.addr, 31, 10⟩
def STG_AT_H.addr : Nat := 0x1a0003
def STG_AT_H.AT : Fd := ⟨STG_AT_H.addr, 9, 0⟩
def STG_SET.addr (i : Nat) : Nat := 0x1a0004 + i
def STG_SET.STATE (i : Nat) : Fd := ⟨STG_SET.addr i, 2, 0⟩
def STG_SET.OVF (i : Nat) : Fd := ⟨STG_SET.addr i, 3, 3⟩
def STG_SET.SL (i : Nat) : Fd := ⟨STG_SET.addr i, 4, 4⟩
def STG_SET.STALE (i : Nat) : Fd := ⟨STG_SET.addr i, 5, 5⟩
def STG_SET.LATE (i : Nat) : Fd := ⟨STG_SET.addr i, 6, 6⟩
def STG_SET.OUTCOME (i : Nat) : Fd := ⟨STG_SET.addr i, 10, 8⟩
def STG_SET.ENTRIES (i : Nat) : Fd := ⟨STG_SET.addr i, 29, 16⟩
def STG_VER.addr : Nat := 0x1a0006
def STG_VER.CFGVER : Fd := ⟨STG_VER.addr, 15, 0⟩
def STG_VER.APPLIES : Fd := ⟨STG_VER.addr, 31, 16⟩
def STG_LASTB.addr : Nat := 0x1a0007
def STG_LASTB.B_LO : Fd := ⟨STG_LASTB.addr, 31, 0⟩
def STG_LASTB_H.addr : Nat := 0x1a0008
def STG_LASTB_H.B_HI : Fd := ⟨STG_LASTB_H.addr, 15, 0⟩
def STG_IGN.addr : Nat := 0x1a0009
def STG_IGN.WRITES : Fd := ⟨STG_IGN.addr, 15, 0⟩
def STG_IGN.CMDS : Fd := ⟨STG_IGN.addr, 31, 16⟩
def STG_CONF.addr (i : Nat) : Nat := 0x1a0040 + i
def STG_CONF.ADDR (i : Nat) : Fd := ⟨STG_CONF.addr i, 23, 0⟩
def STG_CONF.CODE (i : Nat) : Fd := ⟨STG_CONF.addr i, 31, 24⟩
def SEA_STAT.addr : Nat := 0x1b0000
def SEA_STAT.VSW : Fd := ⟨SEA_STAT.addr, 0, 0⟩
def SEA_STAT.SESSION : Fd := ⟨SEA_STAT.addr, 1, 1⟩
def SEA_STAT.CTREND : Fd := ⟨SEA_STAT.addr, 2, 2⟩
def SEA_STAT.LOGFULL : Fd := ⟨SEA_STAT.addr, 3, 3⟩
def SEA_STAT.LOCKED : Fd := ⟨SEA_STAT.addr, 4, 4⟩
def SEA_STAT.VIRGIN : Fd := ⟨SEA_STAT.addr, 5, 5⟩
def SEA_STAT.CTRLOST : Fd := ⟨SEA_STAT.addr, 6, 6⟩
def SEA_STAT.ALARM : Fd := ⟨SEA_STAT.addr, 7, 7⟩
def SEA_STAT.ACAUSE : Fd := ⟨SEA_STAT.addr, 13, 8⟩
def SEA_CTR.addr : Nat := 0x1b0001
def SEA_CTR.CTR : Fd := ⟨SEA_CTR.addr, 9, 0⟩
def SEA_CTR.LOGUSED : Fd := ⟨SEA_CTR.addr, 27, 16⟩
def SEA_LOCK.addr : Nat := 0x1b0002
def SEA_LOCK.FAILS : Fd := ⟨SEA_LOCK.addr, 3, 0⟩
def SEA_LOCK.LEVEL : Fd := ⟨SEA_LOCK.addr, 7, 4⟩
def SEA_LOCK.REMAIN : Fd := ⟨SEA_LOCK.addr, 31, 16⟩
def SEA_VERIFIER.addr (i : Nat) : Nat := 0x1b0004 + i
def SEA_VERIFIER.V (i : Nat) : Fd := ⟨SEA_VERIFIER.addr i, 31, 0⟩
def SEA_LGCID0.addr : Nat := 0x1b0010
def SEA_LGCID0.ROMVER : Fd := ⟨SEA_LGCID0.addr, 31, 0⟩
def SEA_LGCID1.addr : Nat := 0x1b0011
def SEA_LGCID1.CRC : Fd := ⟨SEA_LGCID1.addr, 31, 0⟩
def SEA_PATCH_VER.addr (i : Nat) : Nat := 0x1b0020 + 4 * i
def SEA_PATCH_VER.VER (i : Nat) : Fd := ⟨SEA_PATCH_VER.addr i, 31, 0⟩
def SEA_PATCH_CRC.addr (i : Nat) : Nat := 0x1b0021 + 4 * i
def SEA_PATCH_CRC.CRC (i : Nat) : Fd := ⟨SEA_PATCH_CRC.addr i, 31, 0⟩
def SEA_PATCH_AT.addr (i : Nat) : Nat := 0x1b0022 + 4 * i
def SEA_PATCH_AT.AT_LO (i : Nat) : Fd := ⟨SEA_PATCH_AT.addr i, 31, 0⟩
def SEA_PATCH_AT_H.addr (i : Nat) : Nat := 0x1b0023 + 4 * i
def SEA_PATCH_AT_H.AT_HI (i : Nat) : Fd := ⟨SEA_PATCH_AT_H.addr i, 15, 0⟩
def SEA_PATCH_FLOOR.addr (i : Nat) : Nat := 0x1b0030 + i
def SEA_PATCH_FLOOR.FLOOR (i : Nat) : Fd := ⟨SEA_PATCH_FLOOR.addr i, 31, 0⟩
def SEA_LCRC.addr : Nat := 0x1b0040
def SEA_LCRC.CRC : Fd := ⟨SEA_LCRC.addr, 31, 0⟩
def CON_CFG.addr : Nat := 0x1c0000
def CON_CFG.EN : Fd := ⟨CON_CFG.addr, 0, 0⟩
def CON_CFG.OPEN : Fd := ⟨CON_CFG.addr, 1, 1⟩
def CON_CFG.WAKE : Fd := ⟨CON_CFG.addr, 2, 2⟩
def CON_CFG.HOLDMAX : Fd := ⟨CON_CFG.addr, 15, 8⟩
def CON_CFG.SILENTH : Fd := ⟨CON_CFG.addr, 23, 16⟩
def CON_CFG.RETRYMIN : Fd := ⟨CON_CFG.addr, 31, 24⟩
def CON_FWD.addr : Nat := 0x1c0001
def CON_FWD.ORDER0 : Fd := ⟨CON_FWD.addr, 2, 0⟩
def CON_FWD.ORDER1 : Fd := ⟨CON_FWD.addr, 5, 3⟩
def CON_FWD.ORDER2 : Fd := ⟨CON_FWD.addr, 8, 6⟩
def CON_FWD.ORDER3 : Fd := ⟨CON_FWD.addr, 11, 9⟩
def CON_CMD.addr : Nat := 0x1c0002
def CON_CMD.REMOVE : Fd := ⟨CON_CMD.addr, 0, 0⟩
def CON_CMD.INDEX : Fd := ⟨CON_CMD.addr, 15, 8⟩
def CON_STAT.addr : Nat := 0x1c0003
def CON_STAT.PODS : Fd := ⟨CON_STAT.addr, 8, 0⟩
def CON_STAT.UNFWD : Fd := ⟨CON_STAT.addr, 31, 16⟩
def CON_HEAD.addr (i : Nat) : Nat := 0x1c0004 + i
def CON_HEAD.ADDR (i : Nat) : Fd := ⟨CON_HEAD.addr i, 31, 0⟩
def CON_CNT0.addr : Nat := 0x1c0008
def CON_CNT0.DUP : Fd := ⟨CON_CNT0.addr, 15, 0⟩
def CON_CNT0.OVERWRITTEN : Fd := ⟨CON_CNT0.addr, 31, 16⟩
def CON_CNT1.addr : Nat := 0x1c0009
def CON_CNT1.CAPREF : Fd := ⟨CON_CNT1.addr, 7, 0⟩
def CON_CNT1.FWDFAIL : Fd := ⟨CON_CNT1.addr, 15, 8⟩
def CON_CNT1.DELAYED : Fd := ⟨CON_CNT1.addr, 23, 16⟩
def CON_CNT1.TRANSITDROP : Fd := ⟨CON_CNT1.addr, 31, 24⟩
def CON_CNT2.addr : Nat := 0x1c000a
def CON_CNT2.WMBDROP : Fd := ⟨CON_CNT2.addr, 7, 0⟩
def CON_CNT2.BADTYPE : Fd := ⟨CON_CNT2.addr, 15, 8⟩
def CON_POD_ADDR.addr (i : Nat) : Nat := 0x1c0100 + 8 * i
def CON_POD_ADDR.ADDR (i : Nat) : Fd := ⟨CON_POD_ADDR.addr i, 31, 0⟩
def CON_POD_ST.addr (i : Nat) : Nat := 0x1c0101 + 8 * i
def CON_POD_ST.SLOT (i : Nat) : Fd := ⟨CON_POD_ST.addr i, 4, 0⟩
def CON_POD_ST.STATE (i : Nat) : Fd := ⟨CON_POD_ST.addr i, 7, 6⟩
def CON_POD_ST.QTY (i : Nat) : Fd := ⟨CON_POD_ST.addr i, 9, 8⟩
def CON_POD_ST.COUNT (i : Nat) : Fd := ⟨CON_POD_ST.addr i, 22, 16⟩
def CON_POD_H.addr (i : Nat) : Nat := 0x1c0102 + 8 * i
def CON_POD_H.H (i : Nat) : Fd := ⟨CON_POD_H.addr i, 31, 0⟩
def CON_POD_SEQ.addr (i : Nat) : Nat := 0x1c0103 + 8 * i
def CON_POD_SEQ.NEWEST (i : Nat) : Fd := ⟨CON_POD_SEQ.addr i, 15, 0⟩
def CON_POD_SEQ.FWD (i : Nat) : Fd := ⟨CON_POD_SEQ.addr i, 31, 16⟩
def CON_POD_LAST.addr (i : Nat) : Nat := 0x1c0104 + 8 * i
def CON_POD_LAST.T_LO (i : Nat) : Fd := ⟨CON_POD_LAST.addr i, 31, 0⟩
def CON_POD_LAST_H.addr (i : Nat) : Nat := 0x1c0105 + 8 * i
def CON_POD_LAST_H.T_HI (i : Nat) : Fd := ⟨CON_POD_LAST_H.addr i, 15, 0⟩
def CON_PCFG.addr : Nat := 0x1c0c00
def CON_PCFG.EN : Fd := ⟨CON_PCFG.addr, 0, 0⟩
def CON_PCFG.RPT : Fd := ⟨CON_PCFG.addr, 15, 4⟩
def CON_PCFG.QTY : Fd := ⟨CON_PCFG.addr, 17, 16⟩
def CON_PCFG.NRECS : Fd := ⟨CON_PCFG.addr, 22, 20⟩
def CON_PHUB.addr : Nat := 0x1c0c01
def CON_PHUB.ADDR : Fd := ⟨CON_PHUB.addr, 31, 0⟩
def CON_PSTAT.addr : Nat := 0x1c0c02
def CON_PSTAT.JOINED : Fd := ⟨CON_PSTAT.addr, 0, 0⟩
def CON_PSTAT.UNACK : Fd := ⟨CON_PSTAT.addr, 4, 1⟩
def CON_PSTAT.RSEQ : Fd := ⟨CON_PSTAT.addr, 31, 16⟩
def CON_PWMB0.addr : Nat := 0x1c0c03
def CON_PWMB0.MFR : Fd := ⟨CON_PWMB0.addr, 15, 0⟩
def CON_PWMB0.DEVVER : Fd := ⟨CON_PWMB0.addr, 31, 16⟩
def CON_PWMB1.addr : Nat := 0x1c0c04
def CON_PWMB1.ID : Fd := ⟨CON_PWMB1.addr, 31, 0⟩
def H_ID.addr : Nat := 0x1000000
def H_ID.ID : Fd := ⟨H_ID.addr, 15, 0⟩
def H_STEPPING.addr : Nat := 0x1000001
def H_STEPPING.STEP : Fd := ⟨H_STEPPING.addr, 15, 0⟩
def H_STAT.addr : Nat := 0x1000002
def H_STAT.PHASE : Fd := ⟨H_STAT.addr, 3, 0⟩
def H_STAT.READY : Fd := ⟨H_STAT.addr, 4, 4⟩
def H_STAT.DELAYED : Fd := ⟨H_STAT.addr, 5, 5⟩
def H_STAT.BERR : Fd := ⟨H_STAT.addr, 6, 6⟩
def H_STAT.IRQ : Fd := ⟨H_STAT.addr, 7, 7⟩
def H_STAT.MBRX : Fd := ⟨H_STAT.addr, 8, 8⟩
def H_STAT.MBTXF : Fd := ⟨H_STAT.addr, 9, 9⟩
def H_STAT.ARMED : Fd := ⟨H_STAT.addr, 10, 10⟩
def H_STAT.HOSTLOST : Fd := ⟨H_STAT.addr, 11, 11⟩
def H_CTRL.addr : Nat := 0x1000003
def H_CTRL.SRST : Fd := ⟨H_CTRL.addr, 0, 0⟩
def H_CTRL.WINRST : Fd := ⟨H_CTRL.addr, 1, 1⟩
def H_CTRL.MBOXRST : Fd := ⟨H_CTRL.addr, 2, 2⟩
def H_KEY.addr : Nat := 0x1000004
def H_KEY.KEY : Fd := ⟨H_KEY.addr, 15, 0⟩
def H_MODE.addr : Nat := 0x1000005
def H_MODE.STRAPS : Fd := ⟨H_MODE.addr, 3, 0⟩
def H_IRQ_PEND.addr : Nat := 0x1000006
def H_IRQ_PEND.PIN : Fd := ⟨H_IRQ_PEND.addr, 3, 0⟩
def H_IRQ_MASK.addr : Nat := 0x1000007
def H_IRQ_MASK.MASK : Fd := ⟨H_IRQ_MASK.addr, 3, 0⟩
def H_EVT_BANK.addr : Nat := 0x1000008
def H_EVT_BANK.BANK : Fd := ⟨H_EVT_BANK.addr, 5, 0⟩
def H_EVT_BANK.NEXT : Fd := ⟨H_EVT_BANK.addr, 13, 8⟩
def H_EVT_LO.addr : Nat := 0x1000009
def H_EVT_LO.PEND : Fd := ⟨H_EVT_LO.addr, 15, 0⟩
def H_EVT_HI.addr : Nat := 0x100000a
def H_EVT_HI.PEND : Fd := ⟨H_EVT_HI.addr, 15, 0⟩
def H_EVT_ACK.addr : Nat := 0x100000b
def H_EVT_ACK.BIT : Fd := ⟨H_EVT_ACK.addr, 4, 0⟩
def H_EVT_ACK.ALL : Fd := ⟨H_EVT_ACK.addr, 5, 5⟩
def W_SEL.addr (i : Nat) : Nat := 0x100000c + 5 * i
def W_SEL.SPACE (i : Nat) : Fd := ⟨W_SEL.addr i, 1, 0⟩
def W_SEL.INC (i : Nat) : Fd := ⟨W_SEL.addr i, 2, 2⟩
def W_SEL.PRE (i : Nat) : Fd := ⟨W_SEL.addr i, 3, 3⟩
def W_SEL.ADDRHI (i : Nat) : Fd := ⟨W_SEL.addr i, 15, 8⟩
def W_ADDR.addr (i : Nat) : Nat := 0x100000d + 5 * i
def W_ADDR.ADDR (i : Nat) : Fd := ⟨W_ADDR.addr i, 15, 0⟩
def W_DLO.addr (i : Nat) : Nat := 0x100000e + 5 * i
def W_DLO.DATA (i : Nat) : Fd := ⟨W_DLO.addr i, 15, 0⟩
def W_DHI.addr (i : Nat) : Nat := 0x100000f + 5 * i
def W_DHI.DATA (i : Nat) : Fd := ⟨W_DHI.addr i, 15, 0⟩
def W_STAT.addr (i : Nat) : Nat := 0x1000010 + 5 * i
def W_STAT.BUSY (i : Nat) : Fd := ⟨W_STAT.addr i, 0, 0⟩
def W_STAT.RDY (i : Nat) : Fd := ⟨W_STAT.addr i, 1, 1⟩
def W_STAT.DELAYED (i : Nat) : Fd := ⟨W_STAT.addr i, 2, 2⟩
def W_STAT.LOHELD (i : Nat) : Fd := ⟨W_STAT.addr i, 3, 3⟩
def W_STAT.CODE (i : Nat) : Fd := ⟨W_STAT.addr i, 7, 4⟩
def H_STG_CMD.addr : Nat := 0x100001b
def H_STG_CMD.CMD : Fd := ⟨H_STG_CMD.addr, 2, 0⟩
def H_STG_CMD.SET : Fd := ⟨H_STG_CMD.addr, 3, 3⟩
def H_STG_STAT.addr : Nat := 0x100001c
def H_STG_STAT.BUSY : Fd := ⟨H_STG_STAT.addr, 0, 0⟩
def H_STG_STAT.SET : Fd := ⟨H_STG_STAT.addr, 1, 1⟩
def H_STG_STAT.RESULT : Fd := ⟨H_STG_STAT.addr, 5, 2⟩
def H_STG_STAT.NCONF : Fd := ⟨H_STG_STAT.addr, 15, 8⟩
def H_STG_ERR.addr : Nat := 0x100001d
def H_STG_ERR.CODE : Fd := ⟨H_STG_ERR.addr, 15, 0⟩
def H_STG_AT_LO.addr : Nat := 0x100001e
def H_STG_AT_LO.AT : Fd := ⟨H_STG_AT_LO.addr, 15, 0⟩
def H_STG_AT_HI.addr : Nat := 0x100001f
def H_STG_AT_HI.AT : Fd := ⟨H_STG_AT_HI.addr, 15, 0⟩
def H_TIME_LO.addr : Nat := 0x1000020
def H_TIME_LO.T : Fd := ⟨H_TIME_LO.addr, 15, 0⟩
def H_TIME_MID.addr : Nat := 0x1000021
def H_TIME_MID.T : Fd := ⟨H_TIME_MID.addr, 15, 0⟩
def H_TIME_HI.addr : Nat := 0x1000022
def H_TIME_HI.T : Fd := ⟨H_TIME_HI.addr, 15, 0⟩
def H_TIME_CTL.addr : Nat := 0x1000023
def H_TIME_CTL.CMD : Fd := ⟨H_TIME_CTL.addr, 1, 0⟩
def H_TIME_CTL.DONE : Fd := ⟨H_TIME_CTL.addr, 8, 8⟩
def H_MBOX_TX.addr : Nat := 0x1000024
def H_MBOX_TX.WORD : Fd := ⟨H_MBOX_TX.addr, 15, 0⟩
def H_MBOX_RX.addr : Nat := 0x1000025
def H_MBOX_RX.WORD : Fd := ⟨H_MBOX_RX.addr, 15, 0⟩
def H_MBOX_STAT.addr : Nat := 0x1000026
def H_MBOX_STAT.RXCNT : Fd := ⟨H_MBOX_STAT.addr, 6, 0⟩
def H_MBOX_STAT.TXFREE : Fd := ⟨H_MBOX_STAT.addr, 13, 7⟩
def H_MBOX_STAT.RXMSG : Fd := ⟨H_MBOX_STAT.addr, 14, 14⟩
def H_MBOX_STAT.LOST : Fd := ⟨H_MBOX_STAT.addr, 15, 15⟩
def H_SER_STAT.addr : Nat := 0x1000027
def H_SER_STAT.CRCERR : Fd := ⟨H_SER_STAT.addr, 4, 0⟩
def H_SER_STAT.SHORT : Fd := ⟨H_SER_STAT.addr, 9, 5⟩
def H_SER_STAT.EXTRA : Fd := ⟨H_SER_STAT.addr, 14, 10⟩
def H_SER_STAT.LASTOK : Fd := ⟨H_SER_STAT.addr, 15, 15⟩
def H_FRZ_STAT.addr : Nat := 0x1000028
def H_FRZ_STAT.DONE : Fd := ⟨H_FRZ_STAT.addr, 0, 0⟩
def H_FRZ_STAT.COMPLETE : Fd := ⟨H_FRZ_STAT.addr, 1, 1⟩
def H_FRZ_STAT.OVER : Fd := ⟨H_FRZ_STAT.addr, 2, 2⟩
def H_FRZ_STAT.ABANDON : Fd := ⟨H_FRZ_STAT.addr, 3, 3⟩
def H_FRZ_STAT.FREEZES : Fd := ⟨H_FRZ_STAT.addr, 15, 8⟩
def H_PWR_STAT.addr : Nat := 0x1000029
def H_PWR_STAT.STAT : Fd := ⟨H_PWR_STAT.addr, 4, 0⟩
def H_PWR_STAT.VDRVOK : Fd := ⟨H_PWR_STAT.addr, 5, 5⟩
def H_PWR_STAT.VLOST : Fd := ⟨H_PWR_STAT.addr, 6, 6⟩
def H_PWR_STAT.CUT : Fd := ⟨H_PWR_STAT.addr, 7, 7⟩
def H_PWR_STAT.VBAT : Fd := ⟨H_PWR_STAT.addr, 15, 8⟩
def H_PWR_REQ.addr : Nat := 0x100002a
def H_PWR_REQ.REQ : Fd := ⟨H_PWR_REQ.addr, 1, 0⟩
def H_PWR_REQ.RESULT : Fd := ⟨H_PWR_REQ.addr, 6, 4⟩
def H_WDG.addr : Nat := 0x100002b
def H_WDG.PERIOD : Fd := ⟨H_WDG.addr, 7, 0⟩
def H_WDG.KICK : Fd := ⟨H_WDG.addr, 15, 8⟩
def H_SCRATCH.addr : Nat := 0x100002c
def H_SCRATCH.DATA : Fd := ⟨H_SCRATCH.addr, 15, 0⟩
def H_BUSERR.addr : Nat := 0x100002d
def H_BUSERR.CODE : Fd := ⟨H_BUSERR.addr, 3, 0⟩
def H_BUSERR.OFFSET : Fd := ⟨H_BUSERR.addr, 9, 4⟩
def H_BUSERR.SER : Fd := ⟨H_BUSERR.addr, 10, 10⟩
def H_BUSERR.COUNT : Fd := ⟨H_BUSERR.addr, 15, 11⟩
def H_LOOP_STAT.addr : Nat := 0x100002e
def H_LOOP_STAT.CLOSED : Fd := ⟨H_LOOP_STAT.addr, 0, 0⟩
def H_LOOP_STAT.REPEAT : Fd := ⟨H_LOOP_STAT.addr, 1, 1⟩
def H_LOOP_STAT.MASTER : Fd := ⟨H_LOOP_STAT.addr, 2, 2⟩
def H_LOOP_STAT.RING : Fd := ⟨H_LOOP_STAT.addr, 3, 3⟩
def H_LOOP_STAT.NODES : Fd := ⟨H_LOOP_STAT.addr, 10, 4⟩
def H_SEAL_STAT.addr : Nat := 0x100002f
def H_SEAL_STAT.VSW : Fd := ⟨H_SEAL_STAT.addr, 0, 0⟩
def H_SEAL_STAT.SESSION : Fd := ⟨H_SEAL_STAT.addr, 1, 1⟩
def H_SEAL_STAT.CTREND : Fd := ⟨H_SEAL_STAT.addr, 2, 2⟩
def H_SEAL_STAT.LOGFULL : Fd := ⟨H_SEAL_STAT.addr, 3, 3⟩
def H_SEAL_STAT.LOCKED : Fd := ⟨H_SEAL_STAT.addr, 4, 4⟩
def H_SEAL_STAT.CTR : Fd := ⟨H_SEAL_STAT.addr, 15, 6⟩

end Sys2Proof.Machine
end

