-- ==== Sys2Proof/Machine/RegMap.lean ====
section
/-! DEFINITION. The register map: for every deep-space word and every host register its fields, their access codes
(Table SCO-3) and their Reset values, transcribed from the register tables of chapters 01 to 23; which words the Pod
profile leaves unpowered (R4); which words and fields a staging set may write (R204). -/

namespace Sys2Proof.Machine

/-- The access codes of Table SCO-3 (R5). -/
inductive Access where
  | rw | ro | wo | w1c | rc | ws | sl
  deriving DecidableEq, Repr

/-- One line of a field table: the field's place, its access code and its Reset value. -/
structure FieldDef where
  fd : Fd
  acc : Access
  reset : Nat
  deriving DecidableEq, Repr

/-- One family of registers: members stand at `base + i * s1 + j * s2`, `i < n1`, `j < n2`, and share their fields. -/
structure RegDef where
  base : Nat
  s1 : Nat
  n1 : Nat
  s2 : Nat
  n2 : Nat
  fields : List FieldDef
  deriving DecidableEq, Repr

/-- Is `a` a member of the family? The second index runs inside one stride of the first where that stride is larger. -/
def RegDef.has (r : RegDef) (a : Nat) : Bool :=
  if a < r.base then false
  else
    let o := a - r.base
    let i := o / r.s1
    if r.s2 < r.s1 && 1 < r.n2 then
      decide (i < r.n1) && decide (o % r.s1 / r.s2 < r.n2) && decide (o % r.s1 % r.s2 = 0)
    else decide (i < r.n1) && decide (o % r.s1 = 0)

/-- Registers of block SYS. -/
def regsSYS : List RegDef := [
  ⟨SYS_RCAUSE.addr, 1, 1, 1, 1, [⟨SYS_RCAUSE.CAUSE, .ro, 1⟩, ⟨SYS_RCAUSE.SEEN, .w1c, 1⟩]⟩,
  ⟨SYS_RSTCNT.addr, 1, 1, 1, 1, [⟨SYS_RSTCNT.POR, .rc, 0⟩, ⟨SYS_RSTCNT.PIN, .rc, 0⟩, ⟨SYS_RSTCNT.SOFT, .rc, 0⟩, ⟨SYS_RSTCNT.WARM, .rc, 0⟩]⟩,
  ⟨SYS_BOOT.addr, 1, 1, 1, 1, [⟨SYS_BOOT.PHASE, .ro, 1⟩, ⟨SYS_BOOT.LEGALBACK, .ro, 0⟩, ⟨SYS_BOOT.LEGALZERO, .ro, 0⟩, ⟨SYS_BOOT.ROMFAIL, .ro, 0⟩, ⟨SYS_BOOT.READY, .ro, 0⟩]⟩,
  ⟨SYS_RECALL.addr 0, 1, 2, 1, 1, [⟨SYS_RECALL.OUTCOMES 0, .ro, 0⟩]⟩,
  ⟨SYS_TSTART.addr, 1, 1, 1, 1, [⟨SYS_TSTART.TSTART_LO, .ro, 0⟩]⟩,
  ⟨SYS_TSTART_H.addr, 1, 1, 1, 1, [⟨SYS_TSTART_H.TSTART_HI, .ro, 0⟩]⟩,
  ⟨SYS_SWRST.addr, 1, 1, 1, 1, [⟨SYS_SWRST.KEY, .wo, 0⟩]⟩,
  ⟨SYS_STRAP.addr, 1, 1, 1, 1, [⟨SYS_STRAP.PROFILE, .ro, 0⟩, ⟨SYS_STRAP.HOSTMODE, .ro, 0⟩, ⟨SYS_STRAP.BYPTYPE, .ro, 0⟩, ⟨SYS_STRAP.LCDEN, .ro, 0⟩, ⟨SYS_STRAP.SPLIT, .ro, 0⟩]⟩,
  ⟨SYS_SPARE.addr, 1, 1, 1, 1, [⟨SYS_SPARE.SPARE, .ro, 0⟩, ⟨SYS_SPARE.PDIS, .rw, 0⟩]⟩,
  ⟨SYS_PINCFG.addr, 1, 1, 1, 1, [⟨SYS_PINCFG.PIDIS, .ws, 0⟩, ⟨SYS_PINCFG.BTNDIS, .ws, 0⟩, ⟨SYS_PINCFG.OPTDIS, .ws, 0⟩, ⟨SYS_PINCFG.AUXDIS, .ws, 0⟩]⟩,
  ⟨SYS_BYPASS.addr, 1, 1, 1, 1, [⟨SYS_BYPASS.SETTLE, .ws, 8⟩, ⟨SYS_BYPASS.CLOSED, .ro, 1⟩, ⟨SYS_BYPASS.FAULTS, .rc, 0⟩]⟩,
  ⟨SYS_TEMP.addr, 1, 1, 1, 1, [⟨SYS_TEMP.TEMP, .ro, 0⟩]⟩,
  ⟨SYS_VS_CMD.addr, 1, 1, 1, 1, [⟨SYS_VS_CMD.CMD, .wo, 0⟩]⟩,
  ⟨SYS_VS_STAT.addr, 1, 1, 1, 1, [⟨SYS_VS_STAT.BUSY, .ro, 0⟩, ⟨SYS_VS_STAT.RESULT, .ro, 0⟩, ⟨SYS_VS_STAT.ENDCAUSE, .ro, 0⟩]⟩,
  ⟨SYS_VS_CRED.addr 0, 1, 4, 1, 1, [⟨SYS_VS_CRED.CRED 0, .wo, 0⟩]⟩,
  ⟨SYS_PATCH_CMD.addr, 1, 1, 1, 1, [⟨SYS_PATCH_CMD.CMD, .wo, 0⟩, ⟨SYS_PATCH_CMD.CORE, .wo, 0⟩]⟩,
  ⟨SYS_PATCH_SRC.addr, 1, 1, 1, 1, [⟨SYS_PATCH_SRC.ADDR, .rw, 0⟩]⟩,
  ⟨SYS_PATCH_STAT.addr, 1, 1, 1, 1, [⟨SYS_PATCH_STAT.BUSY, .ro, 0⟩, ⟨SYS_PATCH_STAT.CODE, .ro, 0⟩]⟩,
  ⟨FLT_CORE.addr 0, 1, 3, 1, 1, [⟨FLT_CORE.RESTARTS 0, .rc, 0⟩, ⟨FLT_CORE.LAST 0, .ro, 0⟩, ⟨FLT_CORE.HALTED 0, .ro, 0⟩, ⟨FLT_CORE.WINDOW 0, .ro, 0⟩]⟩]

/-- Registers of block PWR. -/
def regsPWR : List RegDef := [
  ⟨PWR_STAT.addr, 1, 1, 1, 1, [⟨PWR_STAT.AOSRC, .ro, 0⟩, ⟨PWR_STAT.HOLDOK, .ro, 0⟩, ⟨PWR_STAT.PFLOW, .ro, 0⟩, ⟨PWR_STAT.BATLOW, .ro, 0⟩, ⟨PWR_STAT.BATEND, .ro, 0⟩, ⟨PWR_STAT.VIOHOK, .ro, 0⟩, ⟨PWR_STAT.VIOLOK, .ro, 0⟩, ⟨PWR_STAT.VDRVOK, .ro, 0⟩, ⟨PWR_STAT.VLOST, .w1c, 0⟩, ⟨PWR_STAT.CUT, .w1c, 0⟩]⟩,
  ⟨PWR_REQ.addr, 1, 1, 1, 1, [⟨PWR_REQ.REQ, .wo, 0⟩, ⟨PWR_REQ.RESULT, .ro, 0⟩]⟩,
  ⟨PWR_CFG.addr, 1, 1, 1, 1, [⟨PWR_CFG.FLOOR, .ws, 0⟩, ⟨PWR_CFG.LCDDOZE, .ws, 0⟩, ⟨PWR_CFG.BATLOW, .ws, 0x6e⟩]⟩,
  ⟨PWR_BANK.addr, 1, 1, 1, 1, [⟨PWR_BANK.OFF, .ws, 0⟩, ⟨PWR_BANK.RET, .ws, 0xf⟩]⟩,
  ⟨PWR_DRV.addr, 1, 1, 1, 1, [⟨PWR_DRV.SET, .ws, 2⟩, ⟨PWR_DRV.SRC, .ro, 0⟩]⟩,
  ⟨PWR_WAKE.addr, 1, 1, 1, 1, [⟨PWR_WAKE.ALARM, .ws, 1⟩, ⟨PWR_WAKE.BTN, .ws, 1⟩, ⟨PWR_WAKE.HOST, .ws, 1⟩, ⟨PWR_WAKE.GLINT, .ws, 1⟩, ⟨PWR_WAKE.OPT, .ws, 1⟩]⟩,
  ⟨PWR_WCAUSE.addr, 1, 1, 1, 1, [⟨PWR_WCAUSE.CAUSES, .rc, 0⟩]⟩,
  ⟨PWR_ALARM.addr, 1, 1, 1, 1, [⟨PWR_ALARM.ALARM_LO, .rw, 0⟩]⟩,
  ⟨PWR_ALARM_H.addr, 1, 1, 1, 1, [⟨PWR_ALARM_H.ALARM_HI, .rw, 0⟩]⟩,
  ⟨PWR_VBAT.addr, 1, 1, 1, 1, [⟨PWR_VBAT.MV, .ro, 0⟩]⟩,
  ⟨PWR_PF.addr, 1, 1, 1, 1, [⟨PWR_PF.RIDES, .rc, 0⟩, ⟨PWR_PF.PFS, .rc, 0⟩, ⟨PWR_PF.PAGES, .ro, 0⟩]⟩,
  ⟨PWR_DOM.addr 0, 1, 5, 1, 1, [⟨PWR_DOM.ON 0, .ro, 0⟩]⟩]

/-- Registers of block CLK. -/
def regsCLK : List RegDef := [
  ⟨CLK_STAT.addr, 1, 1, 1, 1, [⟨CLK_STAT.LFXOOK, .ro, 0⟩, ⟨CLK_STAT.HFXOOK, .ro, 0⟩, ⟨CLK_STAT.SPLLOK, .ro, 0⟩, ⟨CLK_STAT.EPLLOK, .ro, 0⟩, ⟨CLK_STAT.TDCOK, .ro, 0⟩, ⟨CLK_STAT.LPOOK, .ro, 0⟩, ⟨CLK_STAT.RTCSRC, .ro, 0⟩, ⟨CLK_STAT.SYSSRC, .ro, 0⟩, ⟨CLK_STAT.MISMATCH, .ro, 0⟩]⟩,
  ⟨CLK_FAIL.addr, 1, 1, 1, 1, [⟨CLK_FAIL.LFXO, .rc, 0⟩, ⟨CLK_FAIL.HFXO, .rc, 0⟩, ⟨CLK_FAIL.SPLL, .rc, 0⟩, ⟨CLK_FAIL.EPLL, .rc, 0⟩]⟩,
  ⟨CLK_TRIM.addr, 1, 1, 1, 1, [⟨CLK_TRIM.LFXOCAP, .ws, 0x18⟩, ⟨CLK_TRIM.HFXOCAP, .sl, 0x18⟩]⟩,
  ⟨CLK_LPO.addr, 1, 1, 1, 1, [⟨CLK_LPO.FREQ, .ro, 0⟩]⟩,
  ⟨CLK_RUN.addr 0, 1, 2, 1, 1, [⟨CLK_RUN.RUN 0, .ro, 0⟩]⟩,
  ⟨CLK_ZC.addr 0, 1, 3, 1, 1, [⟨CLK_ZC.HALF 0, .ro, 0⟩, ⟨CLK_ZC.LOCK 0, .ro, 0⟩, ⟨CLK_ZC.HOLD 0, .ro, 0⟩, ⟨CLK_ZC.IGNORED 0, .rc, 0⟩]⟩,
  ⟨CLK_QCNT.addr 0, 1, 0xa, 1, 1, [⟨CLK_QCNT.DROPS 0, .rc, 0⟩, ⟨CLK_QCNT.PEAK 0, .rc, 0⟩]⟩]

/-- Registers of block EVT. -/
def regsEVT : List RegDef := [
  ⟨EVT_HPEND.addr 0, 1, 0x24, 1, 1, [⟨EVT_HPEND.P 0, .w1c, 0⟩]⟩,
  ⟨EVT_RAW.addr 0, 1, 0x24, 1, 1, [⟨EVT_RAW.R 0, .w1c, 0⟩]⟩,
  ⟨EVT_CPEND.addr 0 0, 0x40, 3, 1, 0x24, [⟨EVT_CPEND.P 0 0, .ro, 0⟩]⟩]

/-- Registers of block TWL. -/
def regsTWL : List RegDef := [
  ⟨TWL_ECC.addr, 1, 1, 1, 1, [⟨TWL_ECC.CORR, .rc, 0⟩, ⟨TWL_ECC.UNCORR, .rc, 0⟩, ⟨TWL_ECC.BANK, .ro, 0⟩]⟩,
  ⟨TWL_ECC_ADDR.addr, 1, 1, 1, 1, [⟨TWL_ECC_ADDR.ADDR, .ro, 0⟩]⟩,
  ⟨TWL_INIT.addr 0, 1, 0xd, 1, 1, [⟨TWL_INIT.CLASS 0, .ro, 0⟩, ⟨TWL_INIT.SEALW 0, .ro, 0⟩, ⟨TWL_INIT.FENCED 0, .ro, 0⟩, ⟨TWL_INIT.SOFT 0, .ws, 0⟩, ⟨TWL_INIT.HARD 0, .ws, 0⟩]⟩,
  ⟨TWL_INIT13.addr, 1, 1, 1, 1, [⟨TWL_INIT13.CLASS, .ro, 3⟩, ⟨TWL_INIT13.SEALW, .ro, 0⟩, ⟨TWL_INIT13.FENCED, .ro, 0⟩, ⟨TWL_INIT13.SOFT, .ro, 5⟩, ⟨TWL_INIT13.HARD, .ro, 6⟩]⟩,
  ⟨TWL_CNT.addr 0, 1, 0xe, 1, 1, [⟨TWL_CNT.DELAYED 0, .rc, 0⟩, ⟨TWL_CNT.REFUSED 0, .rc, 0⟩]⟩,
  ⟨TWL_LAST.addr 0, 1, 0xe, 1, 1, [⟨TWL_LAST.CODE 0, .ro, 0⟩, ⟨TWL_LAST.TARGET 0, .ro, 0⟩]⟩,
  ⟨TWL_LEASE.addr 0, 1, 4, 1, 1, [⟨TWL_LEASE.HELD 0, .ro, 0⟩, ⟨TWL_LEASE.HOLDER 0, .ro, 0⟩, ⟨TWL_LEASE.QLEN 0, .ro, 0⟩, ⟨TWL_LEASE.REMAIN 0, .ro, 0⟩]⟩,
  ⟨TWL_LEASE_CMD.addr, 1, 1, 1, 1, [⟨TWL_LEASE_CMD.CMD, .wo, 0⟩, ⟨TWL_LEASE_CMD.LEASE, .wo, 0⟩, ⟨TWL_LEASE_CMD.RESULT, .ro, 0⟩]⟩,
  ⟨TWL_LEASE_DUR.addr 0, 1, 4, 1, 1, [⟨TWL_LEASE_DUR.DUR 0, .ws, 0x14⟩]⟩]

/-- Registers of block ECH. -/
def regsECH : List RegDef := [
  ⟨ECH_STAT.addr 0, 0x10000, 4, 1, 1, [⟨ECH_STAT.ACTIVE 0, .ro, 0⟩, ⟨ECH_STAT.RXBUSY 0, .ro, 0⟩, ⟨ECH_STAT.CLIP 0, .w1c, 0⟩]⟩,
  ⟨ECH_EPA.addr 0, 0x10000, 4, 1, 1, [⟨ECH_EPA.SCHED 0, .ro, 0⟩, ⟨ECH_EPA.FIRED 0, .ro, 0⟩]⟩,
  ⟨ECH_EPB.addr 0, 0x10000, 4, 1, 1, [⟨ECH_EPB.LOST 0, .ro, 0⟩, ⟨ECH_EPB.INCOMPLETE 0, .ro, 0⟩, ⟨ECH_EPB.CAUSE 0, .ro, 0⟩]⟩,
  ⟨ECH_PORTFLT.addr 0, 0x10000, 4, 1, 1, [⟨ECH_PORTFLT.SHORT 0, .w1c, 0⟩]⟩,
  ⟨ECH_CAL.addr 0 0, 0x10000, 4, 1, 4, [⟨ECH_CAL.OFFSET 0 0, .ro, 0⟩, ⟨ECH_CAL.RESID 0 0, .ro, 0⟩, ⟨ECH_CAL.FAILS 0 0, .rc, 0⟩]⟩,
  ⟨ECH_TDC.addr 0, 0x10000, 4, 1, 1, [⟨ECH_TDC.PERIOD 0, .ro, 0⟩, ⟨ECH_TDC.LSB 0, .ro, 0⟩]⟩,
  ⟨ECH_BURST0.addr 0 0, 0x10000, 4, 2, 0x10, [⟨ECH_BURST0.TYPE 0 0, .ws, 0⟩, ⟨ECH_BURST0.CPC 0 0, .ws, 0⟩, ⟨ECH_BURST0.CYC 0 0, .ws, 8⟩, ⟨ECH_BURST0.FREQ 0 0, .ws, 0x3e8⟩]⟩,
  ⟨ECH_BURST1.addr 0 0, 0x10000, 4, 2, 0x10, [⟨ECH_BURST1.AMP 0 0, .ws, 0x1e⟩, ⟨ECH_BURST1.SPAN 0 0, .ws, 0⟩]⟩,
  ⟨FIR_EPOCH.addr, 1, 1, 1, 1, [⟨FIR_EPOCH.EPLOG, .ws, 8⟩]⟩,
  ⟨FIR_PUB.addr, 1, 1, 1, 1, [⟨FIR_PUB.EPNUM, .ro, 0⟩]⟩,
  ⟨FIR_PUBLEN.addr, 1, 1, 1, 1, [⟨FIR_PUBLEN.LEN, .ro, 0⟩, ⟨FIR_PUBLEN.INCOMPLETE, .ro, 0⟩]⟩,
  ⟨FIR_PATH_A.addr 0, 4, 0x20, 1, 1, [⟨FIR_PATH_A.PORTA 0, .sl, 0⟩, ⟨FIR_PATH_A.PORTB 0, .sl, 0⟩, ⟨FIR_PATH_A.BURST 0, .ws, 0⟩, ⟨FIR_PATH_A.GROUP 0, .ws, 0⟩, ⟨FIR_PATH_A.PAIRS 0, .ws, 1⟩, ⟨FIR_PATH_A.ENG 0, .ro, 0⟩, ⟨FIR_PATH_A.EN 0, .sl, 0⟩]⟩,
  ⟨FIR_PATH_B.addr 0, 4, 0x20, 1, 1, [⟨FIR_PATH_B.WOPEN 0, .ws, 0⟩, ⟨FIR_PATH_B.WLEN 0, .ws, 0x64⟩]⟩,
  ⟨FIR_PATH_C.addr 0, 4, 0x20, 1, 1, [⟨FIR_PATH_C.GAIN 0, .ws, 3⟩, ⟨FIR_PATH_C.MATCH 0, .ws, 1⟩, ⟨FIR_PATH_C.GAP 0, .ws, 5⟩, ⟨FIR_PATH_C.GOLD 0, .ws, 0⟩]⟩,
  ⟨FIR_PATH_D.addr 0, 4, 0x20, 1, 1, [⟨FIR_PATH_D.ZFO 0, .sl, 0⟩]⟩,
  ⟨FIR_PCNT.addr 0, 1, 0x20, 1, 1, [⟨FIR_PCNT.OVERRUN 0, .rc, 0⟩, ⟨FIR_PCNT.NOTFIRED 0, .rc, 0⟩, ⟨FIR_PCNT.DISCARDED 0, .rc, 0⟩, ⟨FIR_PCNT.DRIVEF 0, .rc, 0⟩]⟩,
  ⟨ARV_PATH_M.addr 0, 4, 0x20, 1, 1, [⟨ARV_PATH_M.MODE 0, .ws, 1⟩, ⟨ARV_PATH_M.TMPL 0, .ws, 1⟩, ⟨ARV_PATH_M.THR 0, .ws, 0x26⟩, ⟨ARV_PATH_M.ZCSEL 0, .ws, 2⟩, ⟨ARV_PATH_M.ZCN 0, .ws, 8⟩, ⟨ARV_PATH_M.RHOMIN 0, .ws, 0xcd⟩]⟩,
  ⟨ARV_PATH_Q.addr 0, 4, 0x20, 1, 1, [⟨ARV_PATH_Q.AMIN 0, .ws, 0x40⟩, ⟨ARV_PATH_Q.SIDEMAX 0, .ws, 0xb3⟩, ⟨ARV_PATH_Q.PRE 0, .ws, 0x40⟩]⟩,
  ⟨ARV_PATH_L.addr 0, 4, 0x20, 1, 1, [⟨ARV_PATH_L.PLEN 0, .sl, 0x186a0⟩]⟩,
  ⟨ARV_PATH_T.addr 0, 4, 0x20, 1, 1, [⟨ARV_PATH_T.TDLY 0, .sl, 0⟩]⟩,
  ⟨ARV_LAST_F.addr 0, 4, 0x20, 1, 1, [⟨ARV_LAST_F.TOF 0, .ro, 0⟩]⟩,
  ⟨ARV_LAST_R.addr 0, 4, 0x20, 1, 1, [⟨ARV_LAST_R.TOF 0, .ro, 0⟩]⟩,
  ⟨ARV_LAST_Q.addr 0, 4, 0x20, 1, 1, [⟨ARV_LAST_Q.QF 0, .ro, 0⟩, ⟨ARV_LAST_Q.QR 0, .ro, 0⟩, ⟨ARV_LAST_Q.AMPF 0, .ro, 0⟩, ⟨ARV_LAST_Q.AMPR 0, .ro, 0⟩]⟩,
  ⟨ARV_SOS.addr 0, 4, 0x20, 1, 1, [⟨ARV_SOS.SOS 0, .ro, 0⟩]⟩,
  ⟨ARV_QCNT0.addr 0, 2, 0x20, 1, 1, [⟨ARV_QCNT0.CALFAIL 0, .rc, 0⟩, ⟨ARV_QCNT0.SATURATED 0, .rc, 0⟩, ⟨ARV_QCNT0.LOWAMP 0, .rc, 0⟩, ⟨ARV_QCNT0.NOARRIVAL 0, .rc, 0⟩]⟩,
  ⟨ARV_QCNT1.addr 0, 2, 0x20, 1, 1, [⟨ARV_QCNT1.EDGE 0, .rc, 0⟩, ⟨ARV_QCNT1.AMBIGUOUS 0, .rc, 0⟩, ⟨ARV_QCNT1.DISTURBED 0, .rc, 0⟩, ⟨ARV_QCNT1.CYCLESKIP 0, .rc, 0⟩]⟩]

/-- Registers of block TMP. -/
def regsTMP : List RegDef := [
  ⟨TMP_CFG.addr 0, 4, 0x10, 1, 1, [⟨TMP_CFG.EN 0, .sl, 0⟩, ⟨TMP_CFG.TYPE 0, .sl, 1⟩, ⟨TMP_CFG.TCONV 0, .sl, 1⟩, ⟨TMP_CFG.RDIV 0, .sl, 0⟩, ⟨TMP_CFG.OFS 0, .sl, 0⟩]⟩,
  ⟨TMP_RNOM.addr 0, 4, 0x10, 1, 1, [⟨TMP_RNOM.RNOM 0, .sl, 0x7a120⟩]⟩,
  ⟨TMP_VAL.addr 0, 4, 0x10, 1, 1, [⟨TMP_VAL.VAL 0, .ro, 0⟩]⟩,
  ⟨TMP_ST.addr 0, 4, 0x10, 1, 1, [⟨TMP_ST.OVL 0, .ro, 0⟩, ⟨TMP_ST.FAULT 0, .ro, 0⟩, ⟨TMP_ST.OVLS 0, .rc, 0⟩, ⟨TMP_ST.RATIO 0, .ro, 0⟩]⟩,
  ⟨TMP_REF.addr, 1, 1, 1, 1, [⟨TMP_REF.RREF, .sl, 0xf4240⟩]⟩]

/-- Registers of block BRG. -/
def regsBRG : List RegDef := [
  ⟨BRG_CFG.addr 0, 8, 4, 1, 1, [⟨BRG_CFG.EN 0, .sl, 0⟩, ⟨BRG_CFG.TCONV 0, .sl, 1⟩, ⟨BRG_CFG.RDIV 0, .sl, 0⟩]⟩,
  ⟨BRG_P0.addr 0, 8, 4, 1, 1, [⟨BRG_P0.P 0, .sl, 0⟩]⟩,
  ⟨BRG_P1.addr 0, 8, 4, 1, 1, [⟨BRG_P1.P 0, .sl, 0⟩]⟩,
  ⟨BRG_P2.addr 0, 8, 4, 1, 1, [⟨BRG_P2.P 0, .sl, 0⟩]⟩,
  ⟨BRG_VAL.addr 0, 8, 4, 1, 1, [⟨BRG_VAL.VAL 0, .ro, 0⟩]⟩,
  ⟨BRG_ST.addr 0, 8, 4, 1, 1, [⟨BRG_ST.OVL 0, .ro, 0⟩, ⟨BRG_ST.FAULT 0, .ro, 0⟩, ⟨BRG_ST.OVLS 0, .rc, 0⟩, ⟨BRG_ST.RATIO 0, .ro, 0⟩]⟩]

/-- Registers of block FLO. -/
def regsFLO : List RegDef := [
  ⟨FLO_CFG.addr 0, 0x40, 4, 1, 1, [⟨FLO_CFG.EN 0, .sl, 0⟩, ⟨FLO_CFG.KIND 0, .sl, 1⟩, ⟨FLO_CFG.MODE 0, .sl, 0⟩, ⟨FLO_CFG.MINPAIRS 0, .sl, 1⟩, ⟨FLO_CFG.HOLD 0, .sl, 0⟩]⟩,
  ⟨FLO_PATHS.addr 0, 0x40, 4, 1, 1, [⟨FLO_PATHS.MASK 0, .sl, 0⟩]⟩,
  ⟨FLO_DIAM.addr 0, 0x40, 4, 1, 1, [⟨FLO_DIAM.DIAM 0, .sl, 0x4e20⟩]⟩,
  ⟨FLO_LIM.addr 0, 0x40, 4, 1, 1, [⟨FLO_LIM.CUTOFF 0, .sl, 0x3e8⟩, ⟨FLO_LIM.RESMAX 0, .sl, 0x14⟩]⟩,
  ⟨FLO_QMAX.addr 0, 0x40, 4, 1, 1, [⟨FLO_QMAX.QMAX 0, .ws, 0⟩]⟩,
  ⟨FLO_Q.addr 0, 0x40, 4, 1, 1, [⟨FLO_Q.Q 0, .ro, 0⟩]⟩,
  ⟨FLO_VEL.addr 0, 0x40, 4, 1, 1, [⟨FLO_VEL.VEL 0, .ro, 0⟩]⟩,
  ⟨FLO_STAT.addr 0, 0x40, 4, 1, 1, [⟨FLO_STAT.NPAIRS 0, .ro, 0⟩, ⟨FLO_STAT.FAILED 0, .ro, 0⟩, ⟨FLO_STAT.SUBST 0, .ro, 0⟩, ⟨FLO_STAT.FALLBACK 0, .ro, 0⟩, ⟨FLO_STAT.CUT 0, .ro, 0⟩, ⟨FLO_STAT.SAT 0, .ro, 0⟩, ⟨FLO_STAT.LATE 0, .rc, 0⟩]⟩,
  ⟨FLO_RESID.addr 0, 0x40, 4, 1, 1, [⟨FLO_RESID.RESID 0, .ro, 0⟩]⟩,
  ⟨FLO_VOLF.addr 0, 0x40, 4, 1, 1, [⟨FLO_VOLF.VOLF_LO 0, .ro, 0⟩]⟩,
  ⟨FLO_VOLF_H.addr 0, 0x40, 4, 1, 1, [⟨FLO_VOLF_H.VOLF_HI 0, .ro, 0⟩]⟩,
  ⟨FLO_VOLR.addr 0, 0x40, 4, 1, 1, [⟨FLO_VOLR.VOLR_LO 0, .ro, 0⟩]⟩,
  ⟨FLO_VOLR_H.addr 0, 0x40, 4, 1, 1, [⟨FLO_VOLR_H.VOLR_HI 0, .ro, 0⟩]⟩,
  ⟨FLO_FTIME.addr 0, 0x40, 4, 1, 1, [⟨FLO_FTIME.FTIME_LO 0, .ro, 0⟩]⟩,
  ⟨FLO_FTIME_H.addr 0, 0x40, 4, 1, 1, [⟨FLO_FTIME_H.FTIME_HI 0, .ro, 0⟩]⟩,
  ⟨FLO_COEF.addr 0 0, 0x40, 4, 1, 0xc, [⟨FLO_COEF.COEF 0 0, .ro, 0⟩]⟩,
  ⟨FLO_PATH_AX.addr 0, 8, 0x20, 1, 1, [⟨FLO_PATH_AX.AXIAL 0, .sl, 0⟩]⟩,
  ⟨FLO_PATH_WG.addr 0, 8, 0x20, 1, 1, [⟨FLO_PATH_WG.WGT 0, .sl, 0⟩]⟩,
  ⟨FLO_PATH_CH.addr 0, 8, 0x20, 1, 1, [⟨FLO_PATH_CH.H 0, .sl, 0⟩, ⟨FLO_PATH_CH.PHI 0, .sl, 0⟩]⟩,
  ⟨FLO_PATH_DT.addr 0, 8, 0x20, 1, 1, [⟨FLO_PATH_DT.DT 0, .ro, 0⟩]⟩,
  ⟨FLO_PATH_V.addr 0, 8, 0x20, 1, 1, [⟨FLO_PATH_V.V 0, .ro, 0⟩]⟩,
  ⟨FLO_PATH_N.addr 0, 8, 0x20, 1, 1, [⟨FLO_PATH_N.N 0, .ro, 0⟩]⟩,
  ⟨FLO_CURVE_X.addr 0 0, 0x10, 0x10, 2, 8, [⟨FLO_CURVE_X.X 0 0, .sl, 0⟩]⟩,
  ⟨FLO_CURVE_K.addr 0 0, 0x10, 0x10, 2, 8, [⟨FLO_CURVE_K.K 0 0, .sl, 0⟩]⟩,
  ⟨FLO_REG.addr, 1, 1, 1, 1, [⟨FLO_REG.REGA, .sl, 0x40⟩, ⟨FLO_REG.REGS, .sl, 0x400⟩]⟩,
  ⟨MED_TAB0.addr 0, 4, 0x10, 1, 1, [⟨MED_TAB0.KIND 0, .sl, 0⟩, ⟨MED_TAB0.CURVE 0, .sl, 0⟩, ⟨MED_TAB0.TOL 0, .sl, 0⟩]⟩,
  ⟨MED_TAB1.addr 0, 4, 0x10, 1, 1, [⟨MED_TAB1.C0 0, .sl, 0⟩]⟩,
  ⟨MED_TAB2.addr 0, 4, 0x10, 1, 1, [⟨MED_TAB2.TREF 0, .sl, 0⟩, ⟨MED_TAB2.TC1 0, .sl, 0⟩]⟩,
  ⟨MED_TAB3.addr 0, 4, 0x10, 1, 1, [⟨MED_TAB3.TC2 0, .sl, 0⟩, ⟨MED_TAB3.HA 0, .sl, 0⟩, ⟨MED_TAB3.HB 0, .sl, 0⟩, ⟨MED_TAB3.H2ALARM 0, .sl, 0x14⟩]⟩,
  ⟨MED_CFG.addr, 1, 1, 1, 1, [⟨MED_CFG.HYST, .sl, 4⟩, ⟨MED_CFG.UNKCURVE, .sl, 0⟩]⟩,
  ⟨MED_MP0.addr 0, 2, 4, 1, 1, [⟨MED_MP0.SOS 0, .ro, 0⟩]⟩,
  ⟨MED_MP1.addr 0, 2, 4, 1, 1, [⟨MED_MP1.CLASS 0, .ro, 0⟩, ⟨MED_MP1.UNKNOWN 0, .ro, 1⟩, ⟨MED_MP1.CAND 0, .ro, 0⟩, ⟨MED_MP1.RUN 0, .ro, 0⟩, ⟨MED_MP1.CURVE 0, .ro, 0⟩, ⟨MED_MP1.H2 0, .ro, 0⟩, ⟨MED_MP1.H2OUT 0, .ro, 0⟩, ⟨MED_MP1.H2HIGH 0, .ro, 0⟩]⟩]

/-- Registers of block NGE. -/
def regsNGE : List RegDef := [
  ⟨NGE_CFG.addr 0, 0x40, 4, 1, 1, [⟨NGE_CFG.FLUID 0, .sl, 0⟩, ⟨NGE_CFG.GLYPCT 0, .sl, 0⟩, ⟨NGE_CFG.INSTALL 0, .sl, 0⟩, ⟨NGE_CFG.COOLEN 0, .sl, 0⟩, ⟨NGE_CFG.DTMIN 0, .sl, 0xc350⟩]⟩,
  ⟨NGE_CH.addr 0, 0x40, 4, 1, 1, [⟨NGE_CH.TA 0, .sl, 0x1f⟩, ⟨NGE_CH.TB 0, .sl, 0x1f⟩, ⟨NGE_CH.PCH 0, .sl, 0xf⟩]⟩,
  ⟨NGE_PNOM.addr 0, 0x40, 4, 1, 1, [⟨NGE_PNOM.PNOM 0, .sl, 0x18bcd⟩]⟩,
  ⟨NGE_PB.addr 0, 0x40, 4, 1, 1, [⟨NGE_PB.PB 0, .sl, 0x18bcd⟩]⟩,
  ⟨NGE_TB.addr 0, 0x40, 4, 1, 1, [⟨NGE_TB.TB 0, .sl, 0x1a0cb38⟩]⟩,
  ⟨NGE_ZRATIO.addr 0, 0x40, 4, 1, 1, [⟨NGE_ZRATIO.ZRATIO 0, .sl, 0xf4240⟩]⟩,
  ⟨NGE_TFIX.addr 0, 0x40, 4, 1, 1, [⟨NGE_TFIX.TFIX 0, .sl, 0x1e8480⟩]⟩,
  ⟨NGE_TS.addr 0, 0x40, 4, 1, 1, [⟨NGE_TS.TS 0, .ro, 0⟩]⟩,
  ⟨NGE_TR.addr 0, 0x40, 4, 1, 1, [⟨NGE_TR.TR 0, .ro, 0⟩]⟩,
  ⟨NGE_DT.addr 0, 0x40, 4, 1, 1, [⟨NGE_DT.DT 0, .ro, 0⟩]⟩,
  ⟨NGE_KCOEF.addr 0, 0x40, 4, 1, 1, [⟨NGE_KCOEF.KCOEF 0, .ro, 0⟩]⟩,
  ⟨NGE_POWER.addr 0, 0x40, 4, 1, 1, [⟨NGE_POWER.POWER 0, .ro, 0⟩]⟩,
  ⟨NGE_DUR.addr 0, 0x40, 4, 1, 1, [⟨NGE_DUR.DUR 0, .ro, 0⟩]⟩,
  ⟨NGE_STAT.addr 0, 0x40, 4, 1, 1, [⟨NGE_STAT.POWSAT 0, .ro, 0⟩, ⟨NGE_STAT.TFAULT 0, .ro, 0⟩]⟩,
  ⟨NGE_HEAT.addr 0, 0x40, 4, 1, 1, [⟨NGE_HEAT.HEAT_LO 0, .ro, 0⟩]⟩,
  ⟨NGE_HEAT_H.addr 0, 0x40, 4, 1, 1, [⟨NGE_HEAT_H.HEAT_HI 0, .ro, 0⟩]⟩,
  ⟨NGE_COOL.addr 0, 0x40, 4, 1, 1, [⟨NGE_COOL.COOL_LO 0, .ro, 0⟩]⟩,
  ⟨NGE_COOL_H.addr 0, 0x40, 4, 1, 1, [⟨NGE_COOL_H.COOL_HI 0, .ro, 0⟩]⟩,
  ⟨NGE_VOLB.addr 0, 0x40, 4, 1, 1, [⟨NGE_VOLB.VOLB_LO 0, .ro, 0⟩]⟩,
  ⟨NGE_VOLB_H.addr 0, 0x40, 4, 1, 1, [⟨NGE_VOLB_H.VOLB_HI 0, .ro, 0⟩]⟩,
  ⟨NGE_FTIME.addr 0, 0x40, 4, 1, 1, [⟨NGE_FTIME.FTIME_LO 0, .ro, 0⟩]⟩,
  ⟨NGE_FTIME_H.addr 0, 0x40, 4, 1, 1, [⟨NGE_FTIME_H.FTIME_HI 0, .ro, 0⟩]⟩]

/-- Registers of block BIL. -/
def regsBIL : List RegDef := [
  ⟨BIL_CFG.addr, 1, 1, 1, 1, [⟨BIL_CFG.DSTEN, .ws, 0⟩, ⟨BIL_CFG.CLOSEACT, .ws, 0⟩]⟩,
  ⟨BIL_TOFS.addr, 1, 1, 1, 1, [⟨BIL_TOFS.TOFS, .ws, 0⟩, ⟨BIL_TOFS.DSTOFS, .ws, 0x3c⟩]⟩,
  ⟨BIL_DSTON.addr, 1, 1, 1, 1, [⟨BIL_DSTON.MONTH, .ws, 3⟩, ⟨BIL_DSTON.WEEK, .ws, 5⟩, ⟨BIL_DSTON.WDAY, .ws, 6⟩, ⟨BIL_DSTON.MIN, .ws, 0x78⟩]⟩,
  ⟨BIL_DSTOFF.addr, 1, 1, 1, 1, [⟨BIL_DSTOFF.MONTH, .ws, 0xa⟩, ⟨BIL_DSTOFF.WEEK, .ws, 5⟩, ⟨BIL_DSTOFF.WDAY, .ws, 6⟩, ⟨BIL_DSTOFF.MIN, .ws, 0x78⟩]⟩,
  ⟨BIL_CALID.addr, 1, 1, 1, 1, [⟨BIL_CALID.ID, .ws, 0⟩]⟩,
  ⟨BIL_BCFG.addr, 1, 1, 1, 1, [⟨BIL_BCFG.MODE, .ws, 0⟩, ⟨BIL_BCFG.DOM, .ws, 1⟩, ⟨BIL_BCFG.MIN, .ws, 0⟩, ⟨BIL_BCFG.PMON, .ws, 1⟩, ⟨BIL_BCFG.ANCHOR, .ws, 1⟩]⟩,
  ⟨BIL_CMD.addr, 1, 1, 1, 1, [⟨BIL_CMD.CMD, .wo, 0⟩, ⟨BIL_CMD.MPMASK, .wo, 0⟩, ⟨BIL_CMD.RESULT, .ro, 0⟩]⟩,
  ⟨BIL_NOW.addr, 1, 1, 1, 1, [⟨BIL_NOW.SEASON, .ro, 0xf⟩, ⟨BIL_NOW.WEEK, .ro, 0⟩, ⟨BIL_NOW.DAYP, .ro, 0⟩, ⟨BIL_NOW.SPECIAL, .ro, 0⟩, ⟨BIL_NOW.DST, .ro, 0⟩, ⟨BIL_NOW.TCAL, .ro, 0⟩, ⟨BIL_NOW.MIN, .ro, 0⟩]⟩,
  ⟨BIL_LASTB.addr, 1, 1, 1, 1, [⟨BIL_LASTB.B_LO, .ro, 0⟩]⟩,
  ⟨BIL_LASTB_H.addr, 1, 1, 1, 1, [⟨BIL_LASTB_H.B_HI, .ro, 0⟩]⟩,
  ⟨BIL_SEASON.addr 0, 1, 8, 1, 1, [⟨BIL_SEASON.EN 0, .ws, 0⟩, ⟨BIL_SEASON.WEEK 0, .ws, 0⟩, ⟨BIL_SEASON.MONTH 0, .ws, 1⟩, ⟨BIL_SEASON.DAY 0, .ws, 1⟩]⟩,
  ⟨BIL_WEEK.addr 0, 1, 8, 1, 1, [⟨BIL_WEEK.DAYPS 0, .ws, 0⟩]⟩,
  ⟨BIL_SPEC.addr 0, 1, 0x20, 1, 1, [⟨BIL_SPEC.EN 0, .ws, 0⟩, ⟨BIL_SPEC.DAYP 0, .ws, 0⟩, ⟨BIL_SPEC.MONTH 0, .ws, 1⟩, ⟨BIL_SPEC.DAY 0, .ws, 1⟩, ⟨BIL_SPEC.YEAR 0, .ws, 0⟩]⟩,
  ⟨BIL_DAY_SP.addr 0 0, 0x10, 0x10, 1, 0xc, [⟨BIL_DAY_SP.EN 0 0, .ws, 0⟩, ⟨BIL_DAY_SP.TARIFF 0 0, .ws, 0⟩, ⟨BIL_DAY_SP.MIN 0 0, .ws, 0⟩]⟩,
  ⟨BIL_MP_CFG.addr 0, 0x100, 4, 1, 1, [⟨BIL_MP_CFG.EN 0, .ws, 0⟩, ⟨BIL_MP_CFG.QTY 0, .ws, 0⟩, ⟨BIL_MP_CFG.DMODE 0, .ws, 0⟩, ⟨BIL_MP_CFG.DLEN 0, .ws, 5⟩, ⟨BIL_MP_CFG.NSUB 0, .ws, 3⟩]⟩,
  ⟨BIL_MP_NOW.addr 0, 0x100, 4, 1, 1, [⟨BIL_MP_NOW.TARIFF 0, .ro, 0⟩, ⟨BIL_MP_NOW.WHO 0, .ro, 0⟩]⟩,
  ⟨BIL_MP_CONDA.addr 0 0, 0x100, 4, 2, 4, [⟨BIL_MP_CONDA.EN 0 0, .ws, 0⟩, ⟨BIL_MP_CONDA.SRC 0 0, .ws, 0⟩, ⟨BIL_MP_CONDA.OP 0 0, .ws, 0⟩, ⟨BIL_MP_CONDA.TARIFF 0 0, .ws, 0⟩]⟩,
  ⟨BIL_MP_CONDB.addr 0 0, 0x100, 4, 2, 4, [⟨BIL_MP_CONDB.THR 0 0, .ws, 0⟩]⟩,
  ⟨BIL_MP_TR.addr 0 0, 0x100, 4, 2, 8, [⟨BIL_MP_TR.TR_LO 0 0, .ro, 0⟩]⟩,
  ⟨BIL_MP_TR_H.addr 0 0, 0x100, 4, 2, 8, [⟨BIL_MP_TR_H.TR_HI 0 0, .ro, 0⟩]⟩,
  ⟨BIL_MP_BASE.addr 0, 0x100, 4, 1, 1, [⟨BIL_MP_BASE.BASE_LO 0, .ro, 0⟩]⟩,
  ⟨BIL_MP_BASE_H.addr 0, 0x100, 4, 1, 1, [⟨BIL_MP_BASE_H.BASE_HI 0, .ro, 0⟩]⟩,
  ⟨BIL_MP_DCUR.addr 0, 0x100, 4, 1, 1, [⟨BIL_MP_DCUR.DCUR 0, .ro, 0⟩]⟩,
  ⟨BIL_MP_DLAST.addr 0, 0x100, 4, 1, 1, [⟨BIL_MP_DLAST.DLAST 0, .ro, 0⟩]⟩,
  ⟨BIL_MP_DLASTT.addr 0, 0x100, 4, 1, 1, [⟨BIL_MP_DLASTT.DLASTT_LO 0, .ro, 0⟩]⟩,
  ⟨BIL_MP_DLASTT_H.addr 0, 0x100, 4, 1, 1, [⟨BIL_MP_DLASTT_H.DLASTT_HI 0, .ro, 0⟩]⟩,
  ⟨BIL_MP_DSTAT.addr 0, 0x100, 4, 1, 1, [⟨BIL_MP_DSTAT.CSET 0, .ro, 0⟩, ⟨BIL_MP_DSTAT.OUTAGE 0, .ro, 0⟩, ⟨BIL_MP_DSTAT.PARTIAL 0, .ro, 0⟩, ⟨BIL_MP_DSTAT.GAP 0, .ro, 0⟩, ⟨BIL_MP_DSTAT.ELAPSED 0, .ro, 0⟩]⟩,
  ⟨BIL_MP_MD.addr 0 0, 0x100, 4, 3, 9, [⟨BIL_MP_MD.MD 0 0, .ro, 0⟩]⟩,
  ⟨BIL_MP_MDT.addr 0 0, 0x100, 4, 3, 9, [⟨BIL_MP_MDT.MDT_LO 0 0, .ro, 0⟩]⟩,
  ⟨BIL_MP_MDT_H.addr 0 0, 0x100, 4, 3, 9, [⟨BIL_MP_MDT_H.MDT_HI 0 0, .ro, 0⟩]⟩,
  ⟨BIL_MP_SNAPIDX.addr 0, 0x100, 4, 1, 1, [⟨BIL_MP_SNAPIDX.NEWEST 0, .ro, 0x1f⟩, ⟨BIL_MP_SNAPIDX.COUNT 0, .ro, 0⟩, ⟨BIL_MP_SNAPIDX.SEQ 0, .ro, 0⟩]⟩,
  ⟨BIL_SNAP.addr 0 0, 0x800, 4, 1, 0x480, [⟨BIL_SNAP.W 0 0, .ro, 0⟩]⟩]

/-- Registers of block STO. -/
def regsSTO : List RegDef := [
  ⟨STO_STAT.addr, 1, 1, 1, 1, [⟨STO_STAT.PENDING, .ro, 0⟩, ⟨STO_STAT.STORING, .ro, 0⟩, ⟨STO_STAT.CURRENT, .ro, 0⟩]⟩,
  ⟨STO_SPARE.addr, 1, 1, 1, 1, [⟨STO_SPARE.SEALFREE, .ro, 0x10⟩, ⟨STO_SPARE.OPENFREE, .ro, 0x10⟩]⟩,
  ⟨STO_LAST.addr, 1, 1, 1, 1, [⟨STO_LAST.PAGES, .ro, 0⟩, ⟨STO_LAST.REGION, .ro, 0⟩, ⟨STO_LAST.RESULT, .ro, 0⟩]⟩,
  ⟨STO_PSTAT.addr, 1, 1, 1, 1, [⟨STO_PSTAT.BUSY, .ro, 0⟩, ⟨STO_PSTAT.OPEN, .ro, 0⟩, ⟨STO_PSTAT.WRITE, .ro, 0⟩, ⟨STO_PSTAT.RESULT, .ro, 0⟩, ⟨STO_PSTAT.REMAIN, .ro, 0⟩]⟩,
  ⟨STO_REG_CFG.addr 0, 1, 4, 1, 1, [⟨STO_REG_CFG.POLICY 0, .ro, 0⟩, ⟨STO_REG_CFG.PERIOD 0, .ws, 0⟩]⟩,
  ⟨STO_REG_CFGO.addr 0, 1, 0xc, 1, 1, [⟨STO_REG_CFGO.POLICY 0, .ws, 0⟩, ⟨STO_REG_CFGO.PERIOD 0, .ws, 0⟩]⟩,
  ⟨STO_REG_STAT.addr 0, 1, 0x10, 1, 1, [⟨STO_REG_STAT.FIRST 0, .ro, 0⟩, ⟨STO_REG_STAT.SIZE 0, .ro, 0⟩, ⟨STO_REG_STAT.DIRTY 0, .ro, 0⟩, ⟨STO_REG_STAT.END 0, .ro, 0⟩, ⟨STO_REG_STAT.SEALED 0, .ro, 0⟩, ⟨STO_REG_STAT.RECALLED 0, .ro, 0⟩]⟩,
  ⟨STO_REG_WEAR.addr 0, 1, 0x10, 1, 1, [⟨STO_REG_WEAR.MAXCNT 0, .ro, 0⟩, ⟨STO_REG_WEAR.REMAPS 0, .ro, 0⟩]⟩,
  ⟨STO_LOCK.addr 0, 1, 0x11, 1, 1, [⟨STO_LOCK.FAILS 0, .ro, 0⟩, ⟨STO_LOCK.LEVEL 0, .ro, 0⟩, ⟨STO_LOCK.REMAIN 0, .ro, 0⟩]⟩,
  ⟨STO_PCMD.addr, 1, 1, 1, 1, [⟨STO_PCMD.CMD, .wo, 0⟩, ⟨STO_PCMD.REGION, .wo, 0⟩, ⟨STO_PCMD.MASK, .wo, 0⟩]⟩,
  ⟨STO_PADDR.addr, 1, 1, 1, 1, [⟨STO_PADDR.OFFSET, .rw, 0⟩]⟩,
  ⟨STO_PLEN.addr, 1, 1, 1, 1, [⟨STO_PLEN.LEN, .rw, 0⟩]⟩,
  ⟨STO_PDATA.addr, 1, 1, 1, 1, [⟨STO_PDATA.DATA, .rw, 0⟩]⟩,
  ⟨STO_PW.addr 0, 1, 4, 1, 1, [⟨STO_PW.PW 0, .wo, 0⟩]⟩]

/-- Registers of block PLS. -/
def regsPLS : List RegDef := [
  ⟨PLS_CFG.addr, 1, 1, 1, 1, [⟨PLS_CFG.EN, .ws, 0⟩, ⟨PLS_CFG.ROLE, .ws, 0⟩, ⟨PLS_CFG.NETMODE, .ws, 0⟩, ⟨PLS_CFG.COUPLE, .ws, 0⟩, ⟨PLS_CFG.PHASE, .ws, 0⟩, ⟨PLS_CFG.TTL, .ws, 8⟩, ⟨PLS_CFG.NETID, .ws, 0⟩]⟩,
  ⟨PLS_ADDR.addr, 1, 1, 1, 1, [⟨PLS_ADDR.ADDR, .ws, 0⟩]⟩,
  ⟨PLS_PHY.addr, 1, 1, 1, 1, [⟨PLS_PHY.PW, .ws, 0x19⟩, ⟨PLS_PHY.SPAN, .ws, 4⟩, ⟨PLS_PHY.RMODE, .ws, 0⟩, ⟨PLS_PHY.DETMIN, .ws, 0x28⟩, ⟨PLS_PHY.ITXMIN, .ws, 0x14⟩]⟩,
  ⟨PLS_MAC.addr, 1, 1, 1, 1, [⟨PLS_MAC.RETRY, .ws, 3⟩, ⟨PLS_MAC.CWMIN, .ws, 3⟩, ⟨PLS_MAC.CWMAX, .ws, 6⟩, ⟨PLS_MAC.ADV, .ws, 0xf⟩, ⟨PLS_MAC.GAPMAX, .ws, 0x40⟩]⟩,
  ⟨PLS_STAT.addr, 1, 1, 1, 1, [⟨PLS_STAT.TXACT, .ro, 0⟩, ⟨PLS_STAT.RXACT, .ro, 0⟩, ⟨PLS_STAT.PAUSED, .ro, 0⟩, ⟨PLS_STAT.LOCK, .ro, 0⟩, ⟨PLS_STAT.RCUR, .ro, 0⟩, ⟨PLS_STAT.QOWN, .ro, 0⟩, ⟨PLS_STAT.QRELAY, .ro, 0⟩]⟩,
  ⟨PLS_CNT0.addr, 1, 1, 1, 1, [⟨PLS_CNT0.TRAINS, .rc, 0⟩, ⟨PLS_CNT0.ABANDONED, .rc, 0⟩]⟩,
  ⟨PLS_CNT1.addr, 1, 1, 1, 1, [⟨PLS_CNT1.FRAMES, .rc, 0⟩, ⟨PLS_CNT1.FECFAIL, .rc, 0⟩]⟩,
  ⟨PLS_CNT2.addr, 1, 1, 1, 1, [⟨PLS_CNT2.HCSFAIL, .rc, 0⟩, ⟨PLS_CNT2.PAUSES, .rc, 0⟩, ⟨PLS_CNT2.NOACK, .rc, 0⟩, ⟨PLS_CNT2.TTLDROP, .rc, 0⟩]⟩,
  ⟨PLS_CNT3.addr, 1, 1, 1, 1, [⟨PLS_CNT3.RELAYDROP, .rc, 0⟩, ⟨PLS_CNT3.RELAYDELAY, .rc, 0⟩, ⟨PLS_CNT3.RXDROP, .rc, 0⟩]⟩,
  ⟨PLS_NBR_A.addr 0, 2, 0x20, 1, 1, [⟨PLS_NBR_A.ADDR 0, .ro, 0⟩]⟩,
  ⟨PLS_NBR_B.addr 0, 2, 0x20, 1, 1, [⟨PLS_NBR_B.F 0, .ro, 0⟩, ⟨PLS_NBR_B.D 0, .ro, 0⟩, ⟨PLS_NBR_B.R 0, .ro, 0⟩, ⟨PLS_NBR_B.LC 0, .ro, 0⟩]⟩,
  ⟨PLS_RT_A.addr 0, 4, 0x80, 1, 1, [⟨PLS_RT_A.DEST 0, .ro, 0⟩]⟩,
  ⟨PLS_RT_B.addr 0, 4, 0x80, 1, 1, [⟨PLS_RT_B.NEXT 0, .ro, 0⟩]⟩,
  ⟨PLS_RT_C.addr 0, 4, 0x80, 1, 1, [⟨PLS_RT_C.COST 0, .ro, 0⟩, ⟨PLS_RT_C.SEQ 0, .ro, 0⟩, ⟨PLS_RT_C.HOPS 0, .ro, 0⟩, ⟨PLS_RT_C.VALID 0, .ro, 0⟩, ⟨PLS_RT_C.BROKEN 0, .ro, 0⟩]⟩,
  ⟨PLS_CAND_DEST.addr 0, 0x20, 0x40, 1, 1, [⟨PLS_CAND_DEST.DEST 0, .rw, 0⟩]⟩,
  ⟨PLS_CAND_REP0.addr 0 0, 0x20, 0x40, 5, 4, [⟨PLS_CAND_REP0.REP 0 0, .rw, 0⟩]⟩,
  ⟨PLS_CAND_REP1.addr 0 0, 0x20, 0x40, 5, 4, [⟨PLS_CAND_REP1.REP 0 0, .rw, 0⟩]⟩,
  ⟨PLS_CAND_REP2.addr 0 0, 0x20, 0x40, 5, 4, [⟨PLS_CAND_REP2.REP 0 0, .rw, 0⟩]⟩,
  ⟨PLS_CAND_REP3.addr 0 0, 0x20, 0x40, 5, 4, [⟨PLS_CAND_REP3.REP 0 0, .rw, 0⟩]⟩,
  ⟨PLS_CAND_S.addr 0 0, 0x20, 0x40, 5, 4, [⟨PLS_CAND_S.RCNT 0 0, .rw, 0⟩, ⟨PLS_CAND_S.SCORE 0 0, .ro, 0⟩]⟩]

/-- Registers of block RAD. -/
def regsRAD : List RegDef := [
  ⟨RAD_CFG.addr, 1, 1, 1, 1, [⟨RAD_CFG.EN, .ws, 0⟩, ⟨RAD_CFG.BAND, .ws, 0⟩, ⟨RAD_CFG.RXMODE, .ws, 0⟩, ⟨RAD_CFG.PWR, .ws, 0xa⟩, ⟨RAD_CFG.NETID, .ws, 0⟩]⟩,
  ⟨RAD_ADDR.addr, 1, 1, 1, 1, [⟨RAD_ADDR.ADDR, .ws, 0⟩]⟩,
  ⟨RAD_CHAN.addr, 1, 1, 1, 1, [⟨RAD_CHAN.GCH, .ws, 0⟩, ⟨RAD_CHAN.GLCH, .ws, 1⟩]⟩,
  ⟨RAD_CCA.addr, 1, 1, 1, 1, [⟨RAD_CCA.THR, .ws, 0x55⟩, ⟨RAD_CCA.BEMIN, .ws, 3⟩, ⟨RAD_CCA.BEMAX, .ws, 6⟩, ⟨RAD_CCA.CCAMAX, .ws, 5⟩, ⟨RAD_CCA.RETRY, .ws, 3⟩]⟩,
  ⟨RAD_DUTY.addr, 1, 1, 1, 1, [⟨RAD_DUTY.BUDGET, .ws, 0x168⟩, ⟨RAD_DUTY.USED, .ro, 0⟩]⟩,
  ⟨RAD_WMB.addr, 1, 1, 1, 1, [⟨RAD_WMB.MODE, .ws, 0⟩, ⟨RAD_WMB.FMT, .ws, 0⟩, ⟨RAD_WMB.LPRE, .ws, 0⟩, ⟨RAD_WMB.INT, .ws, 0x14⟩, ⟨RAD_WMB.JIT, .ws, 0xa⟩]⟩,
  ⟨RAD_STAT.addr, 1, 1, 1, 1, [⟨RAD_STAT.TXACT, .ro, 0⟩, ⟨RAD_STAT.RXACT, .ro, 0⟩, ⟨RAD_STAT.DEFER, .ro, 0⟩]⟩,
  ⟨RAD_CNT0.addr, 1, 1, 1, 1, [⟨RAD_CNT0.TXFRAMES, .rc, 0⟩, ⟨RAD_CNT0.RXFRAMES, .rc, 0⟩]⟩,
  ⟨RAD_CNT1.addr, 1, 1, 1, 1, [⟨RAD_CNT1.CRCFAIL, .rc, 0⟩, ⟨RAD_CNT1.RXDROP, .rc, 0⟩]⟩,
  ⟨RAD_CNT2.addr, 1, 1, 1, 1, [⟨RAD_CNT2.NOACK, .rc, 0⟩, ⟨RAD_CNT2.CCAFAIL, .rc, 0⟩, ⟨RAD_CNT2.DUTYDEFER, .rc, 0⟩]⟩,
  ⟨GLN_CFG.addr, 1, 1, 1, 1, [⟨GLN_CFG.EN, .ws, 0⟩, ⟨GLN_CFG.ALLEN, .ws, 1⟩, ⟨GLN_CFG.GROUP, .ws, 0⟩, ⟨GLN_CFG.GWAIT, .ws, 0xa⟩, ⟨GLN_CFG.RXWIN, .ws, 0x14⟩]⟩,
  ⟨GLN_STAT.addr, 1, 1, 1, 1, [⟨GLN_STAT.MATCHES, .rc, 0⟩, ⟨GLN_STAT.FALSE, .rc, 0⟩]⟩]

/-- Registers of block MSH. -/
def regsMSH : List RegDef := [
  ⟨MSH_CFG.addr, 1, 1, 1, 1, [⟨MSH_CFG.RELAY, .ws, 1⟩, ⟨MSH_CFG.TTL, .ws, 6⟩, ⟨MSH_CFG.RDELAY, .ws, 8⟩, ⟨MSH_CFG.SUPP, .ws, 3⟩, ⟨MSH_CFG.SEENLIFE, .ws, 0x3c⟩]⟩,
  ⟨MSH_MAC.addr, 1, 1, 1, 1, []⟩,
  ⟨MSH_STAT.addr, 1, 1, 1, 1, [⟨MSH_STAT.QOWN, .ro, 0⟩, ⟨MSH_STAT.QRELAY, .ro, 0⟩, ⟨MSH_STAT.SEEN, .ro, 0⟩]⟩,
  ⟨MSH_CNT0.addr, 1, 1, 1, 1, [⟨MSH_CNT0.RELAYDROP, .rc, 0⟩, ⟨MSH_CNT0.RELAYDELAY, .rc, 0⟩]⟩,
  ⟨MSH_CNT1.addr, 1, 1, 1, 1, [⟨MSH_CNT1.TTLDROP, .rc, 0⟩, ⟨MSH_CNT1.SUPPRESSED, .rc, 0⟩]⟩,
  ⟨MSH_CNT2.addr, 1, 1, 1, 1, [⟨MSH_CNT2.SEQDUP, .rc, 0⟩, ⟨MSH_CNT2.SEQOLD, .rc, 0⟩]⟩,
  ⟨MSH_CNT3.addr, 1, 1, 1, 1, [⟨MSH_CNT3.OWNREFUSED, .rc, 0⟩, ⟨MSH_CNT3.SEENEVICT, .rc, 0⟩, ⟨MSH_CNT3.NBREVICT, .rc, 0⟩, ⟨MSH_CNT3.RESEED, .rc, 0⟩]⟩,
  ⟨MSH_NBR_A.addr 0, 2, 0x140, 1, 1, [⟨MSH_NBR_A.ADDR 0, .ro, 0⟩]⟩,
  ⟨MSH_NBR_B.addr 0, 2, 0x140, 1, 1, [⟨MSH_NBR_B.H 0, .ro, 0⟩, ⟨MSH_NBR_B.RSSI 0, .ro, 0⟩, ⟨MSH_NBR_B.AGE 0, .ro, 0⟩]⟩]

/-- Registers of block SEC. -/
def regsSEC : List RegDef := [
  ⟨SEC_CFG.addr, 1, 1, 1, 1, [⟨SEC_CFG.REQUIRE, .ws, 7⟩]⟩,
  ⟨SEC_CMD.addr, 1, 1, 1, 1, [⟨SEC_CMD.CMD, .wo, 0⟩, ⟨SEC_CMD.SLOT, .wo, 0⟩, ⟨SEC_CMD.SIZE, .wo, 0⟩, ⟨SEC_CMD.USE, .wo, 0⟩, ⟨SEC_CMD.RESULT, .ro, 0⟩]⟩,
  ⟨SEC_KEYW.addr 0, 1, 8, 1, 1, [⟨SEC_KEYW.KEY 0, .wo, 0⟩]⟩,
  ⟨SEC_CNT0.addr, 1, 1, 1, 1, [⟨SEC_CNT0.AUTHFAIL, .rc, 0⟩, ⟨SEC_CNT0.REPLAY, .rc, 0⟩]⟩,
  ⟨SEC_CNT1.addr, 1, 1, 1, 1, [⟨SEC_CNT1.TXREFUSED, .rc, 0⟩, ⟨SEC_CNT1.RESVWAIT, .rc, 0⟩, ⟨SEC_CNT1.RXEVICT, .rc, 0⟩]⟩,
  ⟨SEC_RXTAB.addr, 1, 1, 1, 1, [⟨SEC_RXTAB.USED, .ro, 0⟩]⟩,
  ⟨SEC_KS_CFG.addr 0, 4, 0x20, 1, 1, [⟨SEC_KS_CFG.STATE 0, .ro, 0⟩, ⟨SEC_KS_CFG.SIZE 0, .ro, 0⟩, ⟨SEC_KS_CFG.USE 0, .ro, 0⟩, ⟨SEC_KS_CFG.VONLY 0, .ro, 0⟩, ⟨SEC_KS_CFG.GEN 0, .ro, 0⟩]⟩,
  ⟨SEC_KS_CTR.addr 0, 4, 0x20, 1, 1, [⟨SEC_KS_CTR.CTR 0, .ro, 0⟩]⟩,
  ⟨SEC_KS_LIM.addr 0, 4, 0x20, 1, 1, [⟨SEC_KS_LIM.LIM 0, .ro, 0⟩]⟩]

/-- Registers of block LOP. -/
def regsLOP : List RegDef := [
  ⟨LOP_CFG.addr, 1, 1, 1, 1, [⟨LOP_CFG.EN, .ws, 0⟩, ⟨LOP_CFG.ROLE, .ws, 0⟩, ⟨LOP_CFG.NETID, .ws, 0⟩]⟩,
  ⟨LOP_ADDR.addr, 1, 1, 1, 1, [⟨LOP_ADDR.ADDR, .ws, 0⟩]⟩,
  ⟨LOP_MAC.addr, 1, 1, 1, 1, [⟨LOP_MAC.RSLOT, .ws, 0x28⟩, ⟨LOP_MAC.RETRY, .ws, 3⟩, ⟨LOP_MAC.DISC, .ws, 0xa⟩]⟩,
  ⟨LOP_STAT.addr, 1, 1, 1, 1, [⟨LOP_STAT.REPEAT, .ro, 0⟩, ⟨LOP_STAT.RING, .ro, 0⟩, ⟨LOP_STAT.OVERFULL, .ro, 0⟩, ⟨LOP_STAT.STATION, .ro, 0⟩, ⟨LOP_STAT.NODES, .ro, 0⟩, ⟨LOP_STAT.QOWN, .ro, 0⟩]⟩,
  ⟨LOP_CNT0.addr, 1, 1, 1, 1, [⟨LOP_CNT0.FRAMES, .rc, 0⟩, ⟨LOP_CNT0.FRAMEFAIL, .rc, 0⟩]⟩,
  ⟨LOP_CNT1.addr, 1, 1, 1, 1, [⟨LOP_CNT1.VIOLATION, .rc, 0⟩, ⟨LOP_CNT1.ABORTRX, .rc, 0⟩, ⟨LOP_CNT1.HCSFAIL, .rc, 0⟩, ⟨LOP_CNT1.CRCFAIL, .rc, 0⟩]⟩,
  ⟨LOP_CNT2.addr, 1, 1, 1, 1, [⟨LOP_CNT2.NORETURN, .rc, 0⟩, ⟨LOP_CNT2.LATE, .rc, 0⟩, ⟨LOP_CNT2.NOACK, .rc, 0⟩, ⟨LOP_CNT2.RXDROP, .rc, 0⟩]⟩,
  ⟨LOP_CNT3.addr, 1, 1, 1, 1, [⟨LOP_CNT3.OWNREFUSED, .rc, 0⟩, ⟨LOP_CNT3.UPWAIT, .rc, 0⟩, ⟨LOP_CNT3.FOREIGN, .rc, 0⟩, ⟨LOP_CNT3.DOWNDUP, .rc, 0⟩]⟩,
  ⟨LOP_ST.addr 0, 1, 0x3f, 1, 1, [⟨LOP_ST.ADDR 0, .ro, 0⟩]⟩]

/-- Registers of block LOC. -/
def regsLOC : List RegDef := [
  ⟨LOC_OPT.addr, 1, 1, 1, 1, [⟨LOC_OPT.EN, .ws, 1⟩, ⟨LOC_OPT.MODE, .ws, 1⟩, ⟨LOC_OPT.ZMAX, .ws, 6⟩, ⟨LOC_OPT.VSEN, .ws, 1⟩]⟩,
  ⟨LOC_OSTAT.addr, 1, 1, 1, 1, [⟨LOC_OSTAT.ACTIVE, .ro, 0⟩, ⟨LOC_OSTAT.BAUD, .ro, 0⟩, ⟨LOC_OSTAT.ERRORS, .rc, 0⟩, ⟨LOC_OSTAT.READOUTS, .rc, 0⟩]⟩,
  ⟨LOC_LCD.addr, 1, 1, 1, 1, [⟨LOC_LCD.MODE, .ws, 0⟩, ⟨LOC_LCD.ONTIME, .ws, 0x1e⟩, ⟨LOC_LCD.SCROLL, .ws, 5⟩, ⟨LOC_LCD.TIMEOUT, .ws, 0x3c⟩, ⟨LOC_LCD.VLCD, .ws, 8⟩]⟩,
  ⟨LOC_DSTAT.addr, 1, 1, 1, 1, [⟨LOC_DSTAT.ON, .ro, 0⟩, ⟨LOC_DSTAT.LIST, .ro, 0⟩, ⟨LOC_DSTAT.ITEM, .ro, 0⟩]⟩,
  ⟨LOC_SYM.addr, 1, 1, 1, 1, [⟨LOC_SYM.S, .rw, 0⟩]⟩,
  ⟨LOC_BTN.addr, 1, 1, 1, 1, [⟨LOC_BTN.LEVEL, .ro, 0⟩]⟩,
  ⟨LOC_PO_CFG.addr 0, 1, 4, 1, 1, [⟨LOC_PO_CFG.MODE 0, .ws, 0⟩, ⟨LOC_PO_CFG.MP 0, .ws, 0⟩, ⟨LOC_PO_CFG.SRC 0, .ws, 0⟩, ⟨LOC_PO_CFG.IDX 0, .ws, 0⟩, ⟨LOC_PO_CFG.WIDTH 0, .ws, 0x32⟩]⟩,
  ⟨LOC_PO_W.addr 0, 1, 4, 1, 1, [⟨LOC_PO_W.W 0, .ws, 0x3e8⟩]⟩,
  ⟨LOC_PO_ST.addr 0, 1, 4, 1, 1, [⟨LOC_PO_ST.BACKLOG 0, .ro, 0⟩, ⟨LOC_PO_ST.LOST 0, .rc, 0⟩]⟩,
  ⟨LOC_PI_CFG.addr 0, 1, 4, 1, 1, [⟨LOC_PI_CFG.FILT 0, .ws, 0x32⟩, ⟨LOC_PI_CFG.EDGE 0, .ws, 0⟩]⟩,
  ⟨LOC_PI_CNT.addr 0, 1, 4, 1, 1, [⟨LOC_PI_CNT.CNT 0, .ro, 0⟩]⟩,
  ⟨LOC_IDENT.addr 0, 1, 4, 1, 1, [⟨LOC_IDENT.IDENT 0, .ws, 0⟩]⟩,
  ⟨LOC_ADDR.addr 0, 1, 2, 1, 1, [⟨LOC_ADDR.ADDR 0, .ws, 0⟩]⟩,
  ⟨LOC_ITEM_A.addr 0, 3, 0x20, 1, 1, [⟨LOC_ITEM_A.SRC 0, .sl, 0x1f⟩, ⟨LOC_ITEM_A.MP 0, .sl, 0⟩, ⟨LOC_ITEM_A.IDX 0, .sl, 0⟩, ⟨LOC_ITEM_A.AGE 0, .sl, 0⟩, ⟨LOC_ITEM_A.SCALE 0, .sl, 0⟩, ⟨LOC_ITEM_A.DEC 0, .sl, 0⟩, ⟨LOC_ITEM_A.DIGITS 0, .sl, 8⟩, ⟨LOC_ITEM_A.UNIT 0, .sl, 0⟩]⟩,
  ⟨LOC_ITEM_B.addr 0, 3, 0x20, 1, 1, [⟨LOC_ITEM_B.ID 0, .sl, 0⟩]⟩,
  ⟨LOC_ITEM_C.addr 0, 3, 0x20, 1, 1, [⟨LOC_ITEM_C.ID 0, .sl, 0⟩]⟩,
  ⟨LOC_ITEMW_A.addr 0, 3, 0x60, 1, 1, [⟨LOC_ITEMW_A.SRC 0, .ws, 0x1f⟩, ⟨LOC_ITEMW_A.MP 0, .ws, 0⟩, ⟨LOC_ITEMW_A.IDX 0, .ws, 0⟩, ⟨LOC_ITEMW_A.AGE 0, .ws, 0⟩, ⟨LOC_ITEMW_A.SCALE 0, .ws, 0⟩, ⟨LOC_ITEMW_A.DEC 0, .ws, 0⟩, ⟨LOC_ITEMW_A.DIGITS 0, .ws, 8⟩, ⟨LOC_ITEMW_A.UNIT 0, .ws, 0⟩]⟩,
  ⟨LOC_ITEMW_B.addr 0, 3, 0x60, 1, 1, [⟨LOC_ITEMW_B.ID 0, .ws, 0⟩]⟩,
  ⟨LOC_ITEMW_C.addr 0, 3, 0x60, 1, 1, [⟨LOC_ITEMW_C.ID 0, .ws, 0⟩]⟩,
  ⟨LOC_LIST0.addr 0, 1, 0x10, 1, 1, [⟨LOC_LIST0.ENTRIES 0, .sl, 0xffffffff⟩]⟩,
  ⟨LOC_LIST.addr 0 0, 0x10, 3, 1, 0x10, [⟨LOC_LIST.ENTRIES 0 0, .ws, 0xffffffff⟩]⟩,
  ⟨LOC_SEG.addr 0, 1, 0x60, 1, 1, [⟨LOC_SEG.MAP0 0, .sl, 0x3f8⟩, ⟨LOC_SEG.MAP1 0, .sl, 0x3f8⟩]⟩]

/-- Registers of block LOG. -/
def regsLOG : List RegDef := [
  ⟨LOG_LSTAT.addr, 1, 1, 1, 1, [⟨LOG_LSTAT.WRITTEN, .ro, 0⟩, ⟨LOG_LSTAT.QUEUED, .ro, 0⟩]⟩,
  ⟨LOG_LSKIP.addr, 1, 1, 1, 1, [⟨LOG_LSKIP.N, .ro, 0⟩]⟩,
  ⟨LOG_OSTAT.addr, 1, 1, 1, 1, [⟨LOG_OSTAT.NEWEST, .ro, 0⟩]⟩,
  ⟨LOG_FIFO.addr, 1, 1, 1, 1, [⟨LOG_FIFO.USED, .ro, 0⟩, ⟨LOG_FIFO.PEAK, .rc, 0⟩, ⟨LOG_FIFO.DROPS, .rc, 0⟩]⟩,
  ⟨LOG_OBANK.addr, 1, 1, 1, 1, [⟨LOG_OBANK.BANK, .rw, 0⟩]⟩]

/-- Registers of block UMB. -/
def regsUMB : List RegDef := [
  ⟨UMB_STAT.addr, 1, 1, 1, 1, [⟨UMB_STAT.COMPLETE, .ro, 0⟩, ⟨UMB_STAT.OVER, .ro, 0⟩, ⟨UMB_STAT.ABANDON, .ro, 0⟩, ⟨UMB_STAT.SPANEND, .ro, 0⟩, ⟨UMB_STAT.ENDCAUSE, .ro, 0⟩, ⟨UMB_STAT.STOP, .ro, 0⟩, ⟨UMB_STAT.IGNORED, .rc, 0⟩, ⟨UMB_STAT.OVERCNT, .rc, 0⟩]⟩,
  ⟨UMB_FRZNUM.addr, 1, 1, 1, 1, [⟨UMB_FRZNUM.N, .ro, 0⟩]⟩,
  ⟨UMB_ENTRY.addr, 1, 1, 1, 1, [⟨UMB_ENTRY.T_LO, .ro, 0⟩]⟩,
  ⟨UMB_ENTRY_H.addr, 1, 1, 1, 1, [⟨UMB_ENTRY_H.T_HI, .ro, 0⟩]⟩,
  ⟨UMB_SPAN.addr, 1, 1, 1, 1, [⟨UMB_SPAN.CYC, .ro, 0⟩]⟩,
  ⟨UMB_TOTAL.addr, 1, 1, 1, 1, [⟨UMB_TOTAL.T_LO, .ro, 0⟩]⟩,
  ⟨UMB_TOTAL_H.addr, 1, 1, 1, 1, [⟨UMB_TOTAL_H.T_HI, .ro, 0⟩]⟩,
  ⟨UMB_READ.addr, 1, 1, 1, 1, [⟨UMB_READ.WORDS, .ro, 0⟩]⟩,
  ⟨UMB_CRC.addr, 1, 1, 1, 1, [⟨UMB_CRC.CRC, .ro, 0⟩]⟩]

/-- Registers of block STG. -/
def regsSTG : List RegDef := [
  ⟨STG_CMD.addr, 1, 1, 1, 1, [⟨STG_CMD.CMD, .wo, 0⟩, ⟨STG_CMD.SET, .wo, 0⟩]⟩,
  ⟨STG_STAT.addr, 1, 1, 1, 1, [⟨STG_STAT.BUSY, .ro, 0⟩, ⟨STG_STAT.SET, .ro, 0⟩, ⟨STG_STAT.RESULT, .ro, 0⟩, ⟨STG_STAT.NCONF, .ro, 0⟩]⟩,
  ⟨STG_AT.addr, 1, 1, 1, 1, [⟨STG_AT.AT, .rw, 0⟩]⟩,
  ⟨STG_AT_H.addr, 1, 1, 1, 1, [⟨STG_AT_H.AT, .rw, 0⟩]⟩,
  ⟨STG_SET.addr 0, 1, 2, 1, 1, [⟨STG_SET.STATE 0, .ro, 0⟩, ⟨STG_SET.OVF 0, .ro, 0⟩, ⟨STG_SET.SL 0, .ro, 0⟩, ⟨STG_SET.STALE 0, .ro, 0⟩, ⟨STG_SET.LATE 0, .ro, 0⟩, ⟨STG_SET.OUTCOME 0, .ro, 0⟩, ⟨STG_SET.ENTRIES 0, .ro, 0⟩]⟩,
  ⟨STG_VER.addr, 1, 1, 1, 1, [⟨STG_VER.CFGVER, .ro, 0⟩, ⟨STG_VER.APPLIES, .rc, 0⟩]⟩,
  ⟨STG_LASTB.addr, 1, 1, 1, 1, [⟨STG_LASTB.B_LO, .ro, 0⟩]⟩,
  ⟨STG_LASTB_H.addr, 1, 1, 1, 1, [⟨STG_LASTB_H.B_HI, .ro, 0⟩]⟩,
  ⟨STG_IGN.addr, 1, 1, 1, 1, [⟨STG_IGN.WRITES, .rc, 0⟩, ⟨STG_IGN.CMDS, .rc, 0⟩]⟩,
  ⟨STG_CONF.addr 0, 1, 0x40, 1, 1, [⟨STG_CONF.ADDR 0, .ro, 0⟩, ⟨STG_CONF.CODE 0, .ro, 0⟩]⟩]

/-- Registers of block SEA. -/
def regsSEA : List RegDef := [
  ⟨SEA_STAT.addr, 1, 1, 1, 1, [⟨SEA_STAT.VSW, .ro, 0⟩, ⟨SEA_STAT.SESSION, .ro, 0⟩, ⟨SEA_STAT.CTREND, .ro, 0⟩, ⟨SEA_STAT.LOGFULL, .ro, 0⟩, ⟨SEA_STAT.LOCKED, .ro, 0⟩, ⟨SEA_STAT.VIRGIN, .ro, 1⟩, ⟨SEA_STAT.CTRLOST, .ro, 0⟩, ⟨SEA_STAT.ALARM, .ro, 0⟩, ⟨SEA_STAT.ACAUSE, .ro, 0⟩]⟩,
  ⟨SEA_CTR.addr, 1, 1, 1, 1, [⟨SEA_CTR.CTR, .ro, 0⟩, ⟨SEA_CTR.LOGUSED, .ro, 0⟩]⟩,
  ⟨SEA_LOCK.addr, 1, 1, 1, 1, [⟨SEA_LOCK.FAILS, .ro, 0⟩, ⟨SEA_LOCK.LEVEL, .ro, 0⟩, ⟨SEA_LOCK.REMAIN, .ro, 0⟩]⟩,
  ⟨SEA_VERIFIER.addr 0, 1, 4, 1, 1, [⟨SEA_VERIFIER.V 0, .sl, 0⟩]⟩,
  ⟨SEA_LGCID0.addr, 1, 1, 1, 1, [⟨SEA_LGCID0.ROMVER, .ro, 0⟩]⟩,
  ⟨SEA_LGCID1.addr, 1, 1, 1, 1, [⟨SEA_LGCID1.CRC, .ro, 0⟩]⟩,
  ⟨SEA_PATCH_VER.addr 0, 4, 2, 1, 1, [⟨SEA_PATCH_VER.VER 0, .ro, 0⟩]⟩,
  ⟨SEA_PATCH_CRC.addr 0, 4, 2, 1, 1, [⟨SEA_PATCH_CRC.CRC 0, .ro, 0⟩]⟩,
  ⟨SEA_PATCH_AT.addr 0, 4, 2, 1, 1, [⟨SEA_PATCH_AT.AT_LO 0, .ro, 0⟩]⟩,
  ⟨SEA_PATCH_AT_H.addr 0, 4, 2, 1, 1, [⟨SEA_PATCH_AT_H.AT_HI 0, .ro, 0⟩]⟩,
  ⟨SEA_PATCH_FLOOR.addr 0, 1, 2, 1, 1, [⟨SEA_PATCH_FLOOR.FLOOR 0, .ro, 0⟩]⟩,
  ⟨SEA_LCRC.addr, 1, 1, 1, 1, [⟨SEA_LCRC.CRC, .ro, 0⟩]⟩]

/-- Registers of block CON. -/
def regsCON : List RegDef := [
  ⟨CON_CFG.addr, 1, 1, 1, 1, [⟨CON_CFG.EN, .ws, 0⟩, ⟨CON_CFG.OPEN, .ws, 1⟩, ⟨CON_CFG.WAKE, .ws, 0⟩, ⟨CON_CFG.HOLDMAX, .ws, 0x1e⟩, ⟨CON_CFG.SILENTH, .ws, 0x30⟩, ⟨CON_CFG.RETRYMIN, .ws, 0xf⟩]⟩,
  ⟨CON_FWD.addr, 1, 1, 1, 1, [⟨CON_FWD.ORDER0, .ws, 4⟩, ⟨CON_FWD.ORDER1, .ws, 1⟩, ⟨CON_FWD.ORDER2, .ws, 0⟩, ⟨CON_FWD.ORDER3, .ws, 0⟩]⟩,
  ⟨CON_CMD.addr, 1, 1, 1, 1, [⟨CON_CMD.REMOVE, .wo, 0⟩, ⟨CON_CMD.INDEX, .wo, 0⟩]⟩,
  ⟨CON_STAT.addr, 1, 1, 1, 1, [⟨CON_STAT.PODS, .ro, 0⟩, ⟨CON_STAT.UNFWD, .ro, 0⟩]⟩,
  ⟨CON_HEAD.addr 0, 1, 3, 1, 1, [⟨CON_HEAD.ADDR 0, .ws, 0⟩]⟩,
  ⟨CON_CNT0.addr, 1, 1, 1, 1, [⟨CON_CNT0.DUP, .rc, 0⟩, ⟨CON_CNT0.OVERWRITTEN, .rc, 0⟩]⟩,
  ⟨CON_CNT1.addr, 1, 1, 1, 1, [⟨CON_CNT1.CAPREF, .rc, 0⟩, ⟨CON_CNT1.FWDFAIL, .rc, 0⟩, ⟨CON_CNT1.DELAYED, .rc, 0⟩, ⟨CON_CNT1.TRANSITDROP, .rc, 0⟩]⟩,
  ⟨CON_CNT2.addr, 1, 1, 1, 1, [⟨CON_CNT2.WMBDROP, .rc, 0⟩, ⟨CON_CNT2.BADTYPE, .rc, 0⟩]⟩,
  ⟨CON_POD_ADDR.addr 0, 8, 0xfa, 1, 1, [⟨CON_POD_ADDR.ADDR 0, .ro, 0⟩]⟩,
  ⟨CON_POD_ST.addr 0, 8, 0xfa, 1, 1, [⟨CON_POD_ST.SLOT 0, .ro, 0⟩, ⟨CON_POD_ST.STATE 0, .ro, 0⟩, ⟨CON_POD_ST.QTY 0, .ro, 0⟩, ⟨CON_POD_ST.COUNT 0, .ro, 0⟩]⟩,
  ⟨CON_POD_H.addr 0, 8, 0xfa, 1, 1, [⟨CON_POD_H.H 0, .ro, 0⟩]⟩,
  ⟨CON_POD_SEQ.addr 0, 8, 0xfa, 1, 1, [⟨CON_POD_SEQ.NEWEST 0, .ro, 0⟩, ⟨CON_POD_SEQ.FWD 0, .ro, 0⟩]⟩,
  ⟨CON_POD_LAST.addr 0, 8, 0xfa, 1, 1, [⟨CON_POD_LAST.T_LO 0, .ro, 0⟩]⟩,
  ⟨CON_POD_LAST_H.addr 0, 8, 0xfa, 1, 1, [⟨CON_POD_LAST_H.T_HI 0, .ro, 0⟩]⟩,
  ⟨CON_PCFG.addr, 1, 1, 1, 1, [⟨CON_PCFG.EN, .ws, 0⟩, ⟨CON_PCFG.RPT, .ws, 0xf⟩, ⟨CON_PCFG.QTY, .ws, 0⟩, ⟨CON_PCFG.NRECS, .ws, 4⟩]⟩,
  ⟨CON_PHUB.addr, 1, 1, 1, 1, [⟨CON_PHUB.ADDR, .ws, 0⟩]⟩,
  ⟨CON_PSTAT.addr, 1, 1, 1, 1, [⟨CON_PSTAT.JOINED, .ro, 0⟩, ⟨CON_PSTAT.UNACK, .ro, 0⟩, ⟨CON_PSTAT.RSEQ, .ro, 0⟩]⟩,
  ⟨CON_PWMB0.addr, 1, 1, 1, 1, [⟨CON_PWMB0.MFR, .ws, 0⟩, ⟨CON_PWMB0.DEVVER, .ws, 0⟩]⟩,
  ⟨CON_PWMB1.addr, 1, 1, 1, 1, [⟨CON_PWMB1.ID, .ws, 0⟩]⟩]

/-- Registers of block HOST. -/
def regsHOST : List RegDef := [
  ⟨H_ID.addr, 1, 1, 1, 1, [⟨H_ID.ID, .ro, 0x4632⟩]⟩,
  ⟨H_STEPPING.addr, 1, 1, 1, 1, [⟨H_STEPPING.STEP, .ro, 0x4201⟩]⟩,
  ⟨H_STAT.addr, 1, 1, 1, 1, [⟨H_STAT.PHASE, .ro, 3⟩, ⟨H_STAT.READY, .ro, 0⟩, ⟨H_STAT.DELAYED, .w1c, 0⟩, ⟨H_STAT.BERR, .ro, 0⟩, ⟨H_STAT.IRQ, .ro, 0⟩, ⟨H_STAT.MBRX, .ro, 0⟩, ⟨H_STAT.MBTXF, .ro, 0⟩, ⟨H_STAT.ARMED, .ro, 0⟩, ⟨H_STAT.HOSTLOST, .ro, 0⟩]⟩,
  ⟨H_CTRL.addr, 1, 1, 1, 1, [⟨H_CTRL.SRST, .wo, 0⟩, ⟨H_CTRL.WINRST, .wo, 0⟩, ⟨H_CTRL.MBOXRST, .wo, 0⟩]⟩,
  ⟨H_KEY.addr, 1, 1, 1, 1, [⟨H_KEY.KEY, .wo, 0⟩]⟩,
  ⟨H_MODE.addr, 1, 1, 1, 1, [⟨H_MODE.STRAPS, .ro, 0⟩]⟩,
  ⟨H_IRQ_PEND.addr, 1, 1, 1, 1, [⟨H_IRQ_PEND.PIN, .ro, 0⟩]⟩,
  ⟨H_IRQ_MASK.addr, 1, 1, 1, 1, [⟨H_IRQ_MASK.MASK, .rw, 0xf⟩]⟩,
  ⟨H_EVT_BANK.addr, 1, 1, 1, 1, [⟨H_EVT_BANK.BANK, .rw, 0⟩, ⟨H_EVT_BANK.NEXT, .ro, 0x3f⟩]⟩,
  ⟨H_EVT_LO.addr, 1, 1, 1, 1, [⟨H_EVT_LO.PEND, .ro, 0⟩]⟩,
  ⟨H_EVT_HI.addr, 1, 1, 1, 1, [⟨H_EVT_HI.PEND, .ro, 0⟩]⟩,
  ⟨H_EVT_ACK.addr, 1, 1, 1, 1, [⟨H_EVT_ACK.BIT, .wo, 0⟩, ⟨H_EVT_ACK.ALL, .wo, 0⟩]⟩,
  ⟨W_SEL.addr 0, 5, 3, 1, 1, [⟨W_SEL.SPACE 0, .rw, 0⟩, ⟨W_SEL.INC 0, .rw, 0⟩, ⟨W_SEL.PRE 0, .rw, 0⟩, ⟨W_SEL.ADDRHI 0, .rw, 0⟩]⟩,
  ⟨W_ADDR.addr 0, 5, 3, 1, 1, [⟨W_ADDR.ADDR 0, .rw, 0⟩]⟩,
  ⟨W_DLO.addr 0, 5, 3, 1, 1, [⟨W_DLO.DATA 0, .rw, 0⟩]⟩,
  ⟨W_DHI.addr 0, 5, 3, 1, 1, [⟨W_DHI.DATA 0, .rw, 0⟩]⟩,
  ⟨W_STAT.addr 0, 5, 3, 1, 1, [⟨W_STAT.BUSY 0, .ro, 0⟩, ⟨W_STAT.RDY 0, .ro, 0⟩, ⟨W_STAT.DELAYED 0, .w1c, 0⟩, ⟨W_STAT.LOHELD 0, .ro, 0⟩, ⟨W_STAT.CODE 0, .ro, 0⟩]⟩,
  ⟨H_STG_CMD.addr, 1, 1, 1, 1, [⟨H_STG_CMD.CMD, .wo, 0⟩, ⟨H_STG_CMD.SET, .wo, 0⟩]⟩,
  ⟨H_STG_STAT.addr, 1, 1, 1, 1, [⟨H_STG_STAT.BUSY, .ro, 0⟩, ⟨H_STG_STAT.SET, .ro, 0⟩, ⟨H_STG_STAT.RESULT, .ro, 0⟩, ⟨H_STG_STAT.NCONF, .ro, 0⟩]⟩,
  ⟨H_STG_ERR.addr, 1, 1, 1, 1, [⟨H_STG_ERR.CODE, .rc, 0⟩]⟩,
  ⟨H_STG_AT_LO.addr, 1, 1, 1, 1, [⟨H_STG_AT_LO.AT, .rw, 0⟩]⟩,
  ⟨H_STG_AT_HI.addr, 1, 1, 1, 1, [⟨H_STG_AT_HI.AT, .rw, 0⟩]⟩,
  ⟨H_TIME_LO.addr, 1, 1, 1, 1, [⟨H_TIME_LO.T, .rw, 0⟩]⟩,
  ⟨H_TIME_MID.addr, 1, 1, 1, 1, [⟨H_TIME_MID.T, .rw, 0⟩]⟩,
  ⟨H_TIME_HI.addr, 1, 1, 1, 1, [⟨H_TIME_HI.T, .rw, 0⟩]⟩,
  ⟨H_TIME_CTL.addr, 1, 1, 1, 1, [⟨H_TIME_CTL.CMD, .wo, 0⟩, ⟨H_TIME_CTL.DONE, .ro, 0⟩]⟩,
  ⟨H_MBOX_TX.addr, 1, 1, 1, 1, [⟨H_MBOX_TX.WORD, .wo, 0⟩]⟩,
  ⟨H_MBOX_RX.addr, 1, 1, 1, 1, [⟨H_MBOX_RX.WORD, .rc, 0⟩]⟩,
  ⟨H_MBOX_STAT.addr, 1, 1, 1, 1, [⟨H_MBOX_STAT.RXCNT, .ro, 0⟩, ⟨H_MBOX_STAT.TXFREE, .ro, 0x40⟩, ⟨H_MBOX_STAT.RXMSG, .ro, 0⟩, ⟨H_MBOX_STAT.LOST, .w1c, 0⟩]⟩,
  ⟨H_SER_STAT.addr, 1, 1, 1, 1, [⟨H_SER_STAT.CRCERR, .rc, 0⟩, ⟨H_SER_STAT.SHORT, .rc, 0⟩, ⟨H_SER_STAT.EXTRA, .rc, 0⟩, ⟨H_SER_STAT.LASTOK, .ro, 0⟩]⟩,
  ⟨H_FRZ_STAT.addr, 1, 1, 1, 1, [⟨H_FRZ_STAT.DONE, .w1c, 0⟩, ⟨H_FRZ_STAT.COMPLETE, .ro, 0⟩, ⟨H_FRZ_STAT.OVER, .ro, 0⟩, ⟨H_FRZ_STAT.ABANDON, .ro, 0⟩, ⟨H_FRZ_STAT.FREEZES, .rc, 0⟩]⟩,
  ⟨H_PWR_STAT.addr, 1, 1, 1, 1, [⟨H_PWR_STAT.STAT, .ro, 0⟩, ⟨H_PWR_STAT.VDRVOK, .ro, 0⟩, ⟨H_PWR_STAT.VLOST, .ro, 0⟩, ⟨H_PWR_STAT.CUT, .ro, 0⟩, ⟨H_PWR_STAT.VBAT, .ro, 0⟩]⟩,
  ⟨H_PWR_REQ.addr, 1, 1, 1, 1, [⟨H_PWR_REQ.REQ, .wo, 0⟩, ⟨H_PWR_REQ.RESULT, .ro, 0⟩]⟩,
  ⟨H_WDG.addr, 1, 1, 1, 1, [⟨H_WDG.PERIOD, .rw, 0⟩, ⟨H_WDG.KICK, .wo, 0⟩]⟩,
  ⟨H_SCRATCH.addr, 1, 1, 1, 1, [⟨H_SCRATCH.DATA, .rw, 0⟩]⟩,
  ⟨H_BUSERR.addr, 1, 1, 1, 1, [⟨H_BUSERR.CODE, .rc, 0⟩, ⟨H_BUSERR.OFFSET, .rc, 0⟩, ⟨H_BUSERR.SER, .rc, 0⟩, ⟨H_BUSERR.COUNT, .rc, 0⟩]⟩,
  ⟨H_LOOP_STAT.addr, 1, 1, 1, 1, [⟨H_LOOP_STAT.CLOSED, .ro, 1⟩, ⟨H_LOOP_STAT.REPEAT, .ro, 0⟩, ⟨H_LOOP_STAT.MASTER, .ro, 0⟩, ⟨H_LOOP_STAT.RING, .ro, 0⟩, ⟨H_LOOP_STAT.NODES, .ro, 0⟩]⟩,
  ⟨H_SEAL_STAT.addr, 1, 1, 1, 1, [⟨H_SEAL_STAT.VSW, .ro, 0⟩, ⟨H_SEAL_STAT.SESSION, .ro, 0⟩, ⟨H_SEAL_STAT.CTREND, .ro, 0⟩, ⟨H_SEAL_STAT.LOGFULL, .ro, 0⟩, ⟨H_SEAL_STAT.LOCKED, .ro, 0⟩, ⟨H_SEAL_STAT.CTR, .ro, 0⟩]⟩]
/-- The families of the block that holds word `a` (Table IDX-1); host registers stand from `hostBase`. -/
def blockRegs (a : Nat) : List RegDef :=
  match a / 0x10000 with
  | 0x00 => regsSYS
  | 0x01 => regsPWR
  | 0x02 => regsCLK
  | 0x03 => regsEVT
  | 0x04 => regsTWL
  | 0x08 | 0x09 | 0x0A | 0x0B => regsECH
  | 0x0C => regsTMP
  | 0x0D => regsBRG
  | 0x0E => regsFLO
  | 0x0F => regsNGE
  | 0x10 => regsBIL
  | 0x11 => regsSTO
  | 0x12 => regsPLS
  | 0x13 => regsRAD
  | 0x14 => regsMSH
  | 0x15 => regsSEC
  | 0x16 => regsLOP
  | 0x17 => regsLOC
  | 0x18 => regsLOG
  | 0x19 => regsUMB
  | 0x1A => regsSTG
  | 0x1B => regsSEA
  | 0x1C => regsCON
  | 0x100 => regsHOST
  | _ => []

/-! ### Event sources and their routes (chapter 20) -/

/-- The event sources of each bank that are not reserved, as a mask of its 32 bits: the event tables that close
chapters 01 to 22, by the owners of Table EVT-1 (R552). -/
def bankSources (b : Nat) : Nat :=
  match b with
  | 0 => 0xFFF | 1 => 0xFFF | 2 => 0x1FFF | 3 => 0x1FF
  | 4 | 6 | 8 | 10 => 0xFF
  | 5 | 7 | 9 | 11 => 0x3FF
  | 12 | 13 | 14 => 0xFFFFFFFF
  | 15 => 0x1F01FF
  | 16 => 0x7F7F7F7F | 17 => 0x1F1F1F1F
  | 18 => 0x77777 | 19 => 0x3FF | 20 => 0x3FF | 21 => 0xFFFFFFFF
  | 22 => 0x3FF | 23 => 0x7FF | 24 => 0xFF | 25 => 0x3 | 26 => 0x7F | 27 => 0x1F | 28 => 0x1FF
  | 29 => 0x7FFF | 30 => 0x3FFF | 31 => 0x1F | 32 => 0x1FF07FF | 33 => 0x1FF | 34 => 0x7FF
  | 35 => 0x7FF03FF
  | _ => 0

/-- Is source number `s = 32b + i` a source that its chapter names (R552)? -/
def isSource (s : Nat) : Bool := (bankSources (s / 32)).testBit (s % 32)

/-- The sources whose log is "legal, fixed" in Table EVT-4 (R562). -/
def fixedLegal (s : Nat) : Bool :=
  [1029, 1059, 1098, 1041, 11, 6, 1025, 1027, 1033, 1034, 1032].contains s

/-- The core route bits LGC, APC, NWC (bits 0, 1, 2) of a source (R647, Table EVT-9). -/
def coreBits (s : Nat) : Nat :=
  if !isSource s then 0 else
  let b := s / 32
  if b ≤ 3 then 7 else if b ≤ 13 then 1 else if b ≤ 19 then 3 else if b ≤ 21 then 7
  else if b ≤ 29 then 5 else if b = 30 then 3 else if b = 31 then 1 else if b ≤ 34 then 3
  else if s % 32 < 16 then 7 else 3

/-- The Reset value of the 16-bit route entry of source `s` (Table EVT-6). -/
def routeReset (s : Nat) : Nat :=
  let b := s / 32
  let shot := decide (4 ≤ b ∧ b ≤ 13)
  let legal := fixedLegal s || [102, 688, 689, 690, 691, 1028, 1030].contains s
  let prio := if b = 0 ∨ b = 1 ∨ b = 32 then 3 else if shot then 0 else 1
  coreBits s * 8 + (if shot then 0 else 0x40) + (if legal then 0x80 else 0) + prio * 0x200

/-- The word that holds the route entry of source `s`, and the low bit of its half (R554, Table EVT-5). -/
def routeAddr (s : Nat) : Nat := 0x030000 + s / 2
def routeLo (s : Nat) : Nat := 16 * (s % 2)

/-- The fields of one half of a route word: LGC, APC and NWC are RO, and LEGAL takes no writes for the fixed legal
sources (R554, Table EVT-6). -/
def routeFields (s : Nat) : List FieldDef :=
  let a := routeAddr s
  let l := routeLo s
  [⟨⟨a, l + 2, l⟩, .ws, routeReset s % 8⟩, ⟨⟨a, l + 5, l + 3⟩, .ro, routeReset s / 8 % 8⟩,
   ⟨⟨a, l + 6, l + 6⟩, .ws, routeReset s / 64 % 2⟩,
   ⟨⟨a, l + 7, l + 7⟩, if fixedLegal s then .ro else .sl, routeReset s / 128 % 2⟩,
   ⟨⟨a, l + 10, l + 8⟩, .ws, routeReset s / 256 % 8⟩]

/-! ### Reset values that differ between the members of a family -/

/-- SOFT, HARD, right and class of initiators 0 to 12 (Table FAB-1) as the word TWL_INITn. -/
def initReset (n : Nat) : Nat :=
  let pack (cls sealw soft hard : Nat) := cls + 4 * sealw + 256 * soft + 65536 * hard
  if n = 0 then pack 3 1 10 20
  else if n ≤ 2 then pack 3 0 10 20
  else if n ≤ 8 then pack 0 1 20 50
  else if n = 9 then pack 1 1 50 200
  else pack 2 0 20 100

/-- First page and page count of each region (Table STO-1). -/
def regionPages (n : Nat) : Nat × Nat :=
  match n with
  | 0 => (0, 16) | 1 => (16, 32) | 2 => (48, 64) | 3 => (112, 8) | 4 => (120, 28) | 5 => (148, 4)
  | 6 => (152, 8) | 7 => (160, 16) | 8 => (176, 24) | 9 => (200, 80) | 10 => (280, 64) | 11 => (344, 64)
  | 12 => (408, 48) | 13 => (456, 32) | 14 => (488, 16) | 15 => (504, 8) | _ => (512, 0)

/-- The Reset words of the STO region registers (Tables STO-1 and STO-7): POLICY and PERIOD, then FIRST, SIZE, SEALED. -/
def stoCfgReset (n : Nat) : Nat :=
  (if n ≤ 6 then 0 else 1) + 65536 * (if n = 0 ∨ n = 3 ∨ n = 9 then 60 else if n = 7 then 1440 else 0)
def stoStatReset (n : Nat) : Nat :=
  (regionPages n).1 + 512 * (regionPages n).2 + (if n ≤ 3 then 0x1000000 else 0)

/-- The word that a register family's field table gives at reset. -/
def fieldsReset (fs : List FieldDef) : Nat := fs.foldl (fun w f => w + f.reset * 2 ^ f.fd.lo) 0

/-- The fields of word `a`: its line of the register map, or none where `a` holds no register (R9, R645). -/
def fieldsAt (a : Nat) : List FieldDef :=
  if 0x030000 ≤ a ∧ a < 0x030240 then
    routeFields (2 * (a - 0x030000)) ++ routeFields (2 * (a - 0x030000) + 1)
  else match (blockRegs a).find? (fun r => r.has a) with
    | some r => r.fields
    | none => []

/-- The Reset value of word `a` in the Hub profile (R10). The words whose Reset differs in the Pod profile are
`podResets`. Registers whose Reset the tables give as "from vault", "recalled" or "set at start" start at 0 and are
loaded where the spec says they are. -/
def resetWord (a : Nat) : Word :=
  BitVec.ofNat 32 <|
    if 0x030000 ≤ a ∧ a < 0x030240 then routeReset (2 * (a - 0x030000)) + 65536 * routeReset (2 * (a - 0x030000) + 1)
    else if 0x040010 ≤ a ∧ a < 0x04001D then initReset (a - 0x040010)
    else if 0x110010 ≤ a ∧ a < 0x110020 then stoCfgReset (a - 0x110010)
    else if 0x110020 ≤ a ∧ a < 0x110030 then stoStatReset (a - 0x110020)
    else if a = 0x170020 then 0x00524C50
    else fieldsReset (fieldsAt a)

/-- The words whose Reset value differs in the Pod profile (Table SCO-1 and the tables' "Hub …, Pod …" cells):
PWR_STAT.AOSRC, PWR_CFG.FLOOR, PWR_BANK.RET, PWR_DRV.SRC, FIR_EPOCH.EPLOG, ARV_PATHp_M.MODE of P00 to P03,
GLN_CFG.EN, MSH_CFG.RELAY, LOC_LCD.MODE and CON_PCFG.EN. -/
def podResets : List (Nat × Word) :=
  [(0x010000, 0x1#32), (0x010002, 0x6E01#32), (0x010003, 0x100#32), (0x010004, 0x102#32),
   (0x088000, 11#32), (0x088400, 0xCD822602#32), (0x088404, 0xCD822602#32), (0x088408, 0xCD822602#32),
   (0x08840C, 0xCD822602#32), (0x130010, 0x140A0003#32), (0x140000, 0x3C038600#32), (0x170002, 0x83C51E01#32),
   (0x1C0C00, 0x4000F1#32)]

/-! ### Which words each profile powers (R4, Table SCO-1) -/

/-- Word `a` belongs to a block or a channel that the Pod profile leaves unpowered (R4; the notes that open the register
sections of chapters 08 to 11, 15, 18 and 19). -/
def podUnpowered (a : Nat) : Bool :=
  let inRange (lo hi : Nat) : Bool := decide (lo ≤ a) && decide (a ≤ hi)
  inRange 0x090000 0x0BFFFF || inRange 0x088110 0x08817F || inRange 0x088204 0x08821F
  || inRange 0x088410 0x08847F || inRange 0x088610 0x08867F || inRange 0x088708 0x08873F
  || inRange 0x0C0010 0x0C003F || inRange 0x0D0008 0x0D001F
  || inRange 0x0E0040 0x0E00FF || inRange 0x0E0220 0x0E02FF || inRange 0x0E0902 0x0E0907
  || inRange 0x0F0040 0x0F00FF || inRange 0x101100 0x1013FF || inRange 0x104800 0x105FFF
  || inRange 0x120000 0x12FFFF || inRange 0x160000 0x16FFFF || inRange 0x1C0000 0x1C0BFF

/-! ### Masks of a word by access code -/

/-- The mask of bits `hi` down to `lo`. -/
def bitMask (hi lo : Nat) : Word := BitVec.ofNat 32 (2 ^ (hi + 1) - 2 ^ lo)

/-- The bits of word `a` whose access code satisfies `p`. -/
def maskWhere (p : Access → Bool) (a : Nat) : Word :=
  (fieldsAt a).foldl (fun m f => if p f.acc then m ||| bitMask f.fd.hi f.fd.lo else m) 0

def wsMask (a : Nat) : Word := maskWhere (· == .ws) a
def slMask (a : Nat) : Word := maskWhere (· == .sl) a
def stagedMask (a : Nat) : Word := maskWhere (fun c => c == .ws || c == .sl) a
def rwMask (a : Nat) : Word := maskWhere (· == .rw) a
def w1cMask (a : Nat) : Word := maskWhere (· == .w1c) a
def woMask (a : Nat) : Word := maskWhere (· == .wo) a
def rcMask (a : Nat) : Word := maskWhere (· == .rc) a
/-- The bits a read returns: every field but the WO ones, which return 0 (Table SCO-3); reserved bits read 0 (R9). -/
def readMask (a : Nat) : Word := maskWhere (· != .wo) a

/-- How the commit of a read clears an RC field (R175): a count is reduced by what the read returned, a flag is cleared
where it was returned as 1, and a held value is set to 0 only if the chip has not written it since. -/
inductive RcKind where
  | count | flags | held
  deriving DecidableEq, Repr

/-- The kind of an RC field (R175 names H_BUSERR.CODE, OFFSET and SER, CLK_QCNTq.PEAK and LOG_FIFO.PEAK as held values). -/
def rcKind (f : Fd) : RcKind :=
  if f.addr = hostBase + 45 ∧ f.hi ≤ 10 then .held
  else if 0x020020 ≤ f.addr ∧ f.addr ≤ 0x020029 ∧ f.lo = 16 then .held
  else if f.addr = 0x180003 ∧ f.lo = 8 then .held
  else if f.addr = 0x010006 then .flags
  else .count

end Sys2Proof.Machine
end

