-- ==== Sys2Proof/Machine/State.lean ====
section
/-! DEFINITION. The state of the part, as plain data: the register store, the memories, the time base, and beside them the
state of each block that no register shows. Sparse data (registers, memories, tables) are lists of (key, value) pairs
in one canonical form: keys strictly rising, no entry equal to what an unlisted key reads as. -/

namespace Sys2Proof.Machine

/-- Reasons for which the machine stops. The spec gives none: every command of the table ends in a next state, so this type
has no constructor and nothing raises it. -/
inductive Fault where
  deriving DecidableEq, Repr

/-- Reasons for which a command has no meaning here. -/
inductive Refusal where
  /-- Raised only by an arm of `exec` whose command has no meaning yet. Safe: the machine stops where the part goes on. -/
  | notModelled (mnemonic : String)
  deriving DecidableEq, Repr

/-- The operating mode (R92, Table PWR-4), with the states around it: held in reset, and running. -/
inductive Mode where
  | reset | run | doze | listen | vault
  deriving DecidableEq, Repr

/-! ### Time (chapters 00 and 04) -/

/-- The time base: the RTC (R13), its divider of 32 (R379), the AO tick and its divider (R125), and how many cycles of the
RTC source have passed in all (`cyc`) and while the Twill clock ran (`runCyc`, R36). -/
structure TimeBase where
  rtc : Time
  presc : Nat
  aoTick : Nat
  aoPresc : Nat
  cyc : Nat
  runCyc : Nat
  deriving DecidableEq, Repr

/-! ### Twill (chapters 01 and 22) -/

/-- A request waiting at a target: who, where, what, and the bounds that held when it was presented (R26, R47). -/
structure Req where
  init : Nat
  target : Nat
  addr : Nat
  op : BusOp
  soft : Nat
  hard : Nat
  deriving DecidableEq, Repr

/-- A lease: its holder, the µs of Twill time at which it expires, and its queue, head first (R33, R36). -/
structure Lease where
  holder : Option Nat
  expiry : Nat
  queue : List Nat
  deriving DecidableEq, Repr

/-- The outcome an initiator received with its latest access: refusal code, word read, served delayed (R26, R27, R29). -/
structure BusResult where
  code : Nat
  data : Word
  delayed : Bool
  deriving DecidableEq, Repr

structure Fabric where
  /-- Requests waiting at targets, oldest first (R26). -/
  waiting : List Req
  /-- Wheel position of each target (R23). -/
  wheel : List (Nat × Nat)
  /-- Initiator served last, per target and class, at key 4·target + class (R24). -/
  served : List (Nat × Nat)
  /-- The four leases by index (R31). -/
  leases : List (Nat × Lease)
  /-- RESULT of the latest lease command of each initiator (R31, R50). -/
  result : List (Nat × Nat)
  /-- Outcome of the latest access of each initiator (R29). -/
  outcome : List (Nat × BusResult)
  /-- Latches of the higher words of multi-word registers, at key reader · 2^24 + word (R132, R188). -/
  latch : List (Nat × Word)
  /-- Held lower words of multi-word RW registers, at key writer · 2^24 + word (R133). -/
  held : List (Nat × Word)
  /-- Leases whose target has still to discard a former holder's work (R598). -/
  flushes : List Nat
  /-- Initiators whose domain reset after a fence runs (R599). -/
  resets : List Nat
  /-- Calico word offsets that hold a single-bit or a double-bit error (R21). -/
  eccSingle : List Nat
  eccDouble : List Nat
  /-- Words written into targets without addresses in deep space, at key 2^24 · target + offset: the crypto engine's general port (CRY), a frame
  partly loaded into RTX, a train partly loaded into PTX (R497, R598, Table FLT-1). -/
  ports : List (Nat × Word)
  /-- Cores whose restart runs (R600, R601). -/
  restarting : List Nat
  /-- AO ticks of the restarts of each core in the last 60 s (R604). -/
  restartTicks : List (Nat × List Nat)
  deriving DecidableEq, Repr

/-! ### Events and logs (chapter 20) -/

/-- A raise on its way to the event matrix: its source number and what the block hands LGC for the entry (Table EVT-4). -/
structure Raise where
  src : Nat
  data : List Word
  deriving DecidableEq, Repr

/-- A log entry without its SEQ and CRC: time, source, kind, priority, the flags LEGAL and SKIPPED, and DATA (Table EVT-2). -/
structure LogEntry where
  ts : Time
  source : Nat
  kind : Nat
  prio : Nat
  legal : Bool
  skipped : Bool
  data : List Word
  deriving DecidableEq, Repr

/-- What a source of kind ROUTED holds: AO tick of its previous legal entry, and raises taken since (R567). -/
structure RoutedCount where
  tick : Option Nat
  raises : Nat
  deriving DecidableEq, Repr

structure EventMatrix where
  /-- Raises held at their handshake, not yet taken (R128, R553). -/
  raises : List Raise
  /-- Entries in the log FIFO, oldest first (R571). -/
  fifo : List LogEntry
  /-- Entries dropped, and of those the ones of PRIO 3, since the previous OVERFLOW entry (R571). -/
  drops : Nat
  drops3 : Nat
  /-- The legal queue: entries with their SEQ, oldest first (R564). -/
  legalQ : List (Nat × LogEntry)
  /-- Entries whose raise is left pending, because the legal queue was full or LGC did not run, with the source's OPEN bit (R558, R565). -/
  legalWait : List (Bool × LogEntry)
  /-- Legal SEQ given last; legal slots used (written or failed) (R564, R572). -/
  legalSeq : Nat
  legalSlots : Nat
  /-- LEGAL_QUOTA has been raised (R566); the legal queue has been full since it was last below 32 (R565). -/
  quotaRaised : Bool
  queueFull : Bool
  /-- The ROUTED counts (R567). -/
  routed : List (Nat × RoutedCount)
  /-- The log array: the words of the legal log by 8·slot + w, and of the open log (R561, R573). -/
  legalLog : List (Nat × Word)
  openLog : List (Nat × Word)
  /-- SEQ of the next open entry (R570). -/
  openSeq : Nat
  /-- LOG_OBANK of each initiator and host window (R573). -/
  obank : List (Nat × Nat)
  /-- Legal entries reserved at a commit point (R353). -/
  reserved : Nat
  deriving DecidableEq, Repr

/-! ### Pins and the loop by-pass (chapter 02) -/

/-- What D[15:0] mean (R54, Table BAL-2). -/
inductive DRole where
  | floating | straps | parallel | serial | umbra
  deriving DecidableEq, Repr

structure Pins where
  /-- What the data pins D[15:0] are now: floating, straps, a bus or the Umbra port (R54, Table BAL-2). -/
  dRole : DRole
  /-- The word the chip drives on D[15:0], if it drives them (R55, R56). -/
  dOut : Option (BitVec 16)
  /-- CS_N, and in serial mode D0, has been high for 20 ns, so that the meaning of D[15:0] may change (R63). -/
  csHigh : Bool
  /-- A rise of FRZ_N has released D[15:0]: the chip drives them again at the next fall of CS_N (R66). -/
  awaitFall : Bool
  /-- The spare inputs D[15:4] in serial mode, as the latest frame found them: which of them the board drives, and their levels; the others stand at
  what the pull-downs give (R55). -/
  spareDriven : BitVec 12
  spareLevel : BitVec 12
  /-- SEL_N has been high since reset release (R62). -/
  selArmed : Bool
  /-- The chip holds WAIT_N low (R177). -/
  waitLow : Bool
  /-- FRZ_N is low and its deglitch runs (R65); FRZ_N is high and the resume deglitch runs (R66). -/
  frzFalling : Bool
  frzRising : Bool
  /-- RESET_N is low (R150), so that the host bus is not served. -/
  resetLow : Bool
  /-- Levels of PI0 to PI3 behind their filters, bit n for PIn (R594). -/
  inputs : Nat
  /-- The host bus is ignored: VIO_H below power-good, or within 1 ms of its return (R116). -/
  vioHBad : Bool
  deriving DecidableEq, Repr

/-- What the loop by-pass is doing (R70, R71, R526, R528). SYS_BYPASS.CLOSED shows whether it is closed. -/
structure Bypass where
  /-- The repeat path is enabled. -/
  repeating : Bool
  /-- LBYP_N is driven high, and SETTLE has not run out. -/
  settling : Bool
  /-- The node counts as joined (R71). -/
  joined : Bool
  /-- RTC source cycle at which the relay was driven, or at which the node joined (R71, R79). -/
  since : Nat
  /-- By-pass faults since a join that succeeded; the AO tick at which the wait after one ends, while it runs (R528). -/
  faults : Nat
  waiting : Option Nat
  /-- An apply has changed the loop settings: the by-pass closes once more before it opens (R531). -/
  rejoin : Bool
  deriving DecidableEq, Repr

/-! ### Power (chapter 03) -/

/-- Where a power failure stands (R99, R102): none, in the 400 µs deglitch, storing, and a reset store (R151). -/
inductive PfStage where
  | none | deglitch | storing | resetStore
  deriving DecidableEq, Repr

structure Power where
  /-- The stage of the power-fail or reset store sequence (R99, R102, Table PWR-7). -/
  pf : PfStage
  /-- The chip is in a Vault entered by a power failure, or on its way out of it (R104), and that failure was triggered by VBAT (Pod). -/
  pfVault : Bool
  pfVbat : Bool
  /-- A dip is under way: it holds HOLDOK at its value (R106), and during a reset store its deglitch runs (R165). -/
  dip : Bool
  /-- The store under way has been told to end at the next page boundary: HOLD floor (R103), 10 ms (R151). -/
  storeCut : Bool
  /-- To report at the next start: PF_CUT (R103), RSTORE_CUT (R151), HOLD_FAULT (R106), strap split of R649. -/
  pfCut : Bool
  rstoreCut : Bool
  holdFault : Bool
  presampleSplit : Bool
  /-- The accepted mode request that waits for its conditions or its store (R98, R401). -/
  request : Option Mode
  /-- A Doze entry is under way (R113), or the store that precedes Vault or Listen, `request` naming the mode (R401). -/
  dozeEntry : Bool
  /-- The warm start is held until HOLDOK is 1 (R104). -/
  holdWarm : Bool
  /-- VMAIN is below its power-good threshold (Hub, Table PWR-2). -/
  vmainBad : Bool
  /-- The AO power-on reset holds the AO logic (Table PWR-2, R118). -/
  aoReset : Bool
  /-- The RTC when the present mode was entered (R96). -/
  enteredAt : Nat
  /-- A reset fell during the power-fail sequence and is acted on when the chip leaves Vault (R112). -/
  resetPending : Bool
  /-- The vault content was lost since the last start (R118). -/
  vaultLost : Bool
  /-- Start sources that have acted since the internal reset was asserted, bit k − 1 for code k (R149). -/
  sources : Nat
  /-- The pre-sample of the profile strap (R649). -/
  presample : Option Bool
  /-- Consecutive VBAT samples below the threshold (R107). -/
  lowSamples : Nat
  deriving DecidableEq, Repr

/-! ### Clocks (chapter 04) -/

/-- Where a tracker's acquisition stands (R136): the intervals seen so far, newest first, or how many half-cycles of
settling have run, or locked. -/
inductive ZcStage where
  | acquire (intervals : List Int)
  | settle (n : Nat)
  | locked
  deriving DecidableEq, Repr

/-- A zero-crossing tracker (R135), in units of 1/19.2 µs: half-cycle P, reference r, the latest crossing seen, and that the
crossing of the half-cycle before r has already counted as not seen. -/
structure Tracker where
  p : Int
  r : Int
  last : Option Int
  hold : Nat
  missed : Bool
  stage : ZcStage
  deriving DecidableEq, Repr

structure Clocks where
  /-- The zero-crossing tracker of each mains phase (R135, R136). -/
  trackers : List (Nat × Tracker)
  /-- Consecutive HFXO counts within window while HFXO is being restarted (R137), and while a mismatch holds (R140). -/
  hfxoGood : Nat
  mismatchGood : Nat
  /-- LFXO_FAIL has been raised for the present failure; the end of the RTC has been raised (R15). -/
  lfxoFailed : Bool
  rtcEnded : Bool
  /-- RTC source cycle at which the LPO was found out of range (R137). -/
  lpoSince : Nat
  /-- Consecutive ring measurements in range of each TDC that lost its range (R137). -/
  tdcGood : List (Nat × Nat)
  deriving DecidableEq, Repr

/-! ### Start (chapter 05) -/

structure Boot where
  /-- Steps of Table STA-2 reached, bit n for step n. -/
  steps : Nat
  /-- Step 4 has loaded the legal registers (R161). -/
  legalLoaded : Bool
  /-- RTC source cycles at the release, for SYS_BOOT.READY. -/
  released : Nat
  /-- Outcome of the resolution for each logical page (Table STA-3), as SYS_RECALLn codes it; an unlisted page has never been stored: EMPTY. -/
  outcome : List (Nat × Nat)
  /-- Logical pages of settled regions not yet recalled, ascending (R159). -/
  unrecalled : List Nat
  /-- The staging sets that had entries when the internal reset was asserted, bit 0 immediate, bit 1 dated (R225). -/
  lostSets : Nat
  /-- The vault was lost before this start, and this is the first start of a new part (R118). -/
  vlost : Bool
  firstStart : Bool
  /-- The settled recall has raised FABRIC_REFUSED (R421). -/
  recallRefused : Bool
  deriving DecidableEq, Repr

/-! ### The shadow store (chapter 14) -/

/-- Metadata of a physical page (R390): whether it has been programmed, the logical page it names, its store counter and
the CRC over its 256 bytes. -/
structure PageMeta where
  stored : Bool
  page : Nat
  counter : Nat
  crc : Nat
  deriving DecidableEq, Repr

/-- A store under way (R397): its region (16 for a power-fail or reset store), the pages it has still to store, how many
it has stored, and whether the page in hand has been programmed once with a bad read-back (R398). -/
structure StoreRun where
  region : Nat
  todo : List Nat
  count : Nat
  retried : Bool
  deriving DecidableEq, Repr

/-- A data-port command that is being handled (R411): its command, region, offset, length and holder, the new password it
copied, whether it is an owner's command (R410), whether a lock-out ran, whether every condition of R410 held, and the cycle of the Twill clock
at which BUSY was set. -/
structure PortCheck where
  cmd : Nat
  region : Nat
  offset : Nat
  len : Nat
  who : Nat
  new : List Word
  owner : Bool
  locked : Bool
  good : Bool
  since : Nat
  deriving DecidableEq, Repr

/-- The open transfer (R406): direction, region, next byte offset, bytes left, holder. -/
structure Transfer where
  write : Bool
  region : Nat
  offset : Nat
  left : Nat
  who : Nat
  deriving DecidableEq, Repr

/-- A Twill access of STC that was refused and is repeated (R421): what kind of work, the words left, times refused. -/
structure FabricWork where
  kind : Nat
  words : List Nat
  refusals : Nat
  /-- Regions whose stores the work requests when it is done. -/
  regions : List Nat
  deriving DecidableEq, Repr

/-- What FLE and NGE computed for a metering point in one epoch: the fields to publish, the raises, and what the totals gain
in 1/2^32 of their units (VOLF, VOLR, HEAT, COOL, VOLB) and in ticks (the two FTIME registers). -/
structure MpResult where
  mp : Nat
  puts : List (Fd × Int)
  raises : List Nat
  gains : List Int
  ftime : Nat
  nftime : Nat
  deriving DecidableEq, Repr

/-- The legal registers of one stored set (R160, R648), for its generation: the register words, the residues of the totals,
the legal queue and its latest SEQ, the ROUTED counts and the accrual queue. The body's layout is the ROM's own and no interface (R648). -/
structure LegalBody where
  regs : List (Nat × Word)
  residues : List (Nat × Nat)
  queue : List (Nat × LogEntry)
  seq : Nat
  routed : List (Nat × RoutedCount)
  accrual : List MpResult
  deriving DecidableEq, Repr

structure Store where
  /-- The shadow SRAM, 512 pages of 256 bytes (R390). -/
  sram : List Host.Cell
  /-- Data bytes of the 544 physical pages, at 256 · page (R390), and their metadata. -/
  array : List Host.Cell
  pageMeta : List (Nat × PageMeta)
  /-- The remap table: logical pages that stand on a spare (R402). -/
  remap : List (Nat × Nat)
  /-- Bit k is 1: copy k of the remap table passes its CRC (R402, R422). -/
  remapCrc : BitVec 2
  /-- Spares taken of the sealed and of the open pool (R402). -/
  sealedUsed : Nat
  openUsed : Nat
  /-- Exhausted regions, kept in the remap table (R403). -/
  exhausted : List Nat
  /-- Dirty logical pages, ascending (R395). -/
  dirty : List Nat
  /-- The page that the store has in hand was written after its copy into the page buffer (R395, R398). -/
  copyStale : Bool
  /-- The page in hand lies in the page buffer, its programming not begun: STC stands at a page boundary and takes accesses (R25). -/
  atBoundary : Bool
  /-- The store under way, if there is one (R397). -/
  run : Option StoreRun
  /-- The data-port command that is being handled (R411). -/
  check : Option PortCheck
  /-- The open transfer of the data port (R406). -/
  transfer : Option Transfer
  /-- AO tick at which the lock-out of counter c ends (R412); none runs for an unlisted counter. -/
  lockEnd : List (Nat × Nat)
  /-- Twill accesses of STC that were refused and are repeated (R421). -/
  work : List FabricWork
  /-- A frame-counter reservation waits for its SR06 store (R418). -/
  resvPending : Bool
  /-- The candidate table as the pages of SR07 that keep it stand in the array, and of the page in the page buffer (R455); log 36. -/
  candArray : List (Nat × List (Nat × Word))
  candBuf : List (Nat × Word)
  /-- The body of each generation written into SR00. -/
  legalBodies : List (Nat × LegalBody)
  /-- The set of SR00 that holds the present generation: the one loaded or written last (R160). -/
  legalSet : Nat
  deriving DecidableEq, Repr

/-! ### Firing, arrival and flow (chapters 08 to 10) -/

/-- Where one shot of a pair stands (Table FIR-4, Table FIR-5): not yet fired, fired, its record queued, ended with a code
of Table FIR-5, or processed. -/
inductive ShotStage where
  | waiting | flying | queued | lost | processed
  deriving DecidableEq, Repr

/-- What a transducer port does (R228, R230, Table FIR-4): clamped to its guard, connected to its driver, or to a receive channel with GAIN
and the termination of MATCH. -/
inductive PortUse where
  | clamped
  | driver
  | receiver (rx gain : Nat) (matched : Bool)
  deriving DecidableEq, Repr

/-- A burst as a port's driver sends it (R229, R234, R236): its TYPE, FREQ in kHz, length in carrier cycles, cycles per chip, half-span in per cent,
chips, and the level in mV to which the driver switches the port. -/
structure Burst where
  type : Nat
  freq : Nat
  cycles : Nat
  cpc : Nat
  span : Nat
  chips : List Bool
  level : Nat
  deriving DecidableEq, Repr

/-- A member of a firing unit in one event: its path, engine and receive channel, its two shots, whether it was prepared
with its engine and VDRV good, the offset φ that the calibration before the present shot gave (none: it failed), and the captures of the
learned template that was current when the processing of its forward shot began ([]: the synthesised one was, R263). -/
structure Member where
  path : Nat
  engine : Nat
  rx : Nat
  fwd : ShotStage
  rev : ShotStage
  armed : Bool
  cal : Option Int
  tmpl : Option (List Capture)
  deriving DecidableEq, Repr

/-- One event of the schedule (R243) with its times in µs from the epoch start, and whether it has been prepared and released (Table FIR-4). -/
structure FireEvent where
  members : List Member
  fwd : Nat
  rev : Nat
  free : Nat
  prepared : Bool
  released : Bool
  deriving DecidableEq, Repr

/-- What an engine has done in an epoch (Table FIR-12): shots scheduled, fired, lost, and the causes as bits. -/
structure EngineCount where
  sched : Nat
  fired : Nat
  lost : Nat
  causes : Nat
  deriving DecidableEq, Repr

/-- A valid pair: its path, its two times of flight in fs, and whether it was processed after B + 38 ms (R309). -/
structure PairRec where
  path : Nat
  tofF : Int
  tofR : Int
  late : Bool
  deriving DecidableEq, Repr

/-- A path in an epoch: its valid pairs, Δ̄ in fs and v in µm/s as published (R290), and that v was limited (R310). -/
structure PathFlow where
  path : Nat
  n : Nat
  dt : Int
  v : Int
  sat : Bool
  deriving DecidableEq, Repr

/-- An epoch in progress or in its tail (R248, R249). -/
structure Epoch where
  id : Nat
  /-- RTC count and RTC source cycles at its start. -/
  startRtc : Nat
  startCyc : Nat
  eplog : Nat
  /-- The configuration version and the register words that it stands for (R220). -/
  ver : Nat
  cfg : List (Nat × Word)
  events : List FireEvent
  engines : List EngineCount
  /-- The first epoch after the start (R311). -/
  first : Bool
  /-- Freeze spans that fell within it, 1/1024 s (R307). -/
  span : Nat
  /-- RTC source cycles before which no boundary ends it (R254, R255). -/
  notBefore : Nat
  /-- It fires nothing more (R255). -/
  stopped : Bool
  /-- Its elapsed length, 1/1024 s, and the RTC at its end, once it has ended. -/
  len : Nat
  endRtc : Nat
  /-- RTC source cycles that the Twill clock had run at its end: its tail counts from there (R249). -/
  endRun : Nat
  /-- The RTD channels c and bridge channels 16 + k that have converted in it (R297). -/
  converted : List Nat
  /-- Levels of PI0 to PI3 at its end, bit n for PIn (Table BIL-1). -/
  inputs : Nat
  pairs : List PairRec
  /-- The epoch value of each RTD channel c and bridge channel 16 + k, where it has a valid one (R298). -/
  values : List (Nat × Int)
  /-- FLE has taken the pairs processed by B + 38 ms, and what it computed (R309). -/
  cut : Bool
  results : List MpResult
  /-- What FLE computed for every path (R290). -/
  flows : List PathFlow
  /-- A write of FLE or NGE was refused (R30). -/
  refused : Bool
  deriving DecidableEq, Repr

/-- A shot record in an engine's queue (Table CLK-4). -/
structure Shot where
  epoch : Nat
  event : Nat
  path : Nat
  rev : Bool
  cal : Option Int
  cap : Capture
  deriving DecidableEq, Repr

structure Firing where
  /-- The epoch in progress (R248). -/
  cur : Option Epoch
  /-- Epochs in their tail, oldest first. -/
  tails : List Epoch
  /-- The shot records queued at each engine, oldest first. -/
  queues : List (Nat × List Shot)
  /-- The ports that take part in a shot; an unlisted one is clamped to its guard (R228). -/
  ports : List (Nat × PortUse)
  /-- The latest burst that each port sent (R229, R234). -/
  sent : List (Nat × Burst)
  /-- The number of the next epoch (Table CLK-4). -/
  nextId : Nat
  /-- RTC source cycles before which the first epoch does not begin (R162). -/
  notBefore : Nat
  deriving DecidableEq, Repr

/-- The histories of a path and direction (R265, R270 to R272): the amplitudes of the last accepted shots, newest first;
the reference TOF in fs; the run of cycle skips of one m; the amplitudes of the run of shots DISTURBED under the amplitude
test, newest first. -/
structure PathHistory where
  amps : List Nat
  ref : Option Int
  skipM : Int
  skipN : Nat
  disturbed : List Nat
  deriving DecidableEq, Repr

/-- The template of a path (R263) and its run of rejections (R273): the captures of its last accepted shots, newest first,
the set the learned template was built from, whether one has been used, the shots rejected in a row, and that REJECT_RUN has been raised for
the present run. -/
structure PathTemplate where
  recent : List Capture
  learned : List Capture
  used : Bool
  rejects : Nat
  raised : Bool
  deriving DecidableEq, Repr

/-- A forward shot that passed codes 0x1 to 0x7 and waits for its mirror (R269): amplitude, TOF in fs, φ. -/
structure HalfPair where
  shot : Shot
  amp : Nat
  tof : Int
  deriving DecidableEq, Repr

structure Arrival where
  /-- The histories of each path and direction (R270 to R272), at key 2 · path + direction (1: reverse). -/
  history : List (Nat × PathHistory)
  /-- The template of each path, at the path (R263). -/
  template : List (Nat × PathTemplate)
  /-- The last accepted values of φ of each receive channel, newest first (R261, R274). -/
  phi : List (Nat × List Int)
  /-- Forward shots that wait for their mirror (R269). -/
  waiting : List HalfPair
  /-- Paths whose histories are cleared for the shots of the epochs from the one given on (R283). -/
  resets : List (Nat × Nat)
  deriving DecidableEq, Repr

/-- A temperature or bridge channel: its latest valid value and its overloads in a row (R300). -/
structure Channel where
  value : Option Int
  overloads : Nat
  deriving DecidableEq, Repr

/-- What a metering point carries from epoch to epoch: the ū corrected of its latest good epoch since the start (R308), its
failed epochs in a row, the runs of R304 to R307, the medium band in force, the candidate that RUN counts, the epochs in a
row at or below the hydrogen alarm, and that its class has still to be taken at once (R281, R282, R284). -/
structure MpHistory where
  last : Option Rat
  fails : Nat
  reverse : Bool
  dtNeg : Bool
  tempFault : Bool
  pressFault : Bool
  band : Nat
  candidate : Option (Nat × Nat)
  h2Above : Nat
  h2Below : Nat
  fresh : Bool
  deriving DecidableEq, Repr

/-- A conversion result on its way to the energy engine (R129): its epoch, its channel (16 + k for bridge channel Bk) and what the modulator gave. -/
structure ConvResult where
  epoch : Nat
  chan : Nat
  conv : Conversion
  deriving DecidableEq, Repr

structure Flow where
  /-- The results that wait in the crossing queues q = 4 to 8, oldest first (R129). -/
  queues : List (Nat × List ConvResult)
  /-- What each temperature or bridge channel keeps (R300). -/
  channels : List (Nat × Channel)
  /-- What each metering point carries from epoch to epoch (R304 to R308). -/
  points : List (Nat × MpHistory)
  /-- Residues of the totals in 1/2^32 of their units, at 5 · point + 0 VOLF, 1 VOLR, 2 HEAT, 3 COOL, 4 VOLB (R307). -/
  residues : List (Nat × Nat)
  /-- The accrual queue: epoch results that LGC adds to the totals when it runs again (Table FLT-3). -/
  accrual : List MpResult
  deriving DecidableEq, Repr

/-! ### Billing (chapter 11) -/

/-- A demand sub-interval (R327): its end D as an RTC count, the quantity in 1/2^32 units and the elapsed ticks
it holds, the tariff of its last epoch, and what marks it. -/
structure SubInterval where
  endAt : Int
  q : Int
  ticks : Nat
  tariff : Nat
  cset : Bool
  gap : Bool
  outage : Bool
  deriving DecidableEq, Repr

/-- What APC keeps for a metering point beside the registers: LASTTOT (R316), the sub-interval in progress and the latest
ended ones, newest first (R327), a commanded close's C, a reset that a command asks for, an activation's C (R325), whether a clock
set took effect or a fault time grew in the period, the version of the period's last epoch with its QTY, whose total LASTTOT
follows, and its KIND (Table BIL-3, R318), the ends of the first and the last publication missed since the latest processed one
(R317), and a reset that a change of QTY asks for (R318). -/
structure BillPoint where
  last : Nat
  cur : Option SubInterval
  subs : List SubInterval
  command : Option Nat
  reset : Bool
  activate : Option Nat
  cset : Bool
  fault : Bool
  ver : Nat
  qty : Nat
  kind : Nat
  missed : Option (Nat × Nat)
  retotal : Bool
  deriving DecidableEq, Repr

structure Billing where
  /-- The billing region has been taken over since the start (R335, R336). -/
  loaded : Bool
  /-- What APC keeps for each metering point beside the registers (R316 to R336). -/
  points : List (Nat × BillPoint)
  /-- The epoch in progress at a clock set, or the next one, at whose end the sub-interval in progress is re-ended (R333). -/
  clockSet : Option Nat
  deriving DecidableEq, Repr

/-! ### Staged changes (chapter 07) -/

/-- A staging set (R203): its entries, word address and staged value, rising; the AT that a scheduled dated set holds and its
authorisation (R211, R217); the RTC value of its boundary B while it is SCHEDULED or COMMITTED; the CFGVER at scheduling
(Table STO-10); that its boundary was missed (R222). What STG_SETs shows is held there. -/
structure StageSet where
  entries : List (Nat × Word)
  applyAt : Nat
  auth : Bool
  boundary : Nat
  ver : Nat
  late : Bool
  deriving DecidableEq, Repr

/-- A CHECK or APPLY whose check runs (R208 to R211): its set, whether it is an APPLY, the AT it took, whether it was accepted
with a session open, and the conflicts: codes with their addresses. -/
structure StageCheck where
  dated : Bool
  apply : Bool
  applyAt : Nat
  session : Bool
  found : List (Nat × Nat)
  deriving DecidableEq, Repr

structure Staging where
  /-- The immediate set (R203). -/
  imm : StageSet
  /-- The dated set (R203). -/
  dated : StageSet
  /-- The CHECK or APPLY whose check runs (R208 to R211). -/
  check : Option StageCheck
  /-- The conflict that the next completed read of H_STG_ERR returns (R215). -/
  errNext : Nat
  deriving DecidableEq, Repr

/-! ### The sealed side (chapter 12) -/

/-- What LGC holds for sessions and patch installation beside the registers and the vault. -/
structure Sealed where
  /-- An OPEN is in hand, and whether every condition of R344 held when LGC evaluated it (R343); the cycle of the Twill clock at which LGC took it
  (R363). -/
  opening : Option Bool
  openedAt : Nat
  /-- AO tick at which the open session ends, and at which the lock-out ends (R346, R348). -/
  sessionEnd : Nat
  lockEnd : Option Nat
  /-- INSTALL in hand: its source address (R360). -/
  installing : Option Nat
  deriving DecidableEq, Repr

/-! ### Frame security (chapter 17) -/

/-- An entry of the receive table (R503): originator, slot, counter. -/
structure RxEntry where
  src : Nat
  slot : Nat
  ctr : Nat
  deriving DecidableEq, Repr

/-- The limiter of R504 for one event: AO tick of its latest raise, and whether the count has grown since. -/
structure RaiseLimit where
  tick : Option Nat
  grown : Bool
  deriving DecidableEq, Repr

structure Security where
  /-- Reservations written and not yet confirmed: slot and new LIM (R499). -/
  pending : List (Nat × Nat)
  /-- The receive table, least recently accepted first (R503). -/
  rx : List RxEntry
  /-- The limiter of R504 for AUTH_FAIL. -/
  auth : RaiseLimit
  /-- The limiter of R504 for REPLAY. -/
  replay : RaiseLimit
  deriving DecidableEq, Repr

/-! ### Messages and frames (chapters 15 to 19) -/

/-- A concentrator message on its way to the head-end (R534, R545, R547): its class, its bytes, the pod it concerns, the RSEQs of
the records it carries, the transport by which a transit message came (a code of CON_FWD, 0 for none), how many places of
the forward list it has been handed back from, and whether it has been counted as delayed. -/
structure ConMsg where
  cls : Nat
  bytes : List Byte
  pod : Nat
  recs : List Nat
  arrived : Nat
  after : Nat
  delayed : Bool
  deriving DecidableEq, Repr

/-- The service that a frame returns to when it is acknowledged or given up: NWC's own traffic, the forwarding of a hub, a
pod's JOIN and REPORT with the RSEQs it carries, and a POD_DOWN (R536, R545, R549). -/
inductive Service where
  | plain
  | forward (m : ConMsg)
  | join
  | report (rseqs : List Nat)
  | podDown (pod : Nat)
  deriving DecidableEq, Repr

/-- A message that a service has handed to NWC for a transport (0 power line, 1 Gauze, 2 loop), with the descriptor bits of
R472 for the radio. -/
structure Outgoing where
  transport : Nat
  dst : Nat
  payload : List Byte
  slot : Option Nat
  ackreq : Bool
  wake : Bool
  reply : Bool
  listen : Bool
  service : Service
  deriving DecidableEq, Repr

/-- A frame of a transmitter (R443, R472, R521): its bytes as they are sent, as NWC gave it before protection, the key slot that
protects it, link receiver, whether it expects an acknowledgement, whether it is a relay, the tries made, whether it has been
counted as delayed, and whose it is. -/
structure OutFrame where
  bytes : List Byte
  plain : List Byte
  slot : Option Nat
  next : Nat
  ackreq : Bool
  relay : Bool
  tries : Nat
  delayed : Bool
  service : Service
  deriving DecidableEq, Repr

/-- A message that a transport has delivered to NWC: transport (0 power line, 1 Gauze, 2 loop, 3 mailbox), originator, payload,
and the key slot and counter of its protection. -/
structure Delivery where
  transport : Nat
  src : Nat
  payload : List Byte
  slot : Option Nat
  ctr : Nat
  deriving DecidableEq, Repr

/-- Where a stored reading record stands (R542, R545): not forwarded, in a message on its way, handed back from every
transport, and forwarded. -/
inductive RecStage where
  | fresh | sent | failed | forwarded
  deriving DecidableEq, Repr

/-- A record of the reading store: its RSEQ, its place of 96, and where it stands. Its bytes lie in Calico (R542). -/
structure StoredRec where
  rseq : Nat
  place : Nat
  stage : RecStage
  deriving DecidableEq, Repr

structure Concentrator where
  /-- Messages handed to NWC and not yet loaded, oldest first. -/
  toLoad : List Outgoing
  /-- Waiting messages of classes 0, 1 and 3, in arrival order (R547). -/
  waiting : List ConMsg
  /-- The records of each pod entry, oldest first (R542). -/
  records : List (Nat × List StoredRec)
  /-- Entry served last in class 2 (R547). -/
  turn : Nat
  /-- The frames held for pods: FLAGS byte of each entry's newest record, for rises (Table CON-2, ALARM). -/
  lastFlags : List (Nat × Nat)
  /-- The pod's records not yet acknowledged, oldest first: RSEQ and bytes (R536). -/
  unacked : List (Nat × List Byte)
  /-- What has happened since the pod's previous record: bit 2 an epoch failed, bit 3 a clock set, bit 5 REVERSE (Table CON-3). -/
  since : Nat
  /-- The RTC at the end of the epoch published last (Table CON-3, TS). -/
  lastEnd : Nat
  /-- FLAGS bits 0, 1 and 4 as the pod saw them last, and reports in a row that ended with NO_ACK (R536). -/
  seenFlags : Nat
  noAcks : Nat
  /-- The AO tick of the next report of the interval (R536), that of the latest forwarding cycle (R545), and the record formed last (R539). -/
  reportAt : Option Nat
  cycleAt : Nat
  lastRecord : List Byte
  deriving DecidableEq, Repr

/-- A message of the chip towards the host: its words and the concentrator message it carries (R198, R545). -/
structure MailOut where
  words : List (BitVec 16)
  con : Option ConMsg
  deriving DecidableEq, Repr

structure Mailbox where
  /-- The transmit FIFO towards the chip, 64 words (R197). -/
  tx : List (BitVec 16)
  /-- The receive FIFO towards the host, 64 words (R197). -/
  rx : List (BitVec 16)
  /-- Words still in `rx` of a message that the host has begun to read. -/
  part : Nat
  /-- Messages that wait for room in `rx`: a message is placed only whole (R198). -/
  queue : List MailOut
  deriving DecidableEq, Repr

/-! ### Power-line signalling (chapter 15) -/

/-- Where the train in the transmitter stands (R439, R434, R441): in its back-off, being sent, waiting for its acknowledgement. -/
inductive TrainStage where
  | backoff | sending | ackWait
  deriving DecidableEq, Repr

/-- A train (R434): its frames and their link receiver, R, SPAN and the word PLS_PHY under which it was loaded (R457), its coded symbols, the
next half-cycle, whether it is an acknowledgement train, and the half-cycles its acknowledgement may still take. -/
structure Train where
  frames : List OutFrame
  next : Nat
  r : Nat
  span : Nat
  symbols : List Nat
  pos : Nat
  ack : Bool
  stage : TrainStage
  left : Nat
  phy : Word
  deriving DecidableEq, Repr

/-- A train being received (R436, R440, R447): R from its start word, SPAN and the word PLS_PHY at its begin (R457), the half-cycles after the preamble,
newest first: summed slot energies, or an erasure; symbols of the frames taken so far, frame number, CRC bits, whether an
acknowledgement is due, its link sender, and the half-cycles of the whole train once its last frame is known. -/
structure TrainRx where
  r : Nat
  span : Nat
  line : List (Option (List Nat))
  symbols : Nat
  index : Nat
  good : Nat
  ackreq : Bool
  prev : Nat
  total : Option Nat
  erased : Nat
  phy : Word
  deriving DecidableEq, Repr

/-- An acknowledgement that is due: its receiver, R, the bits, and the half-cycles before it (R440). -/
structure AckDue where
  dest : Nat
  r : Nat
  bits : Nat
  left : Nat
  deriving DecidableEq, Repr

/-- What NWC keeps for a neighbour beside its registers: trains in a row without and with acknowledgement (R442), and the AO
tick at which it was heard last (R452), and that no frame has been taken from it yet (R453). -/
structure PlsNbr where
  fails : Nat
  oks : Nat
  heard : Nat
  fresh : Bool
  deriving DecidableEq, Repr

structure Pls where
  /-- Own frames at NWC, handed back ones with their protection, and the relay queue, oldest first (R441, R444). -/
  own : List OutFrame
  /-- The relay queue, oldest first (R441, R444). -/
  relays : List OutFrame
  /-- The train being sent (R434). -/
  train : Option Train
  /-- The node's own train, in its back-off or waiting for its acknowledgement, while an acknowledgement train is sent (R440). -/
  held : Option Train
  /-- The train being received (R436, R440). -/
  rx : Option TrainRx
  /-- The acknowledgement that is due (R440). -/
  ackDue : Option AckDue
  /-- CW exponent (R439); half-cycles without busy in a row; half-cycles counted down. -/
  cw : Nat
  idle : Nat
  counted : Nat
  /-- Energy above DETMIN in the last 8 half-cycles, newest in bit 0 (R438); half-cycles without any in a row, and whether the
  medium counts as busy until 16 of them (R436). -/
  recent : Nat
  quiet : Nat
  holdBusy : Bool
  /-- Pulses in a row below ITXMIN on each phase (R428). -/
  weak : List (Nat × Nat)
  /-- The slot of the pulse in the latest half-cycle, and on which phases, if one was sent (R425, R427). -/
  pulse : Option (Nat × List Nat)
  /-- Half-cycles of the pause under way (R446). -/
  gap : Nat
  /-- Next link sequence, the latest SEQ taken from each PREV (R437), and the node's own route sequence (R454). -/
  seq : Nat
  taken : List (Nat × Nat)
  /-- The node's own route sequence; the AO tick of its latest advertisement, and that a route's cost has changed by more than one
  eighth, or a route was broken, since (R454, R455). -/
  advert : Nat
  advertAt : Option Nat
  costMoved : Bool
  /-- What NWC keeps for each neighbour beside its registers (R442, R452). -/
  nbrs : List (Nat × PlsNbr)
  /-- Repeaters of the latest frame from the head-end, reversed (R450). -/
  upRoute : Option (Nat × List Nat)
  /-- Destinations of the head-end's frames not yet acknowledged end to end, with the candidate used (R451). -/
  awaited : List (Nat × Nat)
  deriving DecidableEq, Repr

/-! ### Radio (chapter 16) -/

/-- A frame of the radio's queues: a number of the model's own, the frame, the descriptor bits of R472, SRC and OSEQ for the
seen-cache, its airtime in µs, the AO tick since which it is held for a pod (R549) and since which it waits under the duty
budget (R477), a relay's delay still to run out (R484), BE as it stands in this try and its busy assessments (R474). -/
structure RadFrame where
  id : Nat
  f : OutFrame
  wake : Bool
  reply : Bool
  listen : Bool
  wmb : Bool
  src : Nat
  oseq : Nat
  air : Nat
  held : Option Nat
  deferred : Option Nat
  dutyCounted : Bool
  delay : Bool
  be : Nat
  busy : Nat
  deriving DecidableEq, Repr

/-- Where the frame in hand stands (R474, R476, R478): its assessment, its Glint pattern, GWAIT, on the air, its acknowledgement
awaited. -/
inductive RadStage where
  | cca | glint | gwait | sending | ackWait
  deriving DecidableEq, Repr

/-- An acknowledgement that is due (R475): its receiver, the SEQ, PENDING, the held frame that follows it, and whether it is on
the air. -/
structure RadAck where
  dest : Nat
  seq : Nat
  pending : Bool
  follow : Option Nat
  sending : Bool
  deriving DecidableEq, Repr

/-- An entry of the seen-cache (R483): SRC, OSEQ, AO tick, copies heard. -/
structure SeenEntry where
  src : Nat
  oseq : Nat
  tick : Nat
  copies : Nat
  deriving DecidableEq, Repr

/-- What the MAC keeps for a neighbour entry beside its registers: the window W (R469) and the AO tick of its latest frame
(R470). -/
structure RadNbr where
  window : Nat
  heard : Nat
  deriving DecidableEq, Repr

structure Radio where
  /-- Own frames that wait for the transmitter (R472, R473). -/
  own : List RadFrame
  /-- Frames that wait to be relayed (R473, R483). -/
  relays : List RadFrame
  /-- The number of the next frame; the model's own. -/
  nextId : Nat
  /-- The frame under way and its stage (R474). -/
  active : Option (Nat × RadStage)
  /-- The acknowledgement that is due (R475). -/
  ack : Option RadAck
  /-- A held frame that is sent 2 ms after the acknowledgement that announced it (R478). -/
  follow : Option Nat
  /-- Transmissions of the last hour: AO tick and µs (R477). -/
  duty : List (Nat × Nat)
  /-- Link transmissions still to carry RSD (R467). -/
  rsd : Nat
  /-- What the MAC keeps for each neighbour entry beside its registers (R469, R470). -/
  nbrs : List (Nat × RadNbr)
  /-- The seen-cache (R483). -/
  seen : List SeenEntry
  /-- The pod's receive window is open (R481); the response window after an own telegram is open (R464). -/
  window : Bool
  wmbWindow : Bool
  /-- The count of Run cycles at which the stage of the frame under way began; the acknowledgement due, or its transmission; the wait before the held
  frame; and the receive window, or its latest restart (R474 to R478, R481). -/
  stageAt : Nat
  ackAt : Nat
  followAt : Nat
  windowAt : Nat
  /-- The AO tick about which the next EN 13757-4 telegram is sent (R464). -/
  wmbDue : Option Nat
  deriving DecidableEq, Repr

/-! ### The Turard Loop (chapter 18) -/

/-- A frame that the master has sent and that has not returned (R520, R523): its TYPE, station, bytes, and whether it carries the
oldest waiting message for that station. -/
structure LoopFrame where
  kind : Nat
  station : Nat
  bytes : List Byte
  down : Bool
  deriving DecidableEq, Repr

/-- What the master keeps for a station (R521, R523): DTOG of the next or current down message, whether the next one carries
DRESET, the last UTOG taken, and UPACK of its next POLL. -/
structure LoopStation where
  dtog : Bool
  dreset : Bool
  utog : Option Bool
  upack : Bool
  deriving DecidableEq, Repr

structure Loop where
  /-- The own queue, oldest first: the master's down messages or the slave's up messages (R521). -/
  own : List OutFrame
  /-- Messages in queue 9 that the loop controller has still to write into Calico, oldest first (R129, R530). -/
  queue : List (List Byte)
  /-- The slave: UTOG, the DTOG it last took since it took its station, whether the head of its queue has been sent, the AO tick of
  the latest frame with a good HCS, and that LOOP_SILENT has been raised since (R529). -/
  utog : Bool
  dtog : Option Bool
  sentUp : Bool
  heard : Nat
  silent : Bool
  /-- The bytes sent onward in the latest frame, and whether it ended in an abort sequence (R514, R525). -/
  line : List Byte
  aborted : Bool
  /-- The master: the frame on the ring, the station polled last, the stations, consecutive NORETURN outcomes, that a DISCOVER goes
  before the next POLL, and the RTC source cycle of the latest DISCOVER. -/
  frame : Option LoopFrame
  last : Nat
  stations : List (Nat × LoopStation)
  noReturn : Nat
  discover : Bool
  discAt : Nat
  deriving DecidableEq, Repr

/-! ### Optical port, display and pulses (chapter 21) -/

/-- The value of an item at one publication (R577, R578, R580): none, "-" in every digit position, a number as numerator and
denominator, a number shown in hexadecimal, or the digits of a time. -/
inductive ItemValue where
  | blank
  | dashes
  | number (n : Int) (d : Nat)
  | hex (n : Nat)
  | time (digits : List Nat)
  deriving DecidableEq, Repr

/-- Where an optical session stands (R581 to R586): none; request taken; identification sent in mode C; data message due; being
sent; waiting for a W6 message, or for BUSY with the credential of one, or for the outcome of its OPEN, or with an answer to one that is due. -/
inductive OptStage where
  | idle | requested | ackWait | readoutDue | sending | w6 | w6Busy (cred : List Byte) | w6Open | w6Answer (c : Byte)
  deriving DecidableEq, Repr

/-- The optical port: its stage, the AO tick of the latest message, what it sent last. -/
structure Optical where
  stage : OptStage
  tick : Nat
  out : List Byte
  deriving DecidableEq, Repr

/-- A pulse output (R592): open with nothing under way, closed for a pulse, open after one, or a pulse that a freeze cut short
and that is sent again. -/
inductive PulseStage where
  | idle | closed | gap | again
  deriving DecidableEq, Repr

/-- A pulse output beside its registers: its source as POn_CFG names it, the total at the latest publication, the residue, its
stage, and the RTC source cycle at which that began. -/
structure PulseOut where
  source : Nat
  last : Option Nat
  residue : Nat
  stage : PulseStage
  since : Nat
  deriving DecidableEq, Repr

structure LocalUnit where
  /-- The values of the 128 items at the latest processed publication, and of the error item; none before the first one. -/
  values : List ItemValue
  errValue : Nat
  /-- The optical port. -/
  opt : Optical
  /-- The error item stands in the display ahead of entry 0 (R589). -/
  onErr : Bool
  /-- AO ticks: of the latest press, of the latest advance through list 0, and of the start of a display test under way. -/
  lastPress : Option Nat
  lastScroll : Nat
  test : Option Nat
  /-- Buttons that are down, with the AO tick of their press; those whose long press has acted; those ignored until released. -/
  down : List (Nat × Nat)
  long : Nat
  ignored : Nat
  /-- The pulse outputs beside their registers. -/
  outs : List (Nat × PulseOut)
  deriving DecidableEq, Repr

/-! ### Umbra (chapter 13) -/

structure Umbra where
  /-- The chip is frozen: FRZ_N was accepted, and the resume has not been (R365, R378). -/
  frozen : Bool
  /-- RTC source cycles since the acceptance (R379). -/
  span : Nat
  /-- The programming of a page that had begun at acceptance has still to end (R366). -/
  programming : Bool
  /-- The image is ready (R366); D[15:0] are the Umbra port (Table BAL-4). -/
  ready : Bool
  port : Bool
  /-- The read-out position, COMPLETE, OVER and the edges past the end (R375 to R378). -/
  pos : Nat
  complete : Bool
  past : Bool
  overCnt : Nat
  /-- The image of this freeze, its CRC once it is ready, and the freeze record of Table UMB-5, as 16-bit words. -/
  image : List (BitVec 16)
  crc : Option Nat
  record : List (BitVec 16)
  /-- UCLK edges (false) and rewinds (true) within the resume deglitch under way, oldest first: they count if the freeze continues (R66). -/
  held : List Bool
  /-- HFXO has failed, so that the read-out stands still (R142). -/
  stopped : Bool
  /-- A fall of FRZ_N in Doze is accepted at the end of the exit (R367). -/
  dozeWake : Bool
  /-- The RTC at acceptance. -/
  entry : Nat
  /-- LGC has still to record the freeze (Table UMB-8, step 5; R387, R388): its SPAN in cycles, the freeze span in ticks, the end cause. -/
  due : Option (Nat × Nat × Nat)
  deriving DecidableEq, Repr

/-! ### Host bridge (chapter 06) -/

/-- A window beside its registers: the held low half (R189), the high half that Wn_DHI returns (R188), the prefetch buffer, whether the
effect of reading it has been committed, and that the prefetch under way is for an address that has been rewritten (R191). -/
structure HostWindow where
  low : BitVec 16
  high : BitVec 16
  buffer : Word
  done : Bool
  stale : Bool
  deriving DecidableEq, Repr

/-- A forwarded host access that waits at its target (R173, R177, R184): the register and whether it is a write, its data, the bits that the chip
sets between the read and its commit, how long that commit waits, and the request that the bridge presents for it. -/
structure HostAccess where
  off : Nat
  write : Bool
  v : BitVec 16
  since : Word
  posted : Nat
  req : Req
  deriving DecidableEq, Repr

structure HostUnit where
  /-- The forwarding slots that a waiting access occupies: 0 to 2 the windows, 3 the shared one (R184). -/
  slots : List (Nat × HostAccess)
  /-- The bits that SDO carried in the latest frame, first bit first (R180, R186). -/
  sdo : List Bool
  /-- What each window keeps beside its registers (R187 to R191). -/
  windows : List (Nat × HostWindow)
  /-- The data that the latest read returned to the host. -/
  data : BitVec 16
  /-- The held set value, the latch of H_TIME_MID and H_TIME_HI, and the clock set accepted and not yet loaded (R195). -/
  timeHeld : Nat
  timeLatch : Nat
  setPending : Option Nat
  /-- The bank and the bits that the latest read of H_EVT_LO returned with its latch (R557). -/
  evtBank : Nat
  evtSeen : Word
  /-- RTC source cycles of Run at which the key was armed, and at which the watchdog's count began (R193, R196). -/
  armedAt : Nat
  wdgFrom : Nat
  deriving DecidableEq, Repr

/-! ### The whole state -/

structure State where
  /-- Commands that wait, first in, first out. -/
  pending : List Instr
  /-- Every register of deep space and of the host, by word address: what differs from its Reset value (R645). -/
  regs : List (Nat × Word)
  /-- Calico, by byte: 4 · word offset + byte (R20). -/
  calico : List Host.Cell
  /-- The vault SRAM, by byte (FAB-2, STO-4). -/
  vault : List Host.Cell
  /-- How many free values have been taken: the argument of the next one. The model's own. -/
  free : Nat
  mode : Mode
  time : TimeBase
  fab : Fabric
  evt : EventMatrix
  pins : Pins
  bypass : Bypass
  pwr : Power
  clk : Clocks
  boot : Boot
  sto : Store
  fir : Firing
  arv : Arrival
  flo : Flow
  bil : Billing
  stg : Staging
  sea : Sealed
  sec : Security
  /-- Messages delivered to NWC, oldest first. -/
  inbox : List Delivery
  con : Concentrator
  mbx : Mailbox
  pls : Pls
  rad : Radio
  lop : Loop
  loc : LocalUnit
  umb : Umbra
  hst : HostUnit
  deriving DecidableEq, Repr

/-- The machine right after the internal reset is released at the power-on start of a new part, the straps read 0 (Hub, parallel bus,
internal by-pass, no LCD): the start has been counted, in its register and in the vault, and reported in SYS_RCAUSE (R118, R149). -/
def State.reset : State where
  pending := []
  regs := [(SYS_RSTCNT.addr, 1)]
  calico := []
  vault := [(16, 1)]
  free := 0
  mode := .run
  time := { rtc := 0, presc := 0, aoTick := 0, aoPresc := 0, cyc := 0, runCyc := 0 }
  fab := { waiting := [], wheel := [], served := [], leases := [], result := [], outcome := [], latch := [], held := [],
           flushes := [], resets := [], eccSingle := [], eccDouble := [], ports := [], restarting := [], restartTicks := [] }
  evt := { raises := [], fifo := [], drops := 0, drops3 := 0, legalQ := [], legalWait := [], legalSeq := 0,
           legalSlots := 0, quotaRaised := false, queueFull := false, routed := [], legalLog := [], openLog := [],
           openSeq := 1, obank := [], reserved := 0 }
  pins := { dRole := .floating, dOut := none, csHigh := true, awaitFall := false, spareDriven := 0, spareLevel := 0, selArmed := false, waitLow := false, frzFalling := false,
            frzRising := false, resetLow := false, inputs := 0, vioHBad := false }
  bypass := { repeating := false, settling := false, joined := false, since := 0, faults := 0, waiting := none, rejoin := false }
  pwr := { pf := .none, pfVault := false, pfVbat := false, dip := false, storeCut := false, pfCut := false,
           rstoreCut := false, holdFault := false, presampleSplit := false, request := none, dozeEntry := false,
           holdWarm := false, vmainBad := false, aoReset := false, enteredAt := 0, resetPending := false, vaultLost := false, sources := 0, presample := none,
           lowSamples := 0 }
  clk := { trackers := [], hfxoGood := 0, mismatchGood := 0, lfxoFailed := false, rtcEnded := false, lpoSince := 0, tdcGood := [] }
  boot := { steps := 2, legalLoaded := false, released := 0, outcome := [], unrecalled := [], lostSets := 0, vlost := false, firstStart := true, recallRefused := false }
  sto := { sram := [], array := [], pageMeta := [], remap := [], remapCrc := 3, sealedUsed := 0, openUsed := 0, exhausted := [],
           dirty := [], copyStale := false, atBoundary := false, run := none, check := none, transfer := none, lockEnd := [], work := [], resvPending := false,
           candArray := [], candBuf := [], legalBodies := [], legalSet := 1 }
  fir := { cur := none, tails := [], queues := [], ports := [], sent := [], nextId := 0, notBefore := 0 }
  arv := { history := [], template := [], phi := [], waiting := [], resets := [] }
  flo := { queues := [], channels := [], points := [], residues := [], accrual := [] }
  bil := { loaded := false, points := [], clockSet := none }
  stg := { imm := ⟨[], 0, false, 0, 0, false⟩, dated := ⟨[], 0, false, 0, 0, false⟩, check := none, errNext := 0 }
  sea := { opening := none, openedAt := 0, sessionEnd := 0, lockEnd := none, installing := none }
  sec := { pending := [], rx := [], auth := ⟨none, false⟩, replay := ⟨none, false⟩ }
  inbox := []
  con := { toLoad := [], waiting := [], records := [], turn := 0, lastFlags := [], unacked := [], since := 0, lastEnd := 0, seenFlags := 0, noAcks := 0,
           reportAt := none, cycleAt := 0, lastRecord := [] }
  mbx := { tx := [], rx := [], part := 0, queue := [] }
  pls := { own := [], relays := [], train := none, held := none, rx := none, ackDue := none, cw := 0, idle := 0, counted := 0, recent := 0,
           quiet := 0, holdBusy := false, weak := [], pulse := none, gap := 0, seq := 0, taken := [], advert := 0, advertAt := none, costMoved := false, nbrs := [],
           upRoute := none, awaited := [] }
  rad := { own := [], relays := [], nextId := 0, active := none, ack := none, follow := none, duty := [], rsd := 0, nbrs := [],
           seen := [], window := false, wmbWindow := false, stageAt := 0, ackAt := 0, followAt := 0, windowAt := 0, wmbDue := none }
  lop := { own := [], queue := [], utog := false, dtog := none, sentUp := false, heard := 0, silent := false, line := [], aborted := false, frame := none,
           last := 0, stations := [], noReturn := 0, discover := true, discAt := 0 }
  loc := { values := [], errValue := 0, opt := ⟨.idle, 0, []⟩, onErr := false, lastPress := none,
           lastScroll := 0, test := none, down := [], long := 0, ignored := 0, outs := [] }
  umb := { frozen := false, span := 0, programming := false, ready := false, port := false, pos := 0, complete := false, past := false,
           overCnt := 0, image := [], crc := none, record := [], held := [], stopped := false, dozeWake := false, entry := 0, due := none }
  hst := { slots := [], sdo := [], windows := [], data := 0, timeHeld := 0, timeLatch := 0, setPending := none, evtBank := 0, evtSeen := 0, armedAt := 0, wdgFrom := 0 }

end Sys2Proof.Machine
end

