-- ==== Sys2Proof/Machine/Ops.lean ====
section
/-! DEFINITION. The named operations every family uses: sparse maps in canonical form, reads and writes of registers,
fields and memories, counters that hold at their maximum, raises towards the event matrix, exact arithmetic with the
spec's roundings, and the event source numbers. -/

namespace Sys2Proof.Machine

abbrev Out := Host.Outcome State Fault Refusal

/-! ### Sparse maps: keys strictly rising, no entry equal to the default -/

/-- The entry at key `k`, if one is listed. -/
def Sparse.find {α : Type} : List (Nat × α) → Nat → Option α
  | [], _ => none
  | (j, v) :: m, k => if j = k then some v else Sparse.find m k

/-- The list with `v` at key `k`, keys kept rising. -/
def Sparse.insert {α : Type} : List (Nat × α) → Nat → α → List (Nat × α)
  | [], k, v => [(k, v)]
  | (j, w) :: m, k, v =>
    if k < j then (k, v) :: (j, w) :: m else if k = j then (k, v) :: m else (j, w) :: Sparse.insert m k v

/-- The list without key `k`. -/
def Sparse.erase {α : Type} (m : List (Nat × α)) (k : Nat) : List (Nat × α) := m.filter (fun e => decide (e.1 ≠ k))

/-- Read with a default: what an unlisted key reads as is `d k`. -/
def Sparse.get {α : Type} (d : Nat → α) (m : List (Nat × α)) (k : Nat) : α := (Sparse.find m k).getD (d k)

/-- Write with a default: writing what an unlisted key reads as removes the entry. -/
def Sparse.set {α : Type} [DecidableEq α] (d : Nat → α) (m : List (Nat × α)) (k : Nat) (v : α) : List (Nat × α) :=
  if v = d k then Sparse.erase m k else Sparse.insert m k v

/-- The canonical form: keys strictly rising, and no entry equal to the default of its key. -/
def Sparse.wf {α : Type} [DecidableEq α] (d : Nat → α) : List (Nat × α) → Bool
  | [] => true
  | [(k, v)] => decide (v ≠ d k)
  | (k, v) :: (j, w) :: m => decide (v ≠ d k) && decide (k < j) && Sparse.wf d ((j, w) :: m)

/-! ### Memories: bytes, an unlisted one reads 0 -/

/-- DESIGN CHOICE (log 27). -/
def zeroByte (_ : Nat) : Byte := 0

/-- The canonical form of a memory. -/
def Memory.wf (m : List Host.Cell) : Bool := Sparse.wf zeroByte m

def Memory.byte (m : List Host.Cell) (a : Nat) : Byte := Sparse.get zeroByte m a
def Memory.setByte (m : List Host.Cell) (a : Nat) (b : Byte) : List Host.Cell := Sparse.set zeroByte m a b

/-- The little-endian 32-bit word at byte address `a` (R11). -/
def Memory.word (m : List Host.Cell) (a : Nat) : Word :=
  (Memory.byte m (a + 3) ++ Memory.byte m (a + 2) ++ Memory.byte m (a + 1) ++ Memory.byte m a : BitVec 32)

def Memory.setWord (m : List Host.Cell) (a : Nat) (w : Word) : List Host.Cell :=
  Memory.setByte (Memory.setByte (Memory.setByte (Memory.setByte m a (w.extractLsb' 0 8)) (a + 1) (w.extractLsb' 8 8))
    (a + 2) (w.extractLsb' 16 8)) (a + 3) (w.extractLsb' 24 8)

/-- Bytes `a`, …, `a + n − 1`. -/
def Memory.bytes (m : List Host.Cell) (a n : Nat) : List Byte := (List.range n).map (fun j => Memory.byte m (a + j))

def Memory.setBytes (m : List Host.Cell) (a : Nat) : List Byte → List Host.Cell
  | [] => m
  | b :: bs => Memory.setBytes (Memory.setByte m a b) (a + 1) bs

/-- The number that little-endian bytes spell. -/
def leNat : List Byte → Nat
  | [] => 0
  | b :: bs => b.toNat + 256 * leNat bs

/-- `n` little-endian bytes of a number. -/
def leBytes : Nat → Nat → List Byte
  | 0, _ => []
  | n + 1, v => BitVec.ofNat 8 v :: leBytes n (v / 256)

/-! ### Registers -/

/-- The live word at address `a`: the listed one, or its Reset value. -/
def State.rd (s : State) (a : Nat) : Word := Sparse.get resetWord s.regs a

def State.wr (s : State) (a : Nat) (w : Word) : State := { s with regs := Sparse.set resetWord s.regs a w }

/-- The bits `f` of a word, as a number. -/
def Fd.of (f : Fd) (w : Word) : Nat := w.toNat / 2 ^ f.lo % 2 ^ (f.hi + 1 - f.lo)

/-- The word with the bits `f` replaced by the low bits of `v`. -/
def Fd.into (f : Fd) (w : Word) (v : Nat) : Word :=
  (w &&& ~~~ bitMask f.hi f.lo) ||| (BitVec.ofNat 32 v <<< f.lo &&& bitMask f.hi f.lo)

def Fd.max (f : Fd) : Nat := 2 ^ (f.hi + 1 - f.lo) - 1

/-- The value of a field, unsigned. -/
def State.get (s : State) (f : Fd) : Nat := f.of (s.rd f.addr)

/-- Is a one-bit field 1? -/
def State.on (s : State) (f : Fd) : Bool := s.get f != 0

/-- The value of a field, two's complement (R12). -/
def State.getI (s : State) (f : Fd) : Int :=
  let v := s.get f
  if f.max < 2 * v then (v : Int) - (f.max + 1 : Nat) else (v : Int)

/-- A field written by the chip. -/
def State.put (s : State) (f : Fd) (v : Nat) : State := s.wr f.addr (f.into (s.rd f.addr) v)

def State.putB (s : State) (f : Fd) (b : Bool) : State := s.put f b.toNat

/-- A field written with a two's complement value (R12). -/
def State.putI (s : State) (f : Fd) (v : Int) : State := s.put f (v % ((f.max : Int) + 1)).toNat

/-- A count that holds at its maximum. -/
def State.bumpBy (s : State) (f : Fd) (n : Nat) : State := s.put f (min f.max (s.get f + n))

def State.bump (s : State) (f : Fd) : State := s.bumpBy f 1

/-- A count of failed attempts, 0 to 8 (Tables STO-8 and SEA-9). -/
def State.countFail (s : State) (f : Fd) : State := s.put f (min 8 (s.get f + 1))

/-- A peak: the field rises to `v` where `v` is larger. -/
def State.peak (s : State) (f : Fd) (v : Nat) : State := s.put f (min f.max (max v (s.get f)))

/-- The two-word quantity whose low word stands at `a` (R11). -/
def State.get2 (s : State) (a : Nat) : Nat := (s.rd a).toNat + 2 ^ 32 * (s.rd (a + 1)).toNat

def State.put2 (s : State) (a : Nat) (v : Nat) : State :=
  (s.wr a (BitVec.ofNat 32 v)).wr (a + 1) (BitVec.ofNat 32 (v / 2 ^ 32))

/-- Registers `a`, …, `a + n − 1` at their Reset values. -/
def State.clearRange (s : State) (lo hi : Nat) : State :=
  { s with regs := s.regs.filter (fun e => !(decide (lo ≤ e.1) && decide (e.1 ≤ hi))) }

/-- The profile strap (R2): true in the Pod. -/
def State.pod (s : State) : Bool := s.on SYS_STRAP.PROFILE

/-- A next state. DESIGN CHOICE (log 1). -/
def go (s : State) : Out := .next s

/-- A fresh value that the spec leaves open, and the state that has taken it. DESIGN CHOICE (log 29). -/
def State.fresh (s : State) : Word × State := (Config.freeWord s.free, { s with free := s.free + 1 })

/-! ### Time -/

/-- µs of a count of RTC source cycles, 32,768 in a second. DESIGN CHOICE (log 30). -/
def cycUs (c : Nat) : Nat := c * 15625 / 512

/-- µs during which the Twill clock has run (R36). -/
def State.runUs (s : State) : Nat := cycUs s.time.runCyc

/-- µs in all. -/
def State.us (s : State) : Nat := cycUs s.time.cyc

/-! ### Raises -/

/-- A block raises source `src`: it is held at its handshake; a further raise before the matrix takes it merges with it
(R128). A raise that carries the data of a log entry is kept apart, for an entry is made at each such raise
(R562). -/
def State.raiseWith (s : State) (src : Nat) (data : List Word) : State :=
  { s with evt := { s.evt with raises :=
      (if data.isEmpty then s.evt.raises.filter (fun r => !(r.src == src && r.data.isEmpty)) else s.evt.raises) ++ [⟨src, data⟩] } }

def State.raise (s : State) (src : Nat) : State := s.raiseWith src []

def State.raiseIf (s : State) (b : Bool) (src : Nat) : State := if b then s.raise src else s

/-! ### Lists -/

/-- The list with `f` at each position, left to right (a loop over an index range). -/
def State.forEach {α : Type} (xs : List α) (f : State → α → State) (s : State) : State := xs.foldl f s

/-- Every element but the first that satisfies `p`. -/
def eraseFirst {α : Type} (p : α → Bool) : List α → List α
  | [] => []
  | x :: xs => if p x then xs else x :: eraseFirst p xs

/-- The elements at which `f` is largest come first wins: the first element with the least key. DESIGN CHOICE (log 35). -/
def minBy {α : Type} (f : α → Nat) : List α → Option α
  | [] => none
  | x :: xs =>
    match minBy f xs with
    | none => some x
    | some y => if f x ≤ f y then some x else some y

/-! ### Exact arithmetic and the spec's roundings -/

/-- The quotient rounded to the nearest unit, half-way away from zero (R646). -/
def roundDiv (n : Int) (d : Nat) : Int :=
  if 0 ≤ n then (2 * n + d) / (2 * d) else -((2 * -n + d) / (2 * d))

/-- The quotient truncated towards zero. -/
def truncDiv (n : Int) (d : Nat) : Int := if 0 ≤ n then n / d else -(-n / d)

/-- `v` held within `lo` to `hi`. -/
def clampI (lo hi v : Int) : Int := if v < lo then lo else if hi < v then hi else v

/-- One bit of the square root at a time, from bit `fuel − 1` down. -/
def isqrtFrom : Nat → Nat → Nat → Nat
  | 0, _, r => r
  | k + 1, n, r =>
    let c := r + 2 ^ k
    isqrtFrom k n (if c * c ≤ n then c else r)

/-- The integer square root, rounded down, of a number below 2^256. -/
def isqrt (n : Nat) : Nat := isqrtFrom 128 n 0

/-! ### CRCs -/

/-- One byte through a CRC of width `w`, most significant bit first. -/
def crcStepMsb (w poly : Nat) : Nat → Nat → Nat
  | 0, c => c
  | k + 1, c =>
    let c2 := c * 2 % 2 ^ w
    crcStepMsb w poly k (if c / 2 ^ (w - 1) % 2 = 1 then Nat.xor c2 poly else c2)

/-- One byte through a reflected CRC. -/
def crcStepLsb (poly : Nat) : Nat → Nat → Nat
  | 0, c => c
  | k + 1, c => crcStepLsb poly k (if c % 2 = 1 then Nat.xor (c / 2) poly else c / 2)

/-- CRC-8, polynomial 0x07, initial 0xFF (R182). -/
def crc8 (bs : List Byte) : Nat := bs.foldl (fun c b => crcStepMsb 8 0x07 8 (Nat.xor c b.toNat)) 0xFF

/-- CRC-16, polynomial 0x1021, initial 0xFFFF, not reflected, not inverted (R435). -/
def crc16 (bs : List Byte) : Nat := bs.foldl (fun c b => crcStepMsb 16 0x1021 8 (Nat.xor c (b.toNat * 256))) 0xFFFF

/-- CRC-32 of R332: reflected polynomial 0xEDB88320, initial 0xFFFF_FFFF, inverted at the end. -/
def crc32 (bs : List Byte) : Nat :=
  Nat.xor (bs.foldl (fun c b => crcStepLsb 0xEDB88320 8 (Nat.xor c b.toNat)) 0xFFFFFFFF) 0xFFFFFFFF

/-- The little-endian bytes of words. -/
def wordBytes (ws : List Word) : List Byte := ws.flatMap (fun w => leBytes 4 w.toNat)

/-! ### Event source numbers, s = 32b + i of bank EBb bit i (R552), from the event tables that close chapters 01 to 22 -/

def Ev.METER_READY : Nat := 0
def Ev.RECALL_SETTLED : Nat := 1
def Ev.RECALL_FWD : Nat := 2
def Ev.RECALL_BACK : Nat := 3
def Ev.RECALL_CUT : Nat := 4
def Ev.RECALL_LOST : Nat := 5
def Ev.LEGAL_ROLLBACK : Nat := 6
def Ev.BOOT_FAIL : Nat := 7
def Ev.RSTORE_CUT : Nat := 8
def Ev.STRAP_SPLIT : Nat := 9
def Ev.RTC_END : Nat := 10
def Ev.START : Nat := 11
def Ev.PF_DECLARED : Nat := 32
def Ev.PF_RIDE : Nat := 33
def Ev.PF_CUT : Nat := 34
def Ev.MAINS_BACK : Nat := 35
def Ev.BATLOW : Nat := 36
def Ev.BATEND : Nat := 37
def Ev.VIOL_LOSS : Nat := 38
def Ev.VIOH_LOSS : Nat := 39
def Ev.VDRV_FAULT : Nat := 40
def Ev.HOLD_FAULT : Nat := 41
def Ev.VLOST : Nat := 42
def Ev.MODE_REFUSED : Nat := 43
def Ev.LFXO_FAIL : Nat := 64
def Ev.LFXO_BACK : Nat := 65
def Ev.HFXO_FAIL : Nat := 66
def Ev.HFXO_BACK : Nat := 67
def Ev.SPLL_UNLOCK : Nat := 68
def Ev.EPLL_UNLOCK : Nat := 69
def Ev.TDC_RANGE : Nat := 70
def Ev.LPO_RANGE : Nat := 71
def Ev.XO_MISMATCH : Nat := 72
def Ev.ZC_LOCK : Nat := 73
def Ev.ZC_LOST : Nat := 74
def Ev.ZC_IGNORED : Nat := 75
def Ev.QUEUE_DROP : Nat := 76
def Ev.REVOKE : Nat := 96
def Ev.FENCE_SET : Nat := 97
def Ev.FENCE_CLEAR : Nat := 98
def Ev.PF_REVOKE : Nat := 99
def Ev.ECC_CORR : Nat := 100
def Ev.ECC_UNCORR : Nat := 101
def Ev.SEALED_REFUSE : Nat := 102
def Ev.DECODE_REFUSE : Nat := 103
def Ev.BUSY_REFUSE : Nat := 104
def Ev.CMD_DONE : Nat := 640
def Ev.CMD_REFUSED : Nat := 641
def Ev.SPARE_USED : Nat := 642
def Ev.SPARE_LOW : Nat := 643
def Ev.PROGRAM_RETRY : Nat := 644
def Ev.ACCESS_DENIED : Nat := 645
def Ev.LOCKOUT_STO : Nat := 646
def Ev.TRANSFER_CLOSED : Nat := 647
def Ev.FABRIC_REFUSED : Nat := 648
def Ev.RESV_STORED : Nat := 649
def Ev.TRAIN_SENT : Nat := 704
def Ev.TRAIN_ABANDONED : Nat := 705
def Ev.TX_PAUSE : Nat := 706
def Ev.TX_RESUME : Nat := 707
def Ev.TX_FAULT : Nat := 708
def Ev.FRAME_RX : Nat := 709
def Ev.FEC_FAIL : Nat := 710
def Ev.HCS_FAIL : Nat := 711
def Ev.PLS_NO_ACK : Nat := 712
def Ev.GAP_ERASED : Nat := 713
def Ev.ROUTE_CHANGE : Nat := 736
def Ev.ROUTE_BROKEN : Nat := 737
def Ev.ROUTE_FULL : Nat := 738
def Ev.PLS_NBR_NEW : Nat := 739
def Ev.NBR_LOST : Nat := 740
def Ev.PLS_RELAY_DROP : Nat := 741
def Ev.PLS_TTL_DROP : Nat := 742
def Ev.CAND_SWITCH : Nat := 743
def Ev.RATE_UP : Nat := 744
def Ev.RATE_DOWN : Nat := 745
def Ev.PLS_RX_DROP : Nat := 746
def Ev.TX_DONE : Nat := 768
def Ev.RX_FRAME : Nat := 769
def Ev.CRC_FAIL : Nat := 770
def Ev.RAD_NO_ACK : Nat := 771
def Ev.CCA_FAIL : Nat := 772
def Ev.DUTY_DEFER : Nat := 773
def Ev.RX_DROP : Nat := 774
def Ev.WMB_RX : Nat := 775
def Ev.GLINT_MATCH : Nat := 800
def Ev.GLINT_FALSE : Nat := 801
def Ev.RELAY_QUEUED : Nat := 832
def Ev.RELAY_SENT : Nat := 833
def Ev.RELAY_DROP : Nat := 834
def Ev.RELAY_DELAY : Nat := 835
def Ev.TTL_DROP : Nat := 836
def Ev.SUPPRESSED : Nat := 837
def Ev.OWN_REFUSED : Nat := 838
def Ev.SEQ_DUP : Nat := 864
def Ev.SEQ_OLD : Nat := 865
def Ev.NBR_NEW : Nat := 866
def Ev.NBR_EVICT : Nat := 867
def Ev.RESEED : Nat := 868
def Ev.SEC_CTR_END : Nat := 896
def Ev.CTR_LOST : Nat := 897
def Ev.KEY_UPDATED : Nat := 898
def Ev.RESV_WAIT : Nat := 899
def Ev.AUTH_FAIL : Nat := 900
def Ev.REPLAY : Nat := 901
def Ev.RXTAB_EVICT : Nat := 902
def Ev.VAULT_ONLY : Nat := 903
def Ev.CTR_LOW : Nat := 904
def Ev.BYPASS_FAULT : Nat := 928
def Ev.JOINED : Nat := 929
def Ev.LEFT : Nat := 930
def Ev.STATION_SET : Nat := 931
def Ev.NO_STATION : Nat := 932
def Ev.RING_LOST : Nat := 933
def Ev.RING_BACK : Nat := 934
def Ev.VIOLATION : Nat := 935
def Ev.FRAME_FAIL : Nat := 936
def Ev.LATE_RETURN : Nat := 937
def Ev.LOOP_NO_ACK : Nat := 938
def Ev.LOOP_RX_DROP : Nat := 939
def Ev.LOOP_SILENT : Nat := 940
def Ev.DUAL_MASTER : Nat := 941
def Ev.LOOP_OWN_REFUSED : Nat := 942
def Ev.OPT_READOUT : Nat := 960
def Ev.OPT_ERROR : Nat := 961
def Ev.OPT_VS_REQ : Nat := 962
def Ev.BTN0 : Nat := 963
def Ev.BTN1 : Nat := 964
def Ev.BTN2 : Nat := 965
def Ev.BTN3 : Nat := 966
def Ev.BTN_LONG : Nat := 967
def Ev.PO_OVERRUN0 : Nat := 968
def Ev.PO_OVERRUN1 : Nat := 969
def Ev.PO_OVERRUN2 : Nat := 970
def Ev.PO_OVERRUN3 : Nat := 971
def Ev.DISPLAY_ON : Nat := 972
def Ev.VALUE_OVF : Nat := 973
def Ev.OPEN_OVERFLOW : Nat := 992
def Ev.LEGAL_QUOTA : Nat := 993
def Ev.LEGAL_QUEUE_FULL : Nat := 994
def Ev.PROGRAM_FAIL : Nat := 995
def Ev.OPEN_WRAP : Nat := 996
def Ev.VSW_CHANGE : Nat := 1024
def Ev.SESSION_OPEN : Nat := 1025
def Ev.SESSION_DENIED : Nat := 1026
def Ev.SESSION_CLOSE : Nat := 1027
def Ev.LOCKOUT : Nat := 1028
def Ev.CTR_CHARGED : Nat := 1029
def Ev.CTR_END : Nat := 1030
def Ev.LOG_FULL : Nat := 1031
def Ev.LEGAL_ALARM : Nat := 1032
def Ev.PATCH_INSTALLED : Nat := 1033
def Ev.PATCH_REFUSED : Nat := 1034
def Ev.FRZ_ENTER : Nat := 1040
def Ev.FRZ_RESUME : Nat := 1041
def Ev.UMB_COMPLETE : Nat := 1042
def Ev.UMB_OVER : Nat := 1043
def Ev.UMB_ABANDON : Nat := 1044
def Ev.SPAN_END : Nat := 1045
def Ev.FRZ_IGNORED : Nat := 1046
def Ev.FRZ_PF : Nat := 1047
def Ev.FRZ_RESET : Nat := 1048
def Ev.STG_CHECKED : Nat := 1056
def Ev.STG_SCHEDULED : Nat := 1057
def Ev.STG_APPLIED : Nat := 1058
def Ev.STG_REFUSED : Nat := 1059
def Ev.STG_DISCARDED : Nat := 1060
def Ev.STG_IGNORED : Nat := 1061
def Ev.STG_FULL : Nat := 1062
def Ev.STG_LATE : Nat := 1063
def Ev.STG_LOST : Nat := 1064
def Ev.HOST_REFUSED : Nat := 1088
def Ev.HOST_DELAYED : Nat := 1089
def Ev.SER_CRC : Nat := 1090
def Ev.SER_SHORT : Nat := 1091
def Ev.SER_EXTRA : Nat := 1092
def Ev.MBOX_RX : Nat := 1093
def Ev.MBOX_TXEMPTY : Nat := 1094
def Ev.MBOX_DROP : Nat := 1095
def Ev.HOST_WDG : Nat := 1096
def Ev.KEY_REFUSE : Nat := 1097
def Ev.TIME_SET : Nat := 1098
def Ev.EPOCH_DONE (k : Nat) : Nat := 128 + 64 * k
def Ev.EPOCH_INCOMPLETE (k : Nat) : Nat := 129 + 64 * k
def Ev.TAIL_OVERRUN (k : Nat) : Nat := 130 + 64 * k
def Ev.QUEUE_OVERRUN (k : Nat) : Nat := 131 + 64 * k
def Ev.NOT_FIRED (k : Nat) : Nat := 132 + 64 * k
def Ev.SHOT_DISCARDED (k : Nat) : Nat := 133 + 64 * k
def Ev.DRIVE_FAULT (k : Nat) : Nat := 134 + 64 * k
def Ev.AMP_CLIP (k : Nat) : Nat := 135 + 64 * k
def Ev.CAL_FAIL (k : Nat) : Nat := 160 + 64 * k
def Ev.SATURATED (k : Nat) : Nat := 161 + 64 * k
def Ev.LOW_AMP (k : Nat) : Nat := 162 + 64 * k
def Ev.NO_ARRIVAL (k : Nat) : Nat := 163 + 64 * k
def Ev.EDGE (k : Nat) : Nat := 164 + 64 * k
def Ev.AMBIGUOUS (k : Nat) : Nat := 165 + 64 * k
def Ev.DISTURBED (k : Nat) : Nat := 166 + 64 * k
def Ev.CYCLE_SKIP (k : Nat) : Nat := 167 + 64 * k
def Ev.REANCHOR (k : Nat) : Nat := 168 + 64 * k
def Ev.TEMPLATE (k : Nat) : Nat := 169 + 64 * k
def Ev.PATH_LOSS (p : Nat) : Nat := 384 + p
def Ev.REJECT_RUN (p : Nat) : Nat := 416 + p
def Ev.T_OVERLOAD (c : Nat) : Nat := 448 + c
def Ev.T_FAULT (c : Nat) : Nat := 464 + c
def Ev.B_OVERLOAD (k : Nat) : Nat := 480 + k
def Ev.B_FAULT (k : Nat) : Nat := 484 + k
def Ev.REF_FAULT : Nat := 488
def Ev.SOS_NONE : Nat := 496
def Ev.MEDIUM_CHANGE : Nat := 497
def Ev.MEDIUM_UNKNOWN : Nat := 498
def Ev.H2_HIGH : Nat := 499
def Ev.H2_RANGE : Nat := 500
def Ev.EPOCH_FAILED (i : Nat) : Nat := 512 + 8 * i
def Ev.SUBSTITUTED (i : Nat) : Nat := 513 + 8 * i
def Ev.FALLBACK (i : Nat) : Nat := 514 + 8 * i
def Ev.FIT_RESID (i : Nat) : Nat := 515 + 8 * i
def Ev.REVERSE (i : Nat) : Nat := 516 + 8 * i
def Ev.QMAX (i : Nat) : Nat := 517 + 8 * i
def Ev.LATE_PAIR (i : Nat) : Nat := 518 + 8 * i
def Ev.MP_PUBLISHED (i : Nat) : Nat := 544 + 8 * i
def Ev.DT_NEG (i : Nat) : Nat := 545 + 8 * i
def Ev.TEMP_FAULT (i : Nat) : Nat := 546 + 8 * i
def Ev.PRESS_FAULT (i : Nat) : Nat := 547 + 8 * i
def Ev.POWER_SAT (i : Nat) : Nat := 548 + 8 * i
def Ev.TARIFF_CHANGE (i : Nat) : Nat := 576 + 4 * i
def Ev.DEMAND_DONE (i : Nat) : Nat := 577 + 4 * i
def Ev.MD_NEW (i : Nat) : Nat := 578 + 4 * i
def Ev.SEASON_CHANGE : Nat := 592
def Ev.DST_CHANGE : Nat := 593
def Ev.CAL_ACTIVATED : Nat := 594
def Ev.CLOSE (i : Nat) : Nat := 608 + i
def Ev.TR_RESET (i : Nat) : Nat := 612 + i
def Ev.CLOSE_MISSED : Nat := 616
def Ev.BIL_REFUSED : Nat := 617
def Ev.STORE_DONE (n : Nat) : Nat := 672 + n
def Ev.REGION_END (n : Nat) : Nat := 688 + n
def Ev.CORE_RESTART (c : Nat) : Nat := 1120 + c
def Ev.CORE_WDG (c : Nat) : Nat := 1123 + c
def Ev.CORE_HALT : Nat := 1126
def Ev.LGC_CRC_FAIL : Nat := 1127
def Ev.HBR_RESET : Nat := 1128
def Ev.TARGET_FLUSH : Nat := 1129
def Ev.POD_JOINED : Nat := 1136
def Ev.JOIN_REFUSED : Nat := 1137
def Ev.POD_SILENT : Nat := 1138
def Ev.READING_LOST : Nat := 1139
def Ev.FWD_FAILOVER : Nat := 1140
def Ev.FWD_DONE : Nat := 1141
def Ev.HELD_EXPIRED : Nat := 1142
def Ev.JOIN_OK : Nat := 1143
def Ev.HUB_LOST : Nat := 1144
def Ev.REPORT_SENT : Nat := 1145
def Ev.TRANSIT_DROP : Nat := 1146

end Sys2Proof.Machine
end

