-- ==== Sys2Proof/Machine/Num.lean ====
section
/-! DEFINITION. Exact arithmetic for the measured results: rationals with the spec's roundings, square root, cosine and π to
2^−64, least squares by elimination, and water by IAPWS-IF97 region 1 (R303).
DESIGN CHOICE (log 24): the spec states its formulas over the real numbers and no working precision; here they are exact,
but for √, cos, phases and π, which are taken to 2^−64. -/

namespace Sys2Proof.Machine

/-- Rounded to the nearest unit, half-way away from zero (R646). -/
def roundQ (x : Rat) : Int := roundDiv x.num x.den

/-- The 2^−64 grid. -/
def gridQ (x : Rat) : Rat := mkRat (x.num * 2 ^ 64 / x.den) (2 ^ 64)

/-- Square root of a non-negative rational, rounded down on the grid. -/
def sqrtQ (x : Rat) : Rat := mkRat (isqrt (x.num.toNat * 2 ^ 128 / x.den)) (2 ^ 64)

/-- The square root rounded to the nearest whole number. -/
def roundSqrt (x : Rat) : Nat := (isqrt (4 * x.num.toNat / x.den) + 1) / 2

def absQ (x : Rat) : Rat := if x < 0 then -x else x

/-- π, rounded down to 2^−64. -/
def piQ : Rat := mkRat 57952155664616982739 (2 ^ 64)

/-- Σ x^(2k) (−1)^k / (2k + o)! from k = 0, `n` terms, on the grid, with `t` the running term. -/
def trigSeries (x2 : Rat) : Nat → Nat → Rat → Rat
  | 0, _, _ => 0
  | n + 1, k, t => t + trigSeries x2 n (k + 2) (gridQ (-t * x2 / mkRat ((k + 1) * (k + 2) : Nat) 1))

/-- Cosine and sine of `k` / 65,536 turn, k below 8,192 (an eighth of a turn). -/
def cosOctant (k : Nat) : Rat :=
  let x := gridQ (2 * piQ * mkRat k 65536)
  trigSeries (gridQ (x * x)) 14 0 1
def sinOctant (k : Nat) : Rat :=
  let x := gridQ (2 * piQ * mkRat k 65536)
  trigSeries (gridQ (x * x)) 14 1 x

/-- Cosine of `k` / 65,536 turn. -/
def cosTurn (k : Nat) : Rat :=
  let k := k % 65536
  let k := if 32768 < k then 65536 - k else k
  let neg := decide (16384 < k)
  let k := if neg then 32768 - k else k
  let c := if k ≤ 8192 then cosOctant k else sinOctant (16384 - k)
  if neg then -c else c

def sinTurn (k : Nat) : Rat := cosTurn (k + 49152)

/-- Σ x^(2k + 1) (−1)^k / (2k + 1) from k, `n` terms, on the grid, with `t` the running power. -/
def atanSeries (x2 : Rat) : Nat → Nat → Rat → Rat
  | 0, _, _ => 0
  | n + 1, k, t => t / mkRat k 1 + atanSeries x2 n (k + 2) (gridQ (-t * x2))

/-- The arc tangent of 0 ≤ x ≤ 1 in turns: the angle is halved twice, to below 1/32 turn. -/
def atanUnit (x : Rat) : Rat :=
  let half (y : Rat) : Rat := gridQ (y / (1 + sqrtQ (1 + y * y)))
  let y := half (half x)
  gridQ (4 * atanSeries (gridQ (y * y)) 16 1 y / (2 * piQ))

/-- The phase of x + i·y in turns, above −1/2 and at most 1/2; 0 for 0. -/
def phaseTurn (x y : Rat) : Rat :=
  let ax := absQ x
  let ay := absQ y
  let a := if ax = 0 ∧ ay = 0 then 0 else if ay ≤ ax then atanUnit (ay / ax) else mkRat 1 4 - atanUnit (ax / ay)
  let a := if x < 0 then mkRat 1 2 - a else a
  if y < 0 then -a else a

/-! ### Least squares -/

def dotQ : List Rat → List Rat → Rat
  | x :: xs, y :: ys => x * y + dotQ xs ys
  | _, _ => 0

/-- `r − f · p`, entry by entry. -/
def axpyQ (f : Rat) : List Rat → List Rat → List Rat
  | x :: xs, y :: ys => (x - f * y) :: axpyQ f xs ys
  | _, _ => []

/-- The rows with the first one whose head is not 0 in front. -/
def pivotRow : List (List Rat) → Option (List Rat × List (List Rat))
  | [] => none
  | r :: rs =>
    if r.headD 0 ≠ 0 then some (r, rs)
    else match pivotRow rs with
      | none => none
      | some (p, others) => some (p, r :: others)

/-- Solve `n` equations, rows `coefficients ++ [right-hand side]`, by elimination; none where they are singular. -/
def solveRows : Nat → List (List Rat) → Option (List Rat)
  | 0, _ => some []
  | n + 1, rows =>
    match pivotRow rows with
    | none => none
    | some (p, others) =>
      let h := p.headD 1
      let below := others.map (fun r => (axpyQ (r.headD 0 / h) r p).drop 1)
      match solveRows n below with
      | none => none
      | some xs => some (((p.getLastD 0) - dotQ xs (p.drop 1)) / h :: xs)

/-! ### Water: IAPWS-IF97 region 1. PRESUMED (log 25): the coefficients are those of the IAPWS release, which R303 names
and does not print. -/

/-- I, J, and n as a numerator over a power of ten. -/
def if97Rows1 : List (Nat × Int × Int × Nat) :=
  [(0, -2, 14632971213167, 14), (0, -1, -84548187169114, 14), (0, 0, -37563603672040, 13), (0, 1, 33855169168385, 13),
   (0, 2, -95791963387872, 14), (0, 3, 15772038513228, 14), (0, 4, -16616417199501, 15), (0, 5, 81214629983568, 17),
   (1, -9, 28319080123804, 17), (1, -7, -60706301565874, 17), (1, -1, -18990068218419, 15), (1, 0, -32529748770505, 15),
   (1, 1, -21841717175414, 15), (1, 3, -52838357969930, 18), (2, -3, -47184321073267, 17), (2, 0, -30001780793026, 17),
   (2, 1, 47661393906987, 18)]
def if97Rows2 : List (Nat × Int × Int × Nat) :=
  [(2, 3, -44141845330846, 19), (2, 17, -72694996297594, 29), (3, -4, -31679644845054, 18), (3, 0, -28270797985312, 19),
   (3, 6, -85205128120103, 23), (4, -5, -22425281908000, 19), (4, -2, -65171222895601, 20), (4, 10, -14341729937924, 26),
   (5, -8, -40516996860117, 20), (8, -11, -12734301741641, 22), (8, -6, -17424871230634, 23),
   (21, -29, -68762131295531, 32), (23, -31, 14478307828521, 33), (29, -38, 26335781662795, 36),
   (30, -39, -11947622640071, 36), (31, -40, 18228094581404, 37), (32, -41, -93537087292458, 39)]
def if97Rows : List (Nat × Int × Int × Nat) := if97Rows1 ++ if97Rows2

/-- `x` to a signed power, on the grid. -/
def powQ (x : Rat) (j : Int) : Rat := if 0 ≤ j then x ^ j.toNat else (1 / x) ^ (-j).toNat

/-- The reduced pressure and temperature terms of p in Pa and the absolute temperature in 10 µK. -/
def if97Pi (p : Int) : Rat := mkRat p 16530000
def if97Tau (t : Int) : Rat := mkRat 138600000 1 / mkRat t 1

/-- Specific enthalpy, kJ/kg. PRESUMED (log 25). -/
def waterEnthalpy (t p : Int) : Rat :=
  let a := mkRat 71 10 - if97Pi p
  let b := if97Tau t - mkRat 1222 1000
  let g := if97Rows.foldl (fun g (i, j, n, e) => if j = 0 then g else
    g + mkRat n (10 ^ e) * mkRat j 1 * a ^ i * powQ b (j - 1)) 0
  mkRat 461526 1000000 * mkRat t 100000 * if97Tau t * g

/-- Density, kg/m³. -/
def waterDensity (t p : Int) : Rat :=
  let a := mkRat 71 10 - if97Pi p
  let b := if97Tau t - mkRat 1222 1000
  let g := if97Rows.foldl (fun g (i, j, n, e) => if i = 0 then g else
    g - mkRat n (10 ^ e) * mkRat i 1 * a ^ (i - 1) * powQ b j) 0
  mkRat p 1000 / (mkRat 461526 1000000 * mkRat t 100000 * if97Pi p * g)

end Sys2Proof.Machine
end

