-- ==== Sys2Proof/Machine/Schedule.lean ====
section
/-! DEFINITION. Reading a configuration by its words, and what chapter 08 derives from one: the paths, the firing units
(R237), the receive channels (R233), the code lengths (Table FIR-1), the burst codes (R235) and the epoch schedule (R243). -/

namespace Sys2Proof.Machine

/-! ### A configuration: what each word reads as -/

/-- A field of a configuration. -/
def vget (v : Nat → Word) (f : Fd) : Nat := f.of (v f.addr)
def von (v : Nat → Word) (f : Fd) : Bool := vget v f != 0
/-- A field of a configuration, two's complement (R12). -/
def vgetI (v : Nat → Word) (f : Fd) : Int :=
  let x := vget v f
  if f.max < 2 * x then (x : Int) - (f.max + 1 : Nat) else (x : Int)

/-- The configuration that a list of register words spells. -/
def viewOf (regs : List (Nat × Word)) (a : Nat) : Word := Sparse.get resetWord regs a

def State.view (s : State) : Nat → Word := s.rd

/-- `x` into a list in ascending order of `f`, behind its equals. -/
def insertBy {α : Type} (f : α → Nat) (x : α) : List α → List α
  | [] => [x]
  | y :: ys => if f x < f y then x :: y :: ys else y :: insertBy f x ys

/-- Sorted by `f`, equals in their order. -/
def sortBy {α : Type} (f : α → Nat) (xs : List α) : List α := xs.foldl (fun acc x => insertBy f x acc) []

def maxOf (xs : List Nat) : Nat := xs.foldl max 0

/-! ### Paths and units -/

/-- How many paths, engines, channels the profile has (Table SCO-1). -/
def pathCount (pod : Bool) : Nat := if pod then 4 else 32
def portCount (pod : Bool) : Nat := if pod then 8 else 64
def mpCount (pod : Bool) : Nat := if pod then 1 else 4
def rtdCount (pod : Bool) : Nat := if pod then 4 else 16
def bridgeCount (pod : Bool) : Nat := if pod then 1 else 4

def enabledPaths (pod : Bool) (v : Nat → Word) : List Nat :=
  (List.range (pathCount pod)).filter (fun p => von v (FIR_PATH_A.EN p))

/-- The engine that serves a path: PORTA / 16 (R232). -/
def pathEngine (v : Nat → Word) (p : Nat) : Nat := vget v (FIR_PATH_A.PORTA p) / 16

/-- The firing units, by lowest path (R237): each a list of paths, ascending. -/
def firingUnits (pod : Bool) (v : Nat → Word) : List (List Nat) :=
  let ps := enabledPaths pod v
  let grp (p : Nat) := vget v (FIR_PATH_A.GROUP p)
  ps.filterMap (fun p =>
    if grp p = 0 then some [p]
    else
      let us := ps.filter (fun q => grp q == grp p)
      if us.head? = some p then some us else none)

def unitEngines (v : Nat → Word) (u : List Nat) : List Nat :=
  (List.range 4).filter (fun e => u.any (fun p => pathEngine v p == e))

/-- The receive channel of member `p` of unit `u`: RX(4k + j) with j its rank among the members of engine k (R233). -/
def pathRx (v : Nat → Word) (u : List Nat) (p : Nat) : Nat :=
  4 * pathEngine v p + (u.filter (fun q => pathEngine v q == pathEngine v p && decide (q < p))).length % 4

/-- The unit that path `p` fires in. -/
def unitOf (pod : Bool) (v : Nat → Word) (p : Nat) : List Nat :=
  ((firingUnits pod v).find? (fun u => u.contains p)).getD [p]

/-- w(u) and g(u), µs (R239). -/
def unitW (v : Nat → Word) (u : List Nat) : Nat :=
  maxOf (u.map (fun p => vget v (FIR_PATH_B.WOPEN p) + vget v (FIR_PATH_B.WLEN p)))
def unitG (v : Nat → Word) (u : List Nat) : Nat := maxOf (u.map (fun p => 10 * vget v (FIR_PATH_C.GAP p)))

/-- PAIRS of a unit: the largest among its members (R243). -/
def unitPairs (v : Nat → Word) (u : List Nat) : Nat := maxOf (u.map (fun p => vget v (FIR_PATH_A.PAIRS p)))

/-! ### Bursts -/

/-- The burst profile of a path: its engine and its number. -/
def pathBurst (v : Nat → Word) (p : Nat) : Nat × Nat := (pathEngine v p, vget v (FIR_PATH_A.BURST p))

/-- The length of a burst in carrier cycles (Table FIR-1). -/
def burstCycles (v : Nat → Word) (k b : Nat) : Nat :=
  let cpc := vget v (ECH_BURST0.CPC k b) + 1
  match vget v (ECH_BURST0.TYPE k b) with
  | 1 => 13 * cpc
  | 2 => 31 * cpc
  | _ => vget v (ECH_BURST0.CYC k b)

/-- Chips `i` … of the two sequences of R235, five elements at a time. -/
def goldFrom (next : Bool → Bool → Bool → Bool → Bool → Bool) : Nat → Bool → Bool → Bool → Bool → Bool → List Bool
  | 0, _, _, _, _, _ => []
  | n + 1, a, b, c, d, e => a :: goldFrom next n b c d e (next a b c d e)
def goldA : List Bool := goldFrom (fun a _ c _ _ => xor c a) 31 false false false false true
def goldB : List Bool := goldFrom (fun a _ c d e => xor (xor (xor e d) c) a) 31 false false false false true

/-- The Gold-31 code of an index, chip 0 first (R235). -/
def goldCode (n : Nat) : List Bool :=
  if n = 0 then goldA else if n = 1 then goldB
  else (List.range 31).map (fun i => xor (goldA.getD i false) (goldB.getD ((i + (n - 2)) % 31) false))

/-- Barker-13 (Table FIR-1). -/
def barker13 : List Bool := [false, false, false, false, false, true, true, false, false, true, false, true, false]

/-- The chips that path `p` sends: none for a tone and for a chirp. -/
def pathChips (v : Nat → Word) (p : Nat) : List Bool :=
  let (k, b) := pathBurst v p
  match vget v (ECH_BURST0.TYPE k b) with
  | 1 => barker13
  | 2 => goldCode (vget v (FIR_PATH_C.GOLD p))
  | _ => []

/-- The burst that path `p` sends, its driver switching to `level` mV (Table FIR-1). -/
def pathWave (v : Nat → Word) (p level : Nat) : Burst :=
  let (k, b) := pathBurst v p
  { type := vget v (ECH_BURST0.TYPE k b), freq := vget v (ECH_BURST0.FREQ k b), cycles := burstCycles v k b,
    cpc := vget v (ECH_BURST0.CPC k b) + 1, span := vget v (ECH_BURST1.SPAN k b), chips := pathChips v p, level := level }

/-- How long a burst lasts, ps: its length in cycles divided by FREQ (R234). -/
def Burst.ps (b : Burst) : Rat := mkRat (b.cycles * 1000000000) b.freq

/-- The carrier's phase in turns, `t` ps after the start. A chirp starts at phase 0 and rises linearly from FREQ × (1 − SPAN/100) to
FREQ × (1 + SPAN/100) (R236); elsewhere a chip of value 1 inverts the phase (R234). -/
def Burst.phase (b : Burst) (t : Rat) : Rat :=
  let x := t * mkRat b.freq 1000000000
  if b.type = 3 then x * mkRat (100 - b.span : Int) 100 + mkRat b.span (100 * b.cycles) * x * x
  else x + (if b.chips.getD (x / mkRat b.cpc 1).floor.toNat false then mkRat 1 2 else 0)

/-- The carrier frequency of a burst `t` ps after its start, kHz (R236). -/
def Burst.freqAt (b : Burst) (t : Rat) : Rat :=
  if b.type = 3 then mkRat (b.freq * (100 - b.span : Int)) 100 + mkRat (2 * b.span * b.freq) 100 * t / b.ps else mkRat b.freq 1

/-- The driver switches the port to its level, and not to VSS, `t` ps after the start: in the first half of each turn of the carrier (R229). -/
def Burst.high (b : Burst) (t : Rat) : Bool :=
  let x := b.phase t
  decide (0 ≤ t) && decide (t < b.ps) && decide (x - mkRat x.floor 1 < mkRat 1 2)

/-- A burst as samples at 64 MS/s, 1 where its driver is high. -/
def Burst.samples (b : Burst) : List Rat :=
  (List.range ((b.ps / 15625).ceil.toNat)).map (fun (i : Nat) => if b.high (mkRat (15625 * i) 1) then 1 else 0)

/-- FREQ of the path's burst profile, kHz. -/
def pathFreq (v : Nat → Word) (p : Nat) : Nat :=
  let (k, b) := pathBurst v p
  vget v (ECH_BURST0.FREQ k b)

/-! ### The schedule (R242, R243) -/

/-- One event of the schedule: a unit, its pair number, and its times in µs from the epoch start. -/
structure SchedEvent where
  unit : List Nat
  k : Nat
  nominal : Nat
  fwd : Nat
  rev : Nat
  free : Nat
  deriving DecidableEq, Repr

/-- L in µs, rounded down. -/
def epochUs (eplog : Nat) : Nat := 2 ^ eplog * 15625 / 16

/-- The nominal time of pair `k` of `n`: (k + 0.5) · L / n, whole µs rounded down. -/
def nominalUs (eplog k n : Nat) : Nat := (2 * k + 1) * 2 ^ eplog * 15625 / (32 * n)

def nominalEvents (v : Nat → Word) (eplog : Nat) (us : List (List Nat)) : List SchedEvent :=
  us.flatMap (fun u =>
    let n := unitPairs v u
    (List.range n).map (fun k => ⟨u, k, nominalUs eplog k n, 0, 0, 0⟩))

/-- The events placed one after the other; `free` holds free(e) for engines 0 to 3. -/
def placeEvents (v : Nat → Word) : List SchedEvent → List Nat → List SchedEvent × List Nat
  | [], free => ([], free)
  | e :: es, free =>
    let engines := unitEngines v e.unit
    let t := max e.nominal (maxOf (engines.map (fun k => free.getD k 0 + 50)))
    let w := unitW v e.unit
    let g := unitG v e.unit
    let done := t + 2 * w + g + 20
    let free2 := (List.range 4).map (fun k => if engines.contains k then done else free.getD k 0)
    let (rest, last) := placeEvents v es free2
    ({ e with fwd := t, rev := t + w + g, free := done } :: rest, last)

/-- The schedule of an epoch, in the order of its events, and free(e) after the last one. -/
def buildSchedule (pod : Bool) (v : Nat → Word) (eplog : Nat) : List SchedEvent × List Nat :=
  let evs := nominalEvents v eplog (firingUnits pod v)
  placeEvents v (sortBy (fun e => e.nominal * 32 + e.unit.headD 0) evs) [0, 0, 0, 0]

/-- Shots of engine `e` in one epoch: two for each pair of each member. -/
def engineShots (pod : Bool) (v : Nat → Word) (e : Nat) : Nat :=
  (firingUnits pod v).foldl (fun n u => n + 2 * unitPairs v u * (u.filter (fun p => pathEngine v p == e)).length) 0

/-- The processing time of R245 summed over the shots of engine `e`, in 1/16 µs. -/
def engineWork (pod : Bool) (v : Nat → Word) (e : Nat) : Nat :=
  (firingUnits pod v).foldl (fun n u => n + 2 * unitPairs v u *
    ((u.filter (fun p => pathEngine v p == e)).foldl (fun m p => m + 480 + vget v (FIR_PATH_B.WLEN p)) 0)) 0

end Sys2Proof.Machine
end

