-- ==== Sys2Proof/Machine/Correlation.lean ====
section
/-! DEFINITION. Correlation mode (R262 to R264): the templates of a path, the complex correlation of a capture with one at every lag of its
window, and what the engine takes from it. DESIGN CHOICE (log 42): the channel filter's response and the quadrature of a template are open
(`Config`); a lag is a whole sample; between samples |C| and C run as the parabola through three neighbours; captures are aligned to whole
samples. -/

namespace Sys2Proof.Machine

/-- A sample of the capture, signed. -/
def sampleOf (b : BitVec 12) : Int := b.toInt

/-- The samples of a capture as numbers. -/
def captureValues (c : Capture) : List Rat := c.samples.map (fun b => mkRat (sampleOf b) 1)

/-- The time of one sample, ps: 1/64 MHz. -/
def samplePs : Rat := 15625

/-- The synthesised template of path `p`: its burst, filtered by the channel's band-pass filter (R263). -/
def synthTemplate (v : Nat → Word) (p : Nat) : List Rat := Config.channelFilter (pathFreq v p) (pathWave v p 0).samples

/-- The complex correlation of `x` from its first sample on with template `t`, whose quadrature is `q`. -/
def correlateAt (t q x : List Rat) : Rat × Rat := (dotQ x t, dotQ x q)

/-- C at every lag of the window. -/
def correlation (t q : List Rat) : List Rat → List (Rat × Rat)
  | [] => []
  | x :: xs => correlateAt t q (x :: xs) :: correlation t q xs

/-- |C|². -/
def power (c : Rat × Rat) : Rat := c.1 * c.1 + c.2 * c.2

/-- The index of the largest value from index `i` on, the first one of equals, with `best` the index and value found so far. -/
def argmaxFrom : List Rat → Nat → Nat × Rat → Nat × Rat
  | [], _, best => best
  | x :: xs, i, best => argmaxFrom xs (i + 1) (if best.2 < x then (i, x) else best)

/-- The lag of the largest |C|; none in an empty window. -/
def peakLag (cs : List (Rat × Rat)) : Option Nat :=
  match cs.map power with
  | [] => none
  | x :: xs => some (argmaxFrom xs 1 (0, x)).1

/-- The vertex of the parabola through `y0`, `y1`, `y2` at −1, 0, 1; 0 where they lie on a line. -/
def vertex (y0 y1 y2 : Rat) : Rat :=
  let d := y0 - 2 * y1 + y2
  if d = 0 then 0 else gridQ ((y0 - y2) / (2 * d))

/-- The parabola through `y0`, `y1`, `y2` at −1, 0, 1, at `x`. -/
def parabola (y0 y1 y2 x : Rat) : Rat := y1 + (y2 - y0) / 2 * x + (y0 - 2 * y1 + y2) / 2 * x * x

/-- What the engine takes from the correlation (R262, R264): τe in ps from the opening of the capture, the phase of C there in turns, ρ, and
the squares of the main and of the secondary peak. -/
structure Correlated where
  tau : Rat
  psi : Rat
  rho : Rat
  main : Rat
  side : Rat
  deriving DecidableEq, Repr

/-- The largest |C|² at the lags further than `lobe` ps from `tau` (R264). -/
def sidePeak (cs : List (Rat × Rat)) (tau lobe : Rat) : Rat :=
  ((List.range cs.length).zip cs).foldl (fun (m : Rat) (i, c) =>
    if lobe < absQ (mkRat i 1 * samplePs - tau) && m < power c then power c else m) 0

/-- The correlation of capture `c` with template `t`; none where there is no sample. At either end of the window there is no neighbour on one
side, and the largest sample itself is taken. -/
def correlateCapture (t : List Rat) (lobe : Rat) (c : Capture) : Option Correlated :=
  let x := (captureValues c)
  let cs := correlation t (Config.quadrature t) x
  match peakLag cs with
  | none => none
  | some k =>
    let at_ (j : Nat) : Rat × Rat := cs.getD j (0, 0)
    let inner := decide (0 < k) && decide (k + 1 < cs.length)
    let d := if inner then vertex (sqrtQ (power (at_ (k - 1)))) (sqrtQ (power (at_ k))) (sqrtQ (power (at_ (k + 1)))) else 0
    let re := parabola (at_ (k - 1)).1 (at_ k).1 (at_ (k + 1)).1 d
    let im := parabola (at_ (k - 1)).2 (at_ k).2 (at_ (k + 1)).2 d
    let tau := (mkRat k 1 + d) * samplePs
    let seg := (x.drop k).take t.length
    let norm := dotQ seg seg * dotQ t t
    let rho := if norm = 0 then 0 else sqrtQ (power (re, im) / norm)
    some { tau := tau, psi := phaseTurn re im, rho := if 1 < rho then 1 else rho, main := power (at_ k), side := sidePeak cs tau lobe }

/-- The sum of lists, entry by entry, over the length of the first one. -/
def addWaves : List Rat → List Rat → List Rat
  | [], _ => []
  | x :: xs, ys => (x + ys.headD 0) :: addWaves xs (ys.drop 1)

/-- The learned template: the mean of the captures, each one from the lag on at which it is aligned with the synthesised template, which is the
learned template's time zero (R263). -/
def learnedTemplate (synth : List Rat) (caps : List Capture) : List Rat :=
  let q := Config.quadrature synth
  let aligned (c : Capture) : List Rat := (captureValues c).drop ((peakLag (correlation synth q (captureValues c))).getD 0)
  let sum := caps.foldl (fun acc c => addWaves acc (aligned c)) (synth.map (fun _ => 0))
  sum.map (fun x => x / mkRat caps.length 1)

/-- The template that a shot of path `p` is correlated with: the learned one from the captures `caps`, else the synthesised one. -/
def pathTemplate (v : Nat → Word) (p : Nat) (caps : List Capture) : List Rat :=
  let synth := synthTemplate v p
  if caps.isEmpty then synth else learnedTemplate synth caps

end Sys2Proof.Machine
end

