-- ==== Sys2Proof/Machine/StoreCore.lean ====
section
/-! DEFINITION. The shadow store's parts that other blocks use (chapter 14): the shadow SRAM and its dirty pages, the backing
slots of staged words, requests for stores, the journal and page buffer in the vault, programming a page, spares and
exhausted regions, and the recall of a page. -/

namespace Sys2Proof.Machine

/-! ### Regions and pages (R391, Table STO-1) -/

def regionFirst (n : Nat) : Nat := (regionPages n).1
def regionSize (n : Nat) : Nat := (regionPages n).2

/-- The region of logical page `p`. -/
def pageRegion (p : Nat) : Nat :=
  ((List.range 16).find? (fun n => decide (regionFirst n ≤ p) && decide (p < regionFirst n + regionSize n))).getD 16

/-- The logical pages of region `n`, ascending. -/
def regionPageList (n : Nat) : List Nat := (List.range (regionSize n)).map (· + regionFirst n)

/-- The byte address in the shadow SRAM of word `w` of region `n` (R390). -/
def regionWord (n w : Nat) : Nat := 256 * regionFirst n + 4 * w

/-- A sealed region (Table STO-1). -/
def regionSealed (n : Nat) : Bool := decide (n ≤ 3)

/-- The recall policy in force: sealed regions are instant whatever the field holds (R159, R419). -/
def State.regionSettled (s : State) (n : Nat) : Bool :=
  !regionSealed n && (s.get ⟨STO_REG_CFG.addr 0 + n, 0, 0⟩ == 1)

/-! ### Dirty pages (R395) -/

/-- An ascending list without repeats with `k` added. -/
def addSorted (k : Nat) : List Nat → List Nat
  | [] => [k]
  | j :: q => if k < j then k :: j :: q else if k = j then j :: q else j :: addSorted k q

def State.showDirty (s : State) (n : Nat) : State :=
  s.put (STO_REG_STAT.DIRTY n) (s.sto.dirty.filter (fun p => pageRegion p == n)).length

/-- The page that the store under way has in hand. -/
def State.inHand (s : State) : Option Nat := s.sto.run.bind (fun r => r.todo.head?)

/-- A page becomes dirty at any write to one of its bytes; a write to the page in hand outdates its copy (R398). -/
def State.markDirty (s : State) (p : Nat) : State :=
  let s := { s with sto := { s.sto with copyStale := s.sto.copyStale || s.inHand == some p } }
  if s.sto.dirty.contains p then s
  else ({ s with sto := { s.sto with dirty := addSorted p s.sto.dirty } } : State).showDirty (pageRegion p)

def State.markClean (s : State) (p : Nat) : State :=
  ({ s with sto := { s.sto with dirty := s.sto.dirty.filter (· != p) } } : State).showDirty (pageRegion p)

/-- A 32-bit write to the shadow SRAM at byte address `a`. -/
def State.sramSetWord (s : State) (a : Nat) (w : Word) : State :=
  ({ s with sto := { s.sto with sram := Memory.setWord s.sto.sram a w } } : State).markDirty (a / 256)

def State.sramWord (s : State) (a : Nat) : Word := Memory.word s.sto.sram a

/-- Words written in a row from byte address `a`. -/
def State.sramSetWords (s : State) (a : Nat) : List Word → State
  | [] => s
  | w :: ws => State.sramSetWords (s.sramSetWord a w) (a + 4) ws

/-! ### The page recall (R157, R159, R420) -/

/-- The outcome of the resolution for page `p` (Table STA-3): 1 CLEAN, 2 FORWARD, 3 BACK, 4 CUT, 5 LOST, 6 EMPTY. -/
def State.pageOutcome (s : State) (p : Nat) : Nat := Sparse.get (fun _ => 6) s.boot.outcome p

/-- The physical page on which logical page `p` stands (R402). -/
def State.physPage (s : State) (p : Nat) : Nat := (Sparse.find s.sto.remap p).getD p

def PageMeta.blank (_ : Nat) : PageMeta := ⟨false, 0, 0, 0⟩

def State.pageMeta (s : State) (pp : Nat) : PageMeta := Sparse.get PageMeta.blank s.sto.pageMeta pp

/-- The page CRC: CRC-32 over the data bytes, the logical page number and the store counter, in the order and the word widths of
the page buffer (R390, R398, Table STO-4). DEDUCED (log 8). -/
def pageCrc (bytes : List Byte) (p counter : Nat) : Nat := crc32 (bytes ++ leBytes 4 p ++ leBytes 4 counter)

/-- The CRC of a physical page is good: the stored CRC matches its bytes and metadata, and it names the logical page that the
remap table gives it (R390, R422). -/
def State.pageGood (s : State) (p : Nat) : Bool :=
  let pp := s.physPage p
  let m := s.pageMeta pp
  m.stored && m.page == p && m.crc == pageCrc (Memory.bytes s.sto.array (256 * pp) 256) p m.counter

/-- Page `p` of the array is copied into the shadow SRAM; it is clean. -/
def State.loadPage (s : State) (p : Nat) : State :=
  { s with sto := { s.sto with
      sram := Memory.setBytes s.sto.sram (256 * p) (Memory.bytes s.sto.array (256 * s.physPage p) 256) } }

/-! ### Backing slots (R392) -/

/-- How many members of a family stand below word `a`. -/
def RegDef.below (r : RegDef) (a : Nat) : Nat :=
  if a ≤ r.base then 0
  else
    let o := a - r.base
    if r.s2 < r.s1 && 1 < r.n2 then
      let i := min (o / r.s1) r.n1
      i * r.n2 + (if i < r.n1 then min r.n2 ((o % r.s1 + r.s2 - 1) / r.s2) else 0)
    else min r.n1 ((o + r.s1 - 1) / r.s1)

/-- The members of a family, ascending. -/
def RegDef.members (r : RegDef) : List Nat :=
  (List.range r.n1).flatMap (fun i => (List.range r.n2).map (fun j => r.base + i * r.s1 + j * r.s2))

def RegDef.hasAcc (r : RegDef) (c : Access) : Bool := r.fields.any (fun f => f.acc == c)

/-- Families backed in SR01 (an SL field) or in SR04 (a WS field and no SL field). -/
def backedIn (sl : Bool) (r : RegDef) : Bool :=
  if sl then r.hasAcc .sl else r.hasAcc .ws && !r.hasAcc .sl

def deepRegs : List RegDef :=
  regsSYS ++ regsPWR ++ regsCLK ++ regsEVT ++ regsTWL ++ regsECH ++ regsTMP ++ regsBRG ++ regsFLO ++ regsNGE ++ regsBIL ++
  regsSTO ++ regsPLS ++ regsRAD ++ regsMSH ++ regsSEC ++ regsLOP ++ regsLOC ++ regsLOG ++ regsUMB ++ regsSTG ++ regsSEA ++
  regsCON

/-- A route word holds an SL field unless both its sources are fixed legal sources (Table EVT-6). -/
def routeWordSl (a : Nat) : Bool :=
  !(fixedLegal (2 * (a - 0x030000)) && fixedLegal (2 * (a - 0x030000) + 1))

def routeWords (sl : Bool) : List Nat := ((List.range 576).map (· + 0x030000)).filter (fun a => routeWordSl a == sl)

/-- Is word `a` backed in SR01 (`sl`), or in SR04? -/
def wordBacked (sl : Bool) (a : Nat) : Bool :=
  if sl then slMask a != 0 else wsMask a != 0 && slMask a == 0

/-- The slot of word `a` in its region: how many words of its kind stand below it (R392). -/
def slotOf (sl : Bool) (a : Nat) : Nat :=
  ((deepRegs.filter (backedIn sl)).foldl (fun n r => n + r.below a) 0)
  + ((routeWords sl).filter (· < a)).length

/-- Every backed word of a kind, ascending: slot k is the k-th. -/
def backedWords (sl : Bool) : List Nat :=
  (((deepRegs.filter (backedIn sl)).flatMap RegDef.members) ++ routeWords sl).mergeSort

/-- The shadow SRAM address of the slot of word `a`. -/
def slotAddr (a : Nat) : Nat :=
  if wordBacked true a then regionWord 1 (slotOf true a) else regionWord 4 (slotOf false a)

/-- The words whose slots stand on logical page `p`, with the slots' addresses. -/
def pageSlots (p : Nat) : List (Nat × Nat) :=
  let n := pageRegion p
  let k := 64 * (p - regionFirst n)
  let ws := if n = 1 ∨ n = 4 then ((backedWords (n == 1)).drop k).take 64 else []
  (List.range ws.length).zip ws |>.map (fun x => (x.2, regionWord n (k + x.1)))

/-- The bits of word `a` that read 0 in a profile and take no writes: RELAY and RXMODE in the Pod (R488), CON_PCFG.EN in the Hub
(R536). -/
def hardZero (pod : Bool) (a : Nat) : Word :=
  if pod then (if a = MSH_CFG.addr then bitMask 0 0 else if a = RAD_CFG.addr then bitMask 3 2 else 0)
  else if a = CON_PCFG.addr then bitMask 0 0 else 0

/-- The live staged fields of word `a` take the value `w` (R218). -/
def State.wrStaged (s : State) (a : Nat) (w : Word) : State :=
  let m := stagedMask a &&& ~~~ hardZero s.pod a
  s.wr a ((s.rd a &&& ~~~ m) ||| (w &&& m))

/-- Word `a` has a live copy in this profile: a slot of an unpowered block is never written (R392). -/
def State.powered (s : State) (a : Nat) : Bool := !(s.pod && podUnpowered a)

/-! ### Tables kept in SR07 and SR08 (R455, R538, R543)

The spec gives these pages no layout. Here word k of SR07 is a word of the neighbour table for k below 64 and of the route table
from 64 on, three words an entry; word k of SR08 is a word of the pod table, six words an entry, and word 1,500 holds the
pod's RSEQ. -/

/-- The register that word `k` of region `n` holds, if it holds one. -/
def tableReg (n k : Nat) : Option Nat :=
  if n = 7 then
    if k < 64 then some (PLS_NBR_A.addr 0 + k)
    else if k < 448 then some (PLS_RT_A.addr 0 + 4 * ((k - 64) / 3) + (k - 64) % 3) else none
  else if n = 8 then
    if k < 1500 then some (CON_POD_ADDR.addr 0 + 8 * (k / 6) + k % 6) else if k = 1500 then some CON_PSTAT.addr else none
  else none

/-- The region and word that hold register `a`, if one does. -/
def tableSlot (a : Nat) : Option (Nat × Nat) :=
  if PLS_NBR_A.addr 0 ≤ a ∧ a < PLS_NBR_A.addr 32 then some (7, a - PLS_NBR_A.addr 0)
  else if PLS_RT_A.addr 0 ≤ a ∧ a < PLS_RT_A.addr 128 then some (7, 64 + 3 * ((a - PLS_RT_A.addr 0) / 4) + (a - PLS_RT_A.addr 0) % 4)
  else if CON_POD_ADDR.addr 0 ≤ a ∧ a < CON_POD_ADDR.addr 250 then
    some (8, 6 * ((a - CON_POD_ADDR.addr 0) / 8) + (a - CON_POD_ADDR.addr 0) % 8)
  else if a = CON_PSTAT.addr then some (8, 1500)
  else none

/-- Word `a` lies in the candidate table's range. -/
def inCandTable (a : Nat) : Bool := decide (PLS_CAND_DEST.addr 0 ≤ a) && decide (a < PLS_CAND_DEST.addr 64)

/-- The page of SR07 that keeps word `a` of the candidate table: eight destinations on each of its last eight pages. The table is larger
than these pages' bytes, so the model keeps its words beside them (DESIGN CHOICE, log 36). -/
def candPage (a : Nat) : Nat := regionFirst 7 + 8 + (a - PLS_CAND_DEST.addr 0) / 256

/-- The candidate words that page `p` keeps, as the registers hold them. -/
def State.candRegs (s : State) (p : Nat) : List (Nat × Word) := s.regs.filter (fun e => inCandTable e.1 && candPage e.1 == p)

/-- The bits of a table register that its page holds: COUNT of a pod entry and JOINED and UNACK of a pod start at 0. -/
def tableMask (a : Nat) : Word :=
  if a = CON_PSTAT.addr then 0xFFFF0000
  else if CON_POD_ADDR.addr 0 ≤ a ∧ a < CON_POD_ADDR.addr 250 ∧ (a - CON_POD_ADDR.addr 0) % 8 = 1 then 0x0000FFFF
  else 0xFFFFFFFF

/-- The tables that page `p` holds take its content; RSEQ is recalled with 256 added (R538). -/
def State.recallTable (s : State) (p : Nat) : State :=
  let n := pageRegion p
  let s := if s.pageOutcome p < 5 then (Sparse.get (fun _ => []) s.sto.candArray p).foldl (fun s e => s.wr e.1 e.2) s else s
  if n = 7 ∨ n = 8 then
    (List.range 64).foldl (fun s j =>
      let k := 64 * (p - regionFirst n) + j
      match tableReg n k with
      | none => s
      | some a =>
        let w := s.sramWord (regionWord n k) &&& tableMask a
        s.wr a (if a = CON_PSTAT.addr then w + 0x01000000 else w)) s
  else s

/-! ### The billing state kept in SR09 (R394, R594; the layout inside pages 72 to 79 is the model's own, log 39) -/

def BillPoint.empty (_ : Nat) : BillPoint := ⟨0, none, [], none, false, none, false, false, 0, 0, 0, none, false⟩
def State.bill (s : State) (i : Nat) : BillPoint := Sparse.get BillPoint.empty s.bil.points i
def State.setBill (s : State) (i : Nat) (b : BillPoint) : State :=
  { s with bil := { s.bil with points := Sparse.set BillPoint.empty s.bil.points i b } }

/-- Region word `w` of the state of point `i`, which stands on two pages. -/
def billWord (i w : Nat) : Nat := 64 * (72 + 2 * i) + w

def wordOf (n : Nat) : Word := BitVec.ofNat 32 n

/-- The words kept for point `i`: LASTTOT, BASE, TR0 to TR7, MD0 to MD8, flags, the sub-interval in progress, SNAPIDX, LASTB and the ends of
the publications missed. -/
def State.billWords (s : State) (i : Nat) : List Word :=
  let b := s.bill i
  let two (n : Nat) : List Word := [wordOf n, wordOf (n / 2 ^ 32)]
  let sub : List Word := match b.cur with
    | none => [0, 0, 0, 0, 0, 0, 0]
    | some c =>
      let t := (c.endAt % 2 ^ 64).toNat
      let q := (c.q % 2 ^ 96).toNat
      [wordOf (1 + 2 * c.cset.toNat + 4 * c.gap.toNat + 8 * c.outage.toNat + 16 * c.tariff)] ++ two t ++ two q ++
        [wordOf (q / 2 ^ 64), wordOf c.ticks]
  two b.last ++ (List.range 2).map (fun w => s.rd (BIL_MP_BASE.addr i + w)) ++
    (List.range 16).map (fun w => s.rd (BIL_MP_TR.addr i 0 + w)) ++ (List.range 27).map (fun w => s.rd (BIL_MP_MD.addr i 0 + w)) ++
    [wordOf (b.cset.toNat + 2 * b.fault.toNat + 4 * (b.qty % 4) + 16 * (b.kind % 4) + 64 * b.missed.isSome.toNat + 65536 * b.ver)] ++
    sub ++ [s.rd (BIL_MP_SNAPIDX.addr i), s.rd BIL_LASTB.addr, s.rd BIL_LASTB_H.addr] ++
    two (b.missed.getD (0, 0)).1 ++ two (b.missed.getD (0, 0)).2

/-- Point `i` is taken over from its recalled page (R336): the registers, LASTTOT, the sub-interval in progress and the publications missed;
what has been asked of it since the start stands. -/
def State.loadBill (s : State) (i : Nat) : State :=
  let w (k : Nat) : Word := s.sramWord (regionWord 9 (billWord i k))
  let n (k : Nat) : Nat := (w k).toNat
  let two (k : Nat) : Nat := n k + 2 ^ 32 * n (k + 1)
  let s := (List.range 18).foldl (fun s k => s.wr (if k < 2 then BIL_MP_BASE.addr i + k else BIL_MP_TR.addr i 0 + k - 2) (w (2 + k))) s
  let s := (List.range 27).foldl (fun s k => s.wr (BIL_MP_MD.addr i 0 + k) (w (20 + k))) s
  let s := s.wr (BIL_MP_SNAPIDX.addr i) (w 55)
  let s := if i = 0 then (s.wr BIL_LASTB.addr (w 56)).wr BIL_LASTB_H.addr (w 57) else s
  let f := n 48
  let t : Int := two 49
  let q : Int := two 51 + 2 ^ 64 * n 53
  let cur : Option SubInterval := if f % 2 = 0 then none else
    some ⟨if t < 2 ^ 63 then t else t - 2 ^ 64, if q < 2 ^ 95 then q else q - 2 ^ 96, n 54, f / 16 % 8,
          f.testBit 1, f.testBit 2, true⟩
  let b := s.bill i
  let missed := if (n 47).testBit 6 then some (two 58, (b.missed.getD (two 60, two 60)).2) else b.missed
  s.setBill i { b with last := two 0, cur := cur, cset := b.cset || (n 47).testBit 0, fault := (n 47).testBit 1,
                       ver := n 47 / 65536, qty := n 47 / 4 % 4, kind := n 47 / 16 % 4, missed := missed }

/-- The pulse input counts, on the second page of point 0: what a start has counted so far is added to them (R594). -/
def State.loadInputs (s : State) : State :=
  (List.range 4).foldl (fun s k => s.wr (LOC_PI_CNT.addr k) (s.rd (LOC_PI_CNT.addr k) + s.sramWord (regionWord 9 (billWord 0 (64 + k))))) s

/-- The billing state that page `p` of SR09 holds is taken over, where it has content (R335, R336, R394). -/
def State.recallBill (s : State) (p : Nat) : State :=
  let k := p - (regionFirst 9 + 72)
  if regionFirst 9 + 72 ≤ p ∧ k < 8 ∧ s.pageOutcome p < 5 then
    if k = 1 then s.loadInputs else if k % 2 = 0 then s.loadBill (k / 2) else s
  else s

/-- The most severe outcome among a region's pages, in the order LOST, CUT, BACK, FORWARD, CLEAN, EMPTY (R158). -/
def State.regionOutcome (s : State) (n : Nat) : Nat :=
  let os := (regionPageList n).map s.pageOutcome
  (([5, 4, 3, 2, 1].find? (fun c => os.contains c)).getD 6)

/-- A region whose last page has been recalled reports its outcome in SYS_RECALLn, and raises RECALL_FWD, RECALL_BACK, RECALL_CUT or
RECALL_LOST once (R158); these sources are numbered as the outcomes are. -/
def State.reportRegion (s : State) (n : Nat) : State :=
  let f : Fd := ⟨SYS_RECALL.addr (n / 8), n % 8 * 4 + 3, n % 8 * 4⟩
  if s.get f = 0 then
    let o := s.regionOutcome n
    (s.put f o).raiseIf (decide (2 ≤ o) && decide (o ≤ 5)) o
  else s

/-- The recall of page `p` (R157, R159, R420): a page with content is copied into the shadow SRAM, and a page of SR01 or SR04
is placed in the live fields that it backs. A page whose outcome is LOST or EMPTY is refilled from the live fields and dirty
in those two regions, and is 0 and clean in every other. -/
def State.recallPage (s : State) (p : Nat) : State :=
  let s := { s with boot := { s.boot with unrecalled := s.boot.unrecalled.filter (· != p) } }
  let n := pageRegion p
  let o := s.pageOutcome p
  let slots := (pageSlots p).filter (fun x => s.powered x.1)
  let s :=
    if o = 5 ∨ o = 6 then
      if n = 1 ∨ n = 4 then
        (slots.foldl (fun s x => s.sramSetWord x.2 (s.rd x.1 &&& stagedMask x.1)) s).markDirty p
      else { s with sto := { s.sto with sram := Memory.setBytes s.sto.sram (256 * p) (List.replicate 256 0) } }
    else
      let s := s.loadPage p
      slots.foldl (fun s x => s.wrStaged x.1 (s.sramWord x.2)) s
  let s := (s.recallTable p).recallBill p
  if (regionPageList n).all (fun q => !s.boot.unrecalled.contains q) then (s.put (STO_REG_STAT.RECALLED n) 1).reportRegion n else s

/-- A page that is used before its background recall is recalled out of order (R159). -/
def State.needPage (s : State) (p : Nat) : State := if s.boot.unrecalled.contains p then s.recallPage p else s

/-- A table register is written, its page recalled first, and the page follows it. -/
def State.wrTable (s : State) (a : Nat) (f : Word → Word) : State :=
  match tableSlot a with
  | none =>
    if inCandTable a then
      let s := s.needPage (candPage a)
      (s.wr a (f (s.rd a))).markDirty (candPage a)
    else s
  | some (n, k) =>
    let s := s.needPage (regionFirst n + k / 64)
    let s := s.wr a (f (s.rd a))
    s.sramSetWord (regionWord n k) (s.rd a &&& tableMask a)

/-- A field of a table register is written. -/
def State.putTable (s : State) (f : Fd) (v : Nat) : State := s.wrTable f.addr (fun w => f.into w v)

/-- Every page of region `n` has been recalled, those that were not in ascending order (R159). -/
def State.needRegion (s : State) (n : Nat) : State := (regionPageList n).foldl State.needPage s

/-- STC writes the live staged fields of word `a` into its slot (R392). -/
def State.backWord (s : State) (a : Nat) : State :=
  (s.needPage (slotAddr a / 256)).sramSetWord (slotAddr a) (s.rd a &&& stagedMask a)

/-! ### Requests (R396) -/

/-- A store of region `n` is requested; it merges with a request already there. -/
def State.requestStore (s : State) (n : Nat) : State :=
  s.put STO_STAT.PENDING ((s.get STO_STAT.PENDING) ||| 2 ^ n)

/-! ### Spares and exhausted regions (R402, R403) -/

/-- A cause of the legal alarm holds (R357): 0 CTREND, 1 LOGFULL, 2 CTRLOST, 3 ROMFAIL, 4 LEGALZERO, 5 a sealed region with
no spare page left. Each new cause sets its bit and raises LEGAL_ALARM. -/
def State.legalAlarm (s : State) (cause : Nat) : State :=
  let a := s.get SEA_STAT.ACAUSE
  if a.testBit cause then s
  else
    let a := a + 2 ^ cause
    ((s.put SEA_STAT.ACAUSE a).put SEA_STAT.ALARM 1).raiseWith Ev.LEGAL_ALARM [BitVec.ofNat 32 a]

def State.exhaust (s : State) (n : Nat) : State :=
  if s.sto.exhausted.contains n then s
  else
    let s := { s with sto := { s.sto with exhausted := s.sto.exhausted ++ [n] } }
    let s := (s.put (STO_REG_STAT.END n) 1).raise (Ev.REGION_END n)
    if regionSealed n then s.legalAlarm 5 else s

/-- The next free spare of the pool that serves page `p`, and the state with it taken, if the pool has one. The sealed
pool stands on physical pages 512 to 527 and the open pool on 528 to 543. -/
def State.takeSpare (s : State) (p : Nat) : Option (Nat × State) :=
  if regionSealed (pageRegion p) then
    if s.sto.sealedUsed < 16 then
      let s1 := { s with sto := { s.sto with sealedUsed := s.sto.sealedUsed + 1 } }
      some (512 + s.sto.sealedUsed, s1.put STO_SPARE.SEALFREE (15 - s.sto.sealedUsed))
    else none
  else
    if s.sto.openUsed < 16 then
      let s1 := { s with sto := { s.sto with openUsed := s.sto.openUsed + 1 } }
      some (528 + s.sto.openUsed, s1.put STO_SPARE.OPENFREE (15 - s.sto.openUsed))
    else none

/-- Free spares of the pool of page `p`. -/
def State.spareFree (s : State) (p : Nat) : Nat :=
  if regionSealed (pageRegion p) then 16 - s.sto.sealedUsed else 16 - s.sto.openUsed

/-! ### The journal and the page buffer in the vault (R398, Table STO-4) -/

def State.vaultWord (s : State) (off : Nat) : Word := Memory.word s.vault (4 * off)
def State.setVaultWord (s : State) (off : Nat) (w : Word) : State := { s with vault := Memory.setWord s.vault (4 * off) w }
def State.setVaultNat (s : State) (off v : Nat) : State := s.setVaultWord off (BitVec.ofNat 32 v)

/-- The map of a command's pages as 16 words. -/
def pageMap (ps : List Nat) (k : Nat) : Nat := (ps.filter (fun p => p / 32 == k)).foldl (fun m p => m ||| 2 ^ (p % 32)) 0

/-- The journal is opened for a command over the pages `ps`. -/
def State.openJournal (s : State) (region : Nat) (ps : List Nat) : State :=
  let s := (s.setVaultNat 0x090 (1 + 256 * region)).setVaultNat 0x091 0
  (List.range 16).foldl (fun s k => s.setVaultNat (0x093 + k) (pageMap ps k)) s

def State.closeJournal (s : State) : State := s.setVaultNat 0x090 0

/-- Page `p` is copied into the page buffer with its number, the physical page's counter plus 1 and the CRC, and is marked
in flight (R398, step 1). -/
def State.bufferPage (s : State) (p : Nat) : State :=
  let bytes := Memory.bytes s.sto.sram (256 * p) 256
  let c := (s.pageMeta (s.physPage p)).counter + 1
  let s := { s with vault := Memory.setBytes s.vault (4 * 0x0B0) bytes, sto := { s.sto with copyStale := false, atBoundary := true, candBuf := s.candRegs p } }
  let s := (s.setVaultNat 0x0F0 p).setVaultNat 0x0F1 c
  let s := s.setVaultNat 0x0F2 (pageCrc bytes p c)
  (s.setVaultNat 0x092 p).setVaultNat 0x090 ((s.vaultWord 0x090).toNat ||| 2)

/-- The in-flight page has been stored: it is counted, and no page is in flight. -/
def State.unbufferPage (s : State) : State :=
  let w := (s.vaultWord 0x090).toNat
  (s.setVaultNat 0x091 ((s.vaultWord 0x091).toNat + 1)).setVaultNat 0x090 (if w / 2 % 2 = 1 then w - 2 else w)

/-- Physical page `pp` is programmed with logical page `p`, from the page buffer; `good` says whether its read-back CRC
is good. Its counter counts the program (R402). -/
def State.program (s : State) (pp p : Nat) (good : Bool) : State :=
  let bytes := Memory.bytes s.vault (4 * 0x0B0) 256
  let n := (s.pageMeta pp).counter + 1
  let c := pageCrc bytes p n
  let m : PageMeta := ⟨true, p, n, if good then c else Nat.xor c 1⟩
  { s with sto := { s.sto with array := Memory.setBytes s.sto.array (256 * pp) bytes,
                               pageMeta := Sparse.set PageMeta.blank s.sto.pageMeta pp m
                               candArray := Sparse.set (fun _ => []) s.sto.candArray p s.sto.candBuf } }

/-- The region's wear registers after a program (Table STO-7). -/
def State.showWear (s : State) (n : Nat) : State :=
  let ps := regionPageList n
  let s := s.put (STO_REG_WEAR.MAXCNT n) (ps.foldl (fun m p => max m (s.pageMeta (s.physPage p)).counter) 0)
  s.put (STO_REG_WEAR.REMAPS n) (ps.filter (fun p => (Sparse.find s.sto.remap p).isSome)).length

/-- Page `p` moves to a spare: programmed there, and the remap entry switched (R402). None when the pool is empty. -/
def State.toSpare (s : State) (p : Nat) : Option State :=
  match s.takeSpare p with
  | none => none
  | some (pp, s1) =>
    let s2 := s1.program pp p true
    let s3 := { s2 with sto := { s2.sto with remap := Sparse.insert s2.sto.remap p pp } }
    some ((s3.raise Ev.SPARE_USED).raiseIf (s3.spareFree p == 4) Ev.SPARE_LOW)

/-- A word that its owner keeps in a page of a region: the page is recalled first where it is settled and not yet
recalled (R159), then written. -/
def State.ownerWord (s : State) (n w : Nat) (v : Word) : State :=
  let s := s.needPage (regionFirst n + w / 64)
  s.sramSetWord (regionWord n w) v

end Sys2Proof.Machine
end

