-- ==== Sys2Proof/Machine/Modes.lean ====
section
/-! DEFINITION. Modes, wake sources and the internal reset (chapters 03 and 05): which power and clock domains are on (Tables
PWR-3, PWR-4, CLK-2), what a wake source does in each mode (Table PWR-5), and what the internal reset of a start resets and
keeps (R148). -/

namespace Sys2Proof.Machine

/-! ### What is on (R89, R90, R124, R126, R139, R143) -/

def maskOf (xs : List Nat) : Nat := xs.foldl (fun m b => m ||| 2 ^ b) 0

/-- Numbers `lo` to `hi`. -/
def spanOf (lo hi : Nat) : List Nat := (List.range (hi + 1 - lo)).map (· + lo)

/-- The power domains that the profile powers (Table PWR-3). -/
def profileDomains (pod lcd : Bool) : List Nat :=
  (spanOf 0 147).filter (fun d => (d != 129 || lcd) &&
    (if pod then !((spanOf 17 19 ++ spanOf 24 35 ++ spanOf 37 39 ++ spanOf 48 103 ++ spanOf 105 107 ++ spanOf 115 119 ++
        spanOf 124 126 ++ spanOf 141 145 ++ [147]).contains d)
     else d != 123 && d != 136))

/-- The load has been shed: steps 3 to 6 of Table PWR-7, and the reset store (R151). -/
def State.shed (s : State) : Bool := s.pwr.pf == .storing || s.pwr.pf == .resetStore

/-- The domains that HFXO or SPLL failure stops (R139). -/
def sroStopped (c : Nat) : Bool := (decide (7 ≤ c) && decide (c ≤ 44)) || [48, 61, 62].contains c

/-- The clock domains of the profile that can have a clock in Run, the one of the host interface in use among them: CD47 has one in a freeze
only. -/
def profileClocks (pod serial : Bool) : List Nat :=
  (spanOf 0 63).filter (fun c => c != 47 && c != (if serial then 45 else 46) &&
    (if pod then !((spanOf 8 10 ++ spanOf 12 14 ++ spanOf 19 30 ++ spanOf 32 34 ++ spanOf 36 39 ++ spanOf 42 44 ++ [61]).contains c)
     else c != 41))

/-- The clock domains that have a clock where their blocks are powered: none in a freeze (R126). CD00 and the domains that the LPO takes over are shown
as clocked while LFXO has failed, and CD02 is not while HFXO has. DESIGN CHOICE (log 37). -/
def State.clocksOn (s : State) : List Nat :=
  let lpo : List Nat := if s.on CLK_STAT.RTCSRC then [1] else []
  if s.umb.frozen then []
  else if s.shed then [0] ++ lpo ++ [3, 4, 51, 59]
  else match s.mode with
    | .run =>
      if s.boot.steps.testBit 3 then (profileClocks s.pod (s.on SYS_STRAP.HOSTMODE)).filter (fun c =>
        !(s.on CLK_STAT.SYSSRC && sroStopped c) && (c != 2 || s.on CLK_STAT.HFXOOK) && (c != 49 || s.on SYS_STRAP.LCDEN))
      else [0, 1, 2, 3, 51, 59, 60, 63]
    | .doze => [0, 1] ++ (if s.pod then [41] else []) ++
        (if s.on PWR_CFG.LCDDOZE && s.on SYS_STRAP.LCDEN then [49] else []) ++ [57, 59, 60, 63]
    | .listen => [0] ++ lpo ++ [41, 60, 63]
    | .vault => [0] ++ lpo ++ [60, 63]
    | .reset => [0] ++ lpo

/-- The event matrix runs, on CD54 (R553). -/
def State.matrixRuns (s : State) : Bool := s.clocksOn.contains 54

/-- The Doze timer runs from LFXO instead of the LPO (Table CLK-5). -/
def State.dozeTimerOnLfxo (s : State) : Bool := !s.on CLK_STAT.LPOOK

/-- Twill accepts commands: its clock runs. -/
def State.twillRuns (s : State) : Bool := s.mode == .run && !s.umb.frozen && !s.shed && s.boot.steps.testBit 3

/-- What a command does that reaches its register over Twill. -/
def State.onTwill (s : State) (f : State → State) : Out := if s.twillRuns then go (f s) else go s

/-! ### The meaning of D[15:0] (R54, R63, Table BAL-2) -/

/-- The role of D[15:0] in Run. -/
def State.runRole (s : State) : DRole := if s.on SYS_STRAP.HOSTMODE then .serial else .parallel

/-- What D[15:0] mean in the present state, once they have taken it. -/
def State.busRole (s : State) : DRole :=
  if s.pins.vioHBad || s.shed || s.pins.resetLow then .floating
  else if s.umb.frozen then (if s.umb.port then .umbra else .floating)
  else if s.mode == .run && s.boot.steps.testBit 3 then s.runRole
  else .floating

/-- D[15:0] take the meaning of the present state; they take a new one only where CS_N, and D0 in serial mode, has been high for 20 ns, and
float until then (R63). -/
def State.takeRole (s : State) : State :=
  let r := s.busRole
  { s with pins := { s.pins with dRole := if s.pins.csHigh || r == s.pins.dRole then r else .floating } }

/-- The chip stops driving D[15:0] and releases WAIT_N, at once (R64). -/
def State.releaseBus (s : State) : State := { s with pins := { s.pins with dOut := none, waitLow := false } }

/-- Core `c` runs: no restart of it runs, and it is not halted (R601, R604). -/
def State.coreUp (s : State) (c : Nat) : Bool := !s.fab.restarting.contains c && !s.on (FLT_CORE.HALTED c)

/-- Step `n` of Table STA-2 is reached; PHASE shows the highest step up to which every one has been (R153). -/
def State.reach (s : State) (n : Nat) : State :=
  let steps := s.boot.steps ||| 2 ^ n
  State.put { s with boot := { s.boot with steps := steps } } SYS_BOOT.PHASE ((spanOf 1 9).takeWhile steps.testBit).length

/-! ### The internal reset (R148, R349, R388) -/

/-- Registers that a start does not reset, because the vault or the array keeps what they show, or because they are supply
monitors, straps or facts of the stepping: the words, with the bits that stay. -/
def keptBits (a : Nat) : Word :=
  if a = PWR_STAT.addr then 0xF7
  else if a = PWR_PF.addr ∨ a = SYS_RSTCNT.addr ∨ a = SYS_STRAP.addr ∨ a = SEA_LOCK.addr ∨ a = STO_SPARE.addr then 0xFFFFFFFF
  else if STO_LOCK.addr 0 ≤ a ∧ a ≤ STO_LOCK.addr 16 then 0xFFFFFFFF
  else if STO_REG_WEAR.addr 0 ≤ a ∧ a ≤ STO_REG_WEAR.addr 15 then 0xFFFFFFFF
  else if STO_REG_STAT.addr 0 ≤ a ∧ a ≤ STO_REG_STAT.addr 15 then 0x00800000
  else if UMB_FRZNUM.addr ≤ a ∧ a ≤ UMB_TOTAL_H.addr then 0xFFFFFFFF
  else if a = UMB_STAT.addr then 0xFF0000FF
  else if a = SEA_LGCID0.addr ∨ a = SEA_LGCID1.addr then 0xFFFFFFFF
  else if a = LOG_OSTAT.addr then 0xFFFFFFFF
  else if a = LOG_LSTAT.addr then 0xFFF
  else if SEC_KS_CFG.addr 0 ≤ a ∧ a < SEC_KS_CFG.addr 32 ∧ (a - SEC_KS_CFG.addr 0) % 4 = 0 then 0xFFFF
  else 0

/-- The registers at a start: the kept bits stand, every other bit takes its Reset value, that of the profile (R10). -/
def State.resetRegs (s : State) : List (Nat × Word) :=
  let base (a : Nat) : Word := if s.pod then Sparse.get resetWord podResets a else resetWord a
  let start := if s.pod then podResets else []
  s.regs.foldl (fun m (e : Nat × Word) =>
    let k := keptBits e.1
    if k = 0 then m else Sparse.set resetWord m e.1 ((base e.1 &&& ~~~ k) ||| (e.2 &&& k))) start

/-- Vault word that holds the open-session flag, bit 0, and the end cause, bits 6:4 (R349, Table STO-4). -/
def sessionFlagWord : Nat := 0x067

/-- A session that is open at a power-fail declaration (cause 4) or a start (cause 5) leaves its flag in the vault (R349). -/
def State.flagSession (s : State) (cause : Nat) : State :=
  if s.on SEA_STAT.SESSION then (s.setVaultNat sessionFlagWord (1 + 16 * cause)).put SEA_STAT.SESSION 0 else s

/-- The internal reset is asserted by the start source of the given code (Table STA-1): every switched domain and every AO
register but the RTC, the vault, the supply monitors and the straps (R148). The arrays, the logs and what the vault holds
stay. A reset that fell during a power-fail sequence acts with it (R112). -/
def State.internalReset (s : State) (code : Nat) : State :=
  let s := s.flagSession 5
  let s := if s.pwr.resetPending then { s with pwr := { s.pwr with resetPending := false, sources := s.pwr.sources ||| 2 } } else s
  let r := State.reset
  { r with
    pending := s.pending, regs := s.resetRegs, vault := s.vault, free := s.free, mode := .reset, time := s.time
    evt := { r.evt with legalLog := s.evt.legalLog, openLog := s.evt.openLog, openSeq := s.evt.openSeq,
                        legalSeq := s.evt.legalSeq, legalSlots := s.evt.legalSlots, quotaRaised := s.evt.quotaRaised }
    pins := { r.pins with inputs := s.pins.inputs, resetLow := s.pins.resetLow, vioHBad := s.pins.vioHBad, csHigh := s.pins.csHigh
                          spareDriven := s.pins.spareDriven, spareLevel := s.pins.spareLevel }
    pwr := { r.pwr with pfVault := s.pwr.pfVault, dip := s.pwr.dip, pfCut := s.pwr.pfCut, rstoreCut := s.pwr.rstoreCut,
                        holdFault := s.pwr.holdFault, presampleSplit := s.pwr.presampleSplit, vaultLost := s.pwr.vaultLost,
                        sources := s.pwr.sources ||| 2 ^ (code - 1), presample := s.pwr.presample,
                        vmainBad := s.pwr.vmainBad, aoReset := s.pwr.aoReset }
    umb := if s.umb.due.isSome then { s.umb with frozen := false, image := [] } else r.umb
    boot := { r.boot with steps := 0,
                          lostSets := s.boot.lostSets ||| ((!s.stg.imm.entries.isEmpty).toNat + 2 * (!s.stg.dated.entries.isEmpty).toNat) }
    sto := { s.sto with sram := [], dirty := [], copyStale := false, run := none, check := none, transfer := none, work := [], resvPending := false }
    sea := { r.sea with lockEnd := s.sea.lockEnd } }

/-! ### Wake sources (R94 to R96, R113, Table PWR-5) -/

/-- The bit of each source in PWR_WAKE and PWR_WCAUSE (Table PWR-15). -/
def Wake.alarm : Nat := 0
def Wake.btn : Nat := 1
def Wake.host : Nat := 2
def Wake.glint : Nat := 3
def Wake.opt : Nat := 4
def Wake.sched : Nat := 5
def Wake.mains : Nat := 6
def Wake.batnew : Nat := 7
def Wake.frz : Nat := 8
def Wake.vsw : Nat := 9

/-- Is source `b` enabled: those above OPT always are. -/
def State.wakeEnabled (s : State) (b : Nat) : Bool := decide (5 ≤ b) || (s.rd PWR_WAKE.addr).getLsbD b

/-- A warm start is under way and has not reached step 3. -/
def State.warmStarting (s : State) : Bool :=
  (s.mode == .reset || s.mode == .run) && !s.boot.steps.testBit 3 && (s.pwr.sources.testBit 3 || s.get SYS_RCAUSE.CAUSE == 4)

/-- Does source `b` wake the chip from mode `m`? -/
def State.wakesFrom (s : State) (m : Mode) (b : Nat) : Bool :=
  s.wakeEnabled b && match m with
    | .doze => decide (b ≤ 5) || b == Wake.frz || b == Wake.vsw
    | .listen => (decide (b ≤ 4) || b == Wake.frz || b == Wake.vsw) && !s.pwr.pfVault
    | .vault =>
      if s.pod && s.pwr.pfVault then b == Wake.batnew && s.pwr.pfVbat
      else if b = Wake.mains then s.pwr.pfVault
      else if b = Wake.batnew ∨ b = Wake.glint ∨ b = Wake.sched then false
      else true
    | _ => false

/-- Does source `b` wake the chip from its present mode? -/
def State.wakes (s : State) (b : Nat) : Bool := s.wakesFrom s.mode b

/-- Words 65,536·k and on of Calico, bank CBk, are 0 (R95). -/
def State.clearBank (s : State) (k : Nat) : State :=
  { s with calico := s.calico.filter (fun e => e.1 / 0x40000 != k)
           fab := { s.fab with eccSingle := s.fab.eccSingle.filter (fun w => w / 0x10000 != k)
                               eccDouble := s.fab.eccDouble.filter (fun w => w / 0x10000 != k) } }

/-- The chip leaves Doze: the banks not retained are cleared (R95), and D[15:0] take their Run meaning under R63. -/
def State.leaveDoze (s : State) : State :=
  let gone := (List.range 4).filter (fun j => !(s.get PWR_BANK.RET).testBit j)
  let s := gone.foldl (fun s j => s.clearBank (j + 2)) { s with mode := .run }
  s.takeRole

/-- A warm start begins (Table STA-1, code 4). -/
def State.warmStart (s : State) (cause : Nat) : State := (s.internalReset 4).put PWR_WCAUSE.CAUSES (2 ^ cause)

/-- A wake source acts: it ends a Doze entry under way (R113), leaves Doze, or begins a warm start from Vault or Listen; a
further source before step 3 of a warm start is recorded (R164). -/
def State.wake (s : State) (b : Nat) : State :=
  if s.warmStarting && s.wakeEnabled b then s.put PWR_WCAUSE.CAUSES (s.get PWR_WCAUSE.CAUSES ||| 2 ^ b)
  else if s.mode = .run ∧ s.pwr.dozeEntry ∧ s.pwr.request = none ∧ s.wakesFrom .doze b then
    State.put { s with pwr := { s.pwr with dozeEntry := false } } PWR_WCAUSE.CAUSES (2 ^ b)
  else if s.mode = .doze ∧ s.wakes b then s.leaveDoze.put PWR_WCAUSE.CAUSES (2 ^ b)
  else if (s.mode = .vault ∨ s.mode = .listen) ∧ s.wakes b then s.warmStart b
  else s

end Sys2Proof.Machine
end

