-- ==== Sys2Proof/Machine/Firing.lean ====
section
/-! DEFINITION. Transducer ports, paths and firing (chapter 08): the shots of an epoch, from preparation to the queue of shot
records, how shots are lost, and the epoch boundary. -/

namespace Sys2Proof.Machine

/-! ### Epochs -/

/-- The epoch `id`, in progress or in its tail. -/
def State.epoch (s : State) (id : Nat) : Option Epoch := (s.fir.cur.toList ++ s.fir.tails).find? (fun e => e.id == id)

/-- The epoch `id` rewritten by `f`. -/
def State.mapEpoch (s : State) (id : Nat) (f : Epoch → Epoch) : State :=
  let g (e : Epoch) : Epoch := if e.id = id then f e else e
  { s with fir := { s.fir with cur := s.fir.cur.map g, tails := s.fir.tails.map g } }

def EngineCount.zero : EngineCount := ⟨0, 0, 0, 0⟩

def mapIdx {α : Type} (k : Nat) (f : α → α) : List α → List α
  | [] => []
  | x :: xs => match k with
    | 0 => f x :: xs
    | k + 1 => x :: mapIdx k f xs

def Epoch.mapEngine (e : Epoch) (k : Nat) (f : EngineCount → EngineCount) : Epoch :=
  { e with engines := mapIdx k f e.engines }

/-- Member `p` of event `n` rewritten by `f`. -/
def Epoch.mapMember (e : Epoch) (n p : Nat) (f : Member → Member) : Epoch :=
  { e with events := mapIdx n (fun v => { v with members := v.members.map (fun m => if m.path = p then f m else m) }) e.events }

/-- The configuration an epoch was made under (R220). -/
def Epoch.view (e : Epoch) : Nat → Word := viewOf e.cfg

def Member.stage (m : Member) (rev : Bool) : ShotStage := if rev then m.rev else m.fwd
def Member.setStage (m : Member) (rev : Bool) (t : ShotStage) : Member := if rev then { m with rev := t } else { m with fwd := t }

/-! ### The histories of a path (R265, R270 to R273) -/

def PathHistory.empty (_ : Nat) : PathHistory := ⟨[], none, 0, 0, []⟩
def PathTemplate.empty (_ : Nat) : PathTemplate := ⟨[], [], false, 0, false⟩

def State.pathHistory (s : State) (p : Nat) (rev : Bool) : PathHistory :=
  Sparse.get PathHistory.empty s.arv.history (2 * p + rev.toNat)
def State.setPathHistory (s : State) (p : Nat) (rev : Bool) (h : PathHistory) : State :=
  { s with arv := { s.arv with history := Sparse.set PathHistory.empty s.arv.history (2 * p + rev.toNat) h } }
def State.template (s : State) (p : Nat) : PathTemplate := Sparse.get PathTemplate.empty s.arv.template p
def State.setTemplate (s : State) (p : Nat) (t : PathTemplate) : State :=
  { s with arv := { s.arv with template := Sparse.set PathTemplate.empty s.arv.template p t } }

/-- A shot that ends with a code from 0x9 to 0xC is the next one of its path and direction: the runs of consecutive CYCLE_SKIP, DISTURBED and
rejected shots are broken (R267, R271 to R273). -/
def State.breakRuns (s : State) (p : Nat) (rev : Bool) : State :=
  let s := s.setPathHistory p rev { s.pathHistory p rev with skipM := 0, skipN := 0, disturbed := [] }
  s.setTemplate p { s.template p with rejects := 0 }

/-! ### Shots that are lost (Table FIR-5, R251 to R253) -/

/-- The four losses of Table FIR-5: 0 NOT_FIRED, 1 DISCARDED, 2 OVERRUN, 3 DRIVE_FAULT. -/
def lossField (q p : Nat) : Fd :=
  match q with
  | 0 => FIR_PCNT.NOTFIRED p
  | 1 => FIR_PCNT.DISCARDED p
  | 2 => FIR_PCNT.OVERRUN p
  | _ => FIR_PCNT.DRIVEF p

/-- The engine event of a loss (R253); an OVERRUN of the tail raises TAIL_OVERRUN instead (R249). -/
def lossEvent (q k : Nat) (tail : Bool) : Nat :=
  match q with
  | 0 => Ev.NOT_FIRED k
  | 1 => Ev.SHOT_DISCARDED k
  | 2 => if tail then Ev.TAIL_OVERRUN k else Ev.QUEUE_OVERRUN k
  | _ => Ev.DRIVE_FAULT k

/-- The shot of path `p` in event `n` of epoch `id` ends with loss `q`: it is counted against the path and the engine, and
raises PATH_LOSS and its engine event. -/
def State.loseShot (s : State) (id n p k : Nat) (rev : Bool) (q : Nat) (tail : Bool) : State :=
  let s := s.mapEpoch id (fun e => (e.mapMember n p (fun m => m.setStage rev .lost)).mapEngine k
    (fun c => { c with lost := c.lost + 1, causes := c.causes ||| 2 ^ q }))
  (((s.bump (lossField q p)).raise (Ev.PATH_LOSS p)).raise (lossEvent q k tail)).breakRuns p rev

/-! ### Where the present epoch stands -/

/-- RTC source cycles since the start of an epoch. -/
def State.epochCycles (s : State) (e : Epoch) : Nat := s.time.cyc - e.startCyc

/-- `t` µs after the epoch's start falls in its cycle `c`, has come by the end of that cycle, or went by before it. The time base of the model
counts cycles of the RTC source (log 30). -/
def inCycle (c t : Nat) : Bool := decide (cycUs c ≤ t) && decide (t < cycUs (c + 1))
def hasCome (c t : Nat) : Bool := decide (t < cycUs (c + 1))
def wentBy (c t : Nat) : Bool := decide (t < cycUs c)

/-- The fire time of a shot of an event, µs from the epoch start (R243). -/
def FireEvent.fireAt (v : FireEvent) (rev : Bool) : Nat := if rev then v.rev else v.fwd

/-- Engine `k` is occupied: by an event from its preparation to its release (R238). -/
def Epoch.occupies (e : Epoch) (k : Nat) : Bool :=
  e.events.any (fun v => v.prepared && !v.released && v.members.any (fun m => m.engine == k))

def State.showActive (s : State) : State :=
  [0, 1, 2, 3].foldl (fun s k => s.putB (ECH_STAT.ACTIVE k) (match s.fir.cur with
    | some e => e.occupies k
    | none => false)) s

/-- RX(`rx`) is capturing: a shot that it receives is in flight, and its WOPEN has run out (Table FIR-4, steps 4 and 5). -/
def State.capturing (s : State) (rx : Nat) : Bool :=
  match s.fir.cur with
  | none => false
  | some e => e.events.any (fun v => v.members.any (fun m => m.rx == rx && [false, true].any (fun rev =>
      m.stage rev == .flying && hasCome (s.epochCycles e) (v.fireAt rev + vget e.view (FIR_PATH_B.WOPEN m.path)))))

/-- ECHk_STAT.RXBUSY. -/
def State.rxBusy (s : State) (k : Nat) : Nat :=
  (List.range 4).foldl (fun n j => n + (s.capturing (4 * k + j)).toNat * 2 ^ j) 0

/-! ### Ports (R228 to R230, R233, Table FIR-4) -/

def State.port (s : State) (n : Nat) : PortUse := Sparse.get (fun _ => .clamped) s.fir.ports n
def State.setPort (s : State) (n : Nat) (u : PortUse) : State :=
  { s with fir := { s.fir with ports := Sparse.set (fun _ => .clamped) s.fir.ports n u } }

/-- The port from which path `p` sends, and the one at which it receives (R232). -/
def sendPort (v : Nat → Word) (p : Nat) (rev : Bool) : Nat := vget v (if rev then FIR_PATH_A.PORTB p else FIR_PATH_A.PORTA p)
def recvPort (v : Nat → Word) (p : Nat) (rev : Bool) : Nat := sendPort v p !rev

/-- The ports of a member take their parts in a shot: one to its driver, the other to the member's receive channel with GAIN and the termination
(Table FIR-4, steps 1 and 6). -/
def State.connect (s : State) (v : Nat → Word) (rev : Bool) (m : Member) : State :=
  if m.armed then
    (s.setPort (sendPort v m.path rev) .driver).setPort (recvPort v m.path rev)
      (.receiver m.rx (vget v (FIR_PATH_C.GAIN m.path)) (von v (FIR_PATH_C.MATCH m.path)))
  else s

/-- The ports of a member are clamped to their guards (Table FIR-4, step 10). -/
def State.clampMember (s : State) (v : Nat → Word) (m : Member) : State :=
  (s.setPort (sendPort v m.path false) .clamped).setPort (sendPort v m.path true) .clamped

/-- Every shot of the present epoch that satisfies `sel` on its member and direction ends with loss `q`. -/
def State.loseWhere (s : State) (sel : Member → Bool → Bool) (q : Nat) : State :=
  match s.fir.cur with
  | none => s
  | some e =>
    ((List.range e.events.length).zip e.events).foldl (fun s (n, v) =>
      v.members.foldl (fun s m =>
        [false, true].foldl (fun s rev =>
          if sel m rev then s.loseShot e.id n m.path m.engine rev q false else s) s) s) s

/-- The shots in flight of the engines that satisfy `p` end DISCARDED (R102, R139, R255). -/
def State.discardFlying (s : State) (p : Nat → Bool) : State :=
  s.loseWhere (fun m rev => p m.engine && m.stage rev == .flying) 1

/-- Nothing prepared so far fires: firing resumes with an event whose preparation starts later (R256). DESIGN CHOICE (log 12). -/
def State.disarm (s : State) (p : Nat → Bool) : State :=
  match s.fir.cur with
  | none => s
  | some e => s.mapEpoch e.id (fun e => { e with events := e.events.map (fun v =>
      { v with members := v.members.map (fun m => if p m.engine then { m with armed := false } else m) }) })

/-- The epoch in progress is incomplete for an engine that had shots scheduled in it: INCOMPLETE, the causes so far, and EPOCH_INCOMPLETE (R252).
DEDUCED (log 12). -/
def State.closeEngine (s : State) (k : Nat) (c : EngineCount) : State :=
  if c.sched = 0 then s
  else ((s.put (ECH_EPB.INCOMPLETE k) 1).put (ECH_EPB.CAUSE k) c.causes).raise (Ev.EPOCH_INCOMPLETE k)

/-- The epochs and the engines' work end without a result: a power-fail declaration or a reset store closes the epoch in progress
incomplete (R102, R151); an epoch in its tail is not published, since the load is shed (R102). The ports are clamped. -/
def State.closeEpochs (s : State) : State :=
  let s := s.discardFlying (fun _ => true)
  let s := match s.fir.cur with
    | some e => ([0, 1, 2, 3].zip e.engines).foldl (fun s (k, c) => State.closeEngine s k c) s
    | none => s
  State.showActive { s with fir := { s.fir with cur := none, tails := [], queues := [], ports := [] }, arv := { s.arv with waiting := [] } }

/-- The rest of the epoch in which a freeze began is NOT_FIRED after resume (R255). -/
def State.stopEpoch (s : State) : State :=
  let s := s.loseWhere (fun m rev => m.stage rev == .waiting) 0
  match s.fir.cur with
  | none => s
  | some e =>
    let s := s.mapEpoch e.id (fun e => { e with stopped := true, notBefore := s.time.cyc + 328
                                                events := e.events.map (fun v => { v with released := true }) })
    State.showActive { s with fir := { s.fir with ports := [] } }

/-- A clock set moves the boundary that ends the present epoch to `left` µs from now: the events of its schedule that
have not begun and would not be free 1 ms before that end are removed (R254). -/
def State.trimEpoch (s : State) (left : Nat) : State :=
  match s.fir.cur with
  | none => s
  | some e =>
    let endUs := cycUs (s.time.cyc - e.startCyc) + left
    let gone (v : FireEvent) : Bool := !v.prepared && decide (endUs < v.free + 1000)
      && v.members.all (fun m => m.fwd == .waiting && m.rev == .waiting)
    let count (k : Nat) : Nat := e.events.foldl (fun n v => if gone v then
      n + 2 * (v.members.filter (fun m => m.engine == k)).length else n) 0
    s.mapEpoch e.id (fun e => { e with
      notBefore := s.time.cyc + 328
      events := e.events.map (fun v => if gone v then { v with members := [] } else v)
      engines := (List.range e.engines.length).map (fun k =>
        let c := e.engines.getD k EngineCount.zero
        { c with sched := c.sched - count k }) })

/-! ### What an engine needs to fire (R251, R258) -/

/-- VDRV good, the engine's EPLL locked and its TDC in range, and the system clocks not on the SRO. -/
def State.engineReady (s : State) (k : Nat) : Bool :=
  s.on PWR_STAT.VDRVOK && (s.get CLK_STAT.EPLLOK).testBit k && (s.get CLK_STAT.TDCOK).testBit k && !s.on CLK_STAT.SYSSRC

/-- Every page backing the path's words and its burst profile has been recalled (R258). -/
def State.pathRecalled (s : State) (v : Nat → Word) (p : Nat) : Bool :=
  if s.boot.unrecalled.isEmpty then true
  else
    let (k, b) := pathBurst v p
    [FIR_PATH_A.addr p, FIR_PATH_B.addr p, FIR_PATH_C.addr p, FIR_PATH_D.addr p, ECH_BURST0.addr k b, ECH_BURST1.addr k b].all
      (fun a => !s.boot.unrecalled.contains (slotAddr a / 256))

/-- A measurement of engine k's TDC ring period in ps (R260, Table CLK-5): outside 230 to 290 MHz the TDC is out of range,
and TDC_RANGE is raised where it was in range; two measurements in range in a row bring it back. -/
def State.tdcMeasure (s : State) (k ps : Nat) : State :=
  let s := (s.put (ECH_TDC.PERIOD k) ps).put (ECH_TDC.LSB k) ps
  let ok := (s.get CLK_STAT.TDCOK).testBit k
  let setGood (s : State) (n : Nat) : State :=
    { s with clk := { s.clk with tdcGood := Sparse.set (fun _ => 0) s.clk.tdcGood k n } }
  if decide (230 * ps ≤ 1000000) && decide (1000000 ≤ 290 * ps) then
    if ok then s
    else
      let n := Sparse.get (fun _ => 0) s.clk.tdcGood k + 1
      if 2 ≤ n then setGood (s.put CLK_STAT.TDCOK (s.get CLK_STAT.TDCOK ||| 2 ^ k)) 0 else setGood s n
  else if ok then setGood ((s.put CLK_STAT.TDCOK (s.get CLK_STAT.TDCOK - 2 ^ k)).raise (Ev.TDC_RANGE)) 0
  else setGood s 0

/-- The self-calibration of a receive channel (R261): the offset where it is accepted; a missed pulse, or an offset more
than 100 ps from the mean of the accepted ones, fails and is counted. The first one is never compared. -/
def State.calibrate (s : State) (rx : Nat) (pulse : Option Int) : State × Option Int :=
  let k := rx / 4
  let j := rx % 4
  match pulse with
  | none => (s.bump (ECH_CAL.FAILS k j), none)
  | some phi =>
    let past := Sparse.get (fun _ => []) s.arv.phi rx
    let n := past.length
    let dev : Int := (n : Int) * phi - past.foldl (· + ·) 0
    let s := (s.putI (ECH_CAL.OFFSET k j) phi).put (ECH_CAL.RESID k j) (min 255 (if n = 0 then 0 else (roundDiv dev n).natAbs))
    if 100 * n < dev.natAbs then (s.bump (ECH_CAL.FAILS k j), none) else (s, some phi)

/-- The φ history of a path whose arrival settings an apply changed is cleared for the shots of the new version (R283). -/
def State.resetPhi (s : State) (rx : Nat) : State :=
  { s with arv := { s.arv with phi := Sparse.erase s.arv.phi rx } }

/-- The calibrations of the unit's receive channels, before the shot of the given direction. -/
def State.calibrateUnit (s : State) (id n : Nat) (cals : List CalPulse) (ms : List Member) : State :=
  ms.foldl (fun s m =>
    if m.armed then
      let pulse := match cals.find? (fun c => c.rx.val == m.rx) with
        | some c => c.phi
        | none => none
      let (s, cal) := s.calibrate m.rx pulse
      s.mapEpoch id (fun e => e.mapMember n m.path (fun m => { m with cal := cal }))
    else s) s

/-- Is the part running and measuring: in Run, not frozen. -/
def State.measuring (s : State) : Bool := s.mode == .run && !s.umb.frozen

/-- SHOT_PREPARATION of event `n` of the present schedule, 50 µs before its forward fire (Table FIR-4, steps 1 and 2): the engines' TDC rings
are measured, the members whose engine and VDRV are good and whose configuration has been recalled are armed and their ports connected, the
engines of every member are occupied, and each receive channel calibrates itself. -/
def execShotPreparation (n : Nat) (rings : List (Fin 4 × Nat)) (cals : List CalPulse) (s : State) : Out :=
  match s.fir.cur with
  | none => go s
  | some e =>
    match e.events[n]? with
    | none => go s
    | some v =>
      if s.measuring && !e.stopped && !v.prepared && !v.members.isEmpty && inCycle (s.epochCycles e) (v.fwd - 50) then
        let before := [0, 1, 2, 3].map s.engineReady
        let s := rings.foldl (fun s (k, ps) =>
          if v.members.any (fun m => m.engine == k.val) then s.tdcMeasure k.val ps else s) s
        let arm (m : Member) : Member :=
          { m with armed := before.getD m.engine false && s.engineReady m.engine && s.pathRecalled e.view m.path }
        let ms := v.members.map arm
        let s := s.mapEpoch e.id (fun e => { e with events := mapIdx n (fun v =>
          { v with prepared := true, members := v.members.map arm }) e.events })
        let s := ms.foldl (fun s m => s.connect e.view false m) s.showActive
        go (s.calibrateUnit e.id n cals ms)
      else go s

/-- The member's shot of the given direction is not fired, and its mirror will not be either. -/
def State.notFired (s : State) (e : Epoch) (n : Nat) (rev : Bool) (m : Member) : State :=
  let s := s.mapEpoch e.id (fun e => e.mapMember n m.path (fun m => { m with armed := false }))
  s.loseShot e.id n m.path m.engine rev 0 false

/-- VDRV in mV: the pump setpoint of the Pod profile (R85), and in the Hub profile what the board supplies. -/
def State.vdrvMv (s : State) (board : Nat) : Nat := if s.pod then 5000 + 500 * s.get PWR_DRV.SET else board

/-- The level that the driver of a burst of amplitude AMP delivers, in mV, from VDRV (R229). -/
def driveLevel (v : Nat → Word) (p vdrv : Nat) : Nat :=
  let (k, b) := pathBurst v p
  min (100 * vget v (ECH_BURST1.AMP k b)) (vdrv - 2000)

/-- One member fires in the given direction, or its shot is NOT_FIRED (R244, R251): its burst goes out from its port; a driver that lacks 2.0 V of
headroom clips (R229). -/
def State.fireMember (s : State) (e : Epoch) (n vdrv : Nat) (rev : Bool) (m : Member) : State :=
  if m.stage rev != .waiting then s
  else if m.armed && s.engineReady m.engine then
    let s := s.mapEpoch e.id (fun e => (e.mapMember n m.path (fun m => m.setStage rev .flying)).mapEngine m.engine
      (fun c => { c with fired := c.fired + 1 }))
    let s := s.connect e.view rev m
    let w := pathWave e.view m.path (driveLevel e.view m.path vdrv)
    let s := { s with fir := { s.fir with sent := Sparse.insert s.fir.sent (sendPort e.view m.path rev) w } }
    let (k, b) := pathBurst e.view m.path
    if vdrv < 100 * vget e.view (ECH_BURST1.AMP k b) + 2000 then (s.put (ECH_STAT.CLIP k) 1).raise (Ev.AMP_CLIP k) else s
  else s.notFired e n rev m

/-- The shots of an event in one direction, at their scheduled time; one whose time went by is not fired, and none is moved (R244). -/
def State.fireEvent (s : State) (e : Epoch) (n vdrv : Nat) (rev : Bool) (v : FireEvent) : State :=
  let c := s.epochCycles e
  if inCycle c (v.fireAt rev) then v.members.foldl (fun s m => s.fireMember e n (s.vdrvMv vdrv) rev m) s
  else if wentBy c (v.fireAt rev) then
    v.members.foldl (fun s m => if m.stage rev == .waiting then s.notFired e n rev m else s) s
  else s

/-- FORWARD_FIRE of event `n`, with VDRV in mV. -/
def execForwardFire (n vdrv : Nat) (s : State) : Out :=
  match s.fir.cur with
  | none => go s
  | some e =>
    match e.events[n]? with
    | none => go s
    | some v => if s.measuring && !e.stopped then go (s.fireEvent e n vdrv false v) else go s

/-- The forward shots of event `n` that have not fired by its reverse fire are NOT_FIRED. -/
def State.missForward (s : State) (e : Epoch) (n : Nat) (v : FireEvent) : State :=
  v.members.foldl (fun s m => if m.fwd == .waiting then s.notFired e n false m else s) s

/-- REVERSE_FIRE of event `n`, w(u) + g(u) after the forward fire, its forward captures closed (R239): the rings and the channels are measured
again (Table FIR-4, step 7), and the reverse shots fire. -/
def execReverseFire (n vdrv : Nat) (rings : List (Fin 4 × Nat)) (cals : List CalPulse) (s : State) : Out :=
  match s.fir.cur with
  | none => go s
  | some e =>
    match e.events[n]? with
    | none => go s
    | some v =>
      if s.measuring && !e.stopped && hasCome (s.epochCycles e) v.rev && v.members.all (fun m => m.fwd != .flying) then
        let s := s.missForward e n v
        let s := rings.foldl (fun s (k, ps) =>
          if v.members.any (fun m => m.engine == k.val) then s.tdcMeasure k.val ps else s) s
        match s.fir.cur.bind (fun e => e.events[n]?) with
        | none => go s
        | some v =>
          let s := s.calibrateUnit e.id n cals (v.members.filter (fun m => m.rev == .waiting))
          match s.fir.cur.bind (fun e => e.events[n]?) with
          | none => go s
          | some v => go (s.fireEvent e n vdrv true v)
      else go s

/-- The flying shot that satisfies `sel`: event, member, direction. -/
def findFlying (e : Epoch) (sel : Member → Bool → Bool) : Option (Nat × Member × Bool) :=
  (((List.range e.events.length).zip e.events).flatMap (fun (n, v) =>
    v.members.flatMap (fun m => [(n, m, false), (n, m, true)]))).find? (fun (_, m, rev) =>
      m.stage rev == .flying && sel m rev)

/-- The burst of the shot that a port sends runs now: it has started, and its length has not run out (R251, log 30). -/
def State.bursting (s : State) (e : Epoch) (n : Nat) (m : Member) (rev : Bool) : Bool :=
  match e.events[n]? with
  | some v => decide (mkRat (1000000 * cycUs (s.epochCycles e)) 1 < mkRat (1000000 * v.fireAt rev) 1 + (pathWave e.view m.path 0).ps)
  | none => false

/-- DRIVE_FAULT at a port (R257): its driver reaches its current limit during the burst, the shot it transmits ends DRIVE_FAULT, and the port's bit
in PORTFLT sets. -/
def execDriveFault (port : Fin 64) (s : State) : Out :=
  match s.fir.cur with
  | none => go s
  | some e =>
    match findFlying e (fun m rev => sendPort e.view m.path rev == port.val) with
    | none => go s
    | some (n, m, rev) =>
      if s.bursting e n m rev then
        let s := s.loseShot e.id n m.path m.engine rev 3 false
        let f := ECH_PORTFLT.SHORT (port.val / 16)
        go (s.put f (s.get f ||| 2 ^ (port.val % 16)))
      else go s

def State.shotQueue (s : State) (k : Nat) : List Shot := Sparse.get (fun _ => []) s.fir.queues k
def State.setShotQueue (s : State) (k : Nat) (q : List Shot) : State :=
  { s with fir := { s.fir with queues := Sparse.set (fun _ => []) s.fir.queues k q } }

/-- A drop at crossing queue `q` is counted (R130). -/
def State.countDrop (s : State) (q : Nat) : State := (s.bump (CLK_QCNT.DROPS q)).raise Ev.QUEUE_DROP

/-- An arriving entry is dropped at the crossing queue `q`, which holds its 16 records or 4 results (Table CLK-4, R129). -/
def State.queueDrop (s : State) (q : Nat) : State := (s.countDrop q).peak (CLK_QCNT.PEAK q) (if q < 4 then 16 else 4)

/-- The roles of an event's ports are swapped once its last forward capture has closed (Table FIR-4, step 6). -/
def State.swapRoles (s : State) (e : Epoch) (n : Nat) (rev : Bool) : State :=
  match s.fir.cur.bind (fun e => e.events[n]?) with
  | some v => if !rev && v.members.all (fun m => m.fwd != .flying) then v.members.foldl (fun s m => s.connect e.view true m) s else s
  | none => s

/-- CAPTURE_CLOSE of path `p`, WOPEN and WLEN after its fire: the record joins the engine's queue of 16, or is dropped with OVERRUN (Table CLK-4),
and behind the last forward capture the roles are swapped. -/
def execCaptureClose (p : Fin 32) (cap : Capture) (s : State) : Out :=
  match s.fir.cur with
  | none => go s
  | some e =>
    match findFlying e (fun m _ => m.path == p.val) with
    | none => go s
    | some (n, m, rev) =>
      let close := (e.events[n]?.map (fun v => v.fireAt rev)).getD 0 + vget e.view (FIR_PATH_B.WOPEN m.path)
        + vget e.view (FIR_PATH_B.WLEN m.path)
      let q := s.shotQueue m.engine
      if !(s.measuring && hasCome (s.epochCycles e) close) then go s
      else if 16 ≤ q.length then go (((s.loseShot e.id n m.path m.engine rev 2 false).queueDrop m.engine).swapRoles e n rev)
      else
        let s := s.mapEpoch e.id (fun e => e.mapMember n m.path (fun m => m.setStage rev .queued))
        let s := (s.setShotQueue m.engine (q ++ [⟨e.id, n, m.path, rev, m.cal, cap⟩])).peak (CLK_QCNT.PEAK m.engine) (q.length + 1)
        go (s.swapRoles e n rev)

/-- UNIT_RELEASE of event `n`, 20 µs after its reverse captures (Table FIR-4, step 10): a shot of it that no command fired is NOT_FIRED, the ports
are clamped and its engines are free. -/
def execUnitRelease (n : Nat) (s : State) : Out :=
  match s.fir.cur with
  | none => go s
  | some e =>
    match e.events[n]? with
    | none => go s
    | some v =>
      if s.measuring && v.prepared && !v.released && hasCome (s.epochCycles e) v.free
          && v.members.all (fun m => m.fwd != .flying && m.rev != .flying) then
        let s := [false, true].foldl (fun s rev =>
          v.members.foldl (fun s m => if m.stage rev == .waiting then s.notFired e n rev m else s) s) s
        let s := s.mapEpoch e.id (fun e => { e with events := mapIdx n (fun v => { v with released := true }) e.events })
        go (v.members.foldl (fun s m => s.clampMember e.view m) s.showActive)
      else go s

/-! ### The epoch boundary (R242, R243, R248) -/

/-- The value of each channel that has a valid one (R298). -/
def State.channelValues (s : State) : List (Nat × Int) :=
  s.flo.channels.filterMap (fun (c, h) => h.value.map (fun x => (c, x)))

/-- A new epoch from the live configuration. -/
def State.newEpoch (s : State) : Epoch :=
  let v := s.view
  let evs := (buildSchedule s.pod v (s.get FIR_EPOCH.EPLOG)).1
  let member (u : List Nat) (p : Nat) : Member := ⟨p, pathEngine v p, pathRx v u p, .waiting, .waiting, false, none, none⟩
  { id := s.fir.nextId, startRtc := s.time.rtc.toNat, startCyc := s.time.cyc, eplog := s.get FIR_EPOCH.EPLOG,
    ver := s.get STG_VER.CFGVER, cfg := s.regs,
    events := evs.map (fun e => ⟨e.unit.map (member e.unit), e.fwd, e.rev, e.free, false, false⟩),
    engines := [0, 1, 2, 3].map (fun k => ⟨engineShots s.pod v k, 0, 0, 0⟩),
    first := s.fir.nextId == 0, span := 0, notBefore := 0, stopped := false, len := 0, endRtc := 0, endRun := 0, converted := [], inputs := 0, pairs := [],
    values := [], cut := false, results := [], flows := [], refused := false }

/-- The present epoch ends: what is left of its schedule was not fired, its length and the channels' values stand, and its
tail begins (R249). -/
def State.endEpoch (s : State) : State :=
  let s := s.loseWhere (fun m rev => m.stage rev == .waiting) 0
  match s.fir.cur with
  | none => s
  | some e =>
    let e := { e with len := (s.time.cyc - e.startCyc) / 32, endRtc := s.time.rtc.toNat, endRun := s.time.runCyc
                      inputs := s.pins.inputs, values := s.channelValues }
    State.showActive { s with fir := { s.fir with cur := none, tails := s.fir.tails ++ [e], ports := [] } }

/-- Is now an epoch boundary: a whole multiple of the epoch length on the RTC (R162), the first one at least 1 ms after
METER_READY, and none before the present epoch may end (R254, R255)? -/
def State.atBoundary (s : State) : Bool :=
  let step (n : Nat) : Bool := s.time.presc == 0 && s.time.rtc.toNat % 2 ^ n == 0
  match s.fir.cur with
  | none => step (s.get FIR_EPOCH.EPLOG) && decide (s.fir.notBefore ≤ s.time.cyc)
  | some e => step e.eplog && decide (e.notBefore ≤ s.time.cyc) && decide (e.startCyc < s.time.cyc)

/-- EPOCH_BOUNDARY: the epoch in progress ends, and the next one starts with the schedule of the live configuration. -/
def execEpochBoundary (s : State) : Out :=
  if s.measuring && s.boot.legalLoaded && s.boot.steps.testBit 4 && s.atBoundary then
    let s := s.endEpoch.reach 7
    go { s with fir := { s.fir with cur := some s.newEpoch, nextId := s.fir.nextId + 1 } }
  else go s

end Sys2Proof.Machine
end

