-- ==== Sys2Proof/Machine/Leases.lean ====
section
/-! DEFINITION. Leases and fences of Twill (chapter 01, R31 to R37, R42 to R45, R50; chapter 22, R597 to R599), and the
record of a refused access (R27, R29). -/

namespace Sys2Proof.Machine

/-- A free lease. -/
def Lease.free (_ : Nat) : Lease := ⟨none, 0, []⟩

def State.lease (s : State) (k : Nat) : Lease := Sparse.get Lease.free s.fab.leases k

/-- The lease as TWL_LEASEk shows it, REMAIN apart (Table FAB-12). -/
def State.showLease (s : State) (k : Nat) : State :=
  let l := s.lease k
  ((s.putB (TWL_LEASE.HELD k) l.holder.isSome).put (TWL_LEASE.HOLDER k) (l.holder.getD 0)).put (TWL_LEASE.QLEN k) l.queue.length

def State.setLease (s : State) (k : Nat) (l : Lease) : State :=
  State.showLease { s with fab := { s.fab with leases := Sparse.set Lease.free s.fab.leases k l } } k

/-- RESULT of an initiator's latest lease command (Table FAB-13): 0 NONE, 1 GRANTED, 2 QUEUED, 3 NOT_HOLDER,
4 RENEW_DENIED, 5 RELEASED, 6 REVOKED, 7 OFF_PROFILE. -/
def State.leaseResult (s : State) (i : Nat) : Nat := Sparse.get (fun _ => 0) s.fab.result i

def State.setLeaseResult (s : State) (i r : Nat) : State :=
  { s with fab := { s.fab with result := Sparse.set (fun _ => 0) s.fab.result i r } }

/-- Is the initiator fenced (R35)? -/
def State.fenced (s : State) (i : Nat) : Bool := if i = 13 then s.on TWL_INIT13.FENCED else s.on (TWL_INIT.FENCED i)

def State.setFenced (s : State) (i : Nat) (b : Bool) : State :=
  if i = 13 then s.putB TWL_INIT13.FENCED b else s.putB (TWL_INIT.FENCED i) b

/-- Arbitration class of an initiator (Table FAB-1). -/
def initClass (i : Nat) : Nat := if i ≤ 2 then 3 else if i ≤ 8 then 0 else if i = 9 then 1 else if i ≤ 12 then 2 else 3

/-- The sealed-write right, fixed in silicon (Table FAB-1). -/
def sealedRight (i : Nat) : Bool := decide (i = 0 ∨ (3 ≤ i ∧ i ≤ 9))

/-- Only LGC, APC, NWC and the host bridge send lease commands (R42, R597). -/
def sendsLeases (i : Nat) : Bool := decide (i ≤ 2 ∨ i = 13)

/-- The duration of a grant, µs (Table FAB-14). -/
def State.leaseDur (s : State) (k : Nat) : Nat := 100 * s.get (TWL_LEASE_DUR.DUR k)

/-- REMAIN of a held lease, 10 µs units rounded down (Table FAB-12). -/
def State.leaseRemain (s : State) (k : Nat) : Nat :=
  if (s.lease k).holder.isSome then ((s.lease k).expiry - s.runUs) / 10 else 0

/-- The queue with `i` added: by class, lower class first, and then by arrival (R33). -/
def enqueueClass (i : Nat) : List Nat → List Nat
  | [] => [i]
  | j :: q => if initClass i < initClass j then i :: j :: q else j :: enqueueClass i q

/-- Lease `k` granted to `i` for a full duration. -/
def State.grantLease (s : State) (k i : Nat) (q : List Nat) : State :=
  s.setLease k ⟨some i, s.runUs + s.leaseDur k, q⟩

/-- Lease `k` falls free and passes to the head of its queue in the same cycle, for a full duration (R33); a RESULT that
reads QUEUED becomes GRANTED (R50). -/
def State.passLease (s : State) (k : Nat) : State :=
  match (s.lease k).queue with
  | [] => s.setLease k ⟨none, 0, []⟩
  | i :: q => if s.leaseResult i = 2 then (s.grantLease k i q).setLeaseResult i 1 else s.grantLease k i q

/-! ### The host bridge's waiting accesses (R173, R174, R184) -/

/-- A refused host access in H_BUSERR: its code, its register and its interface (R174). -/
def State.hostRefusal (s : State) (code off : Nat) : State :=
  let s := ((s.put H_BUSERR.CODE code).put H_BUSERR.OFFSET off).putB H_BUSERR.SER (s.on SYS_STRAP.HOSTMODE)
  (s.bump H_BUSERR.COUNT).raise Ev.HOST_REFUSED

/-- The window whose register A[6:1] = `off` is, if it is one (Table HST-1). -/
def windowOf (off : Nat) : Option Nat := if 12 ≤ off ∧ off < 27 then some ((off - 12) / 5) else none

/-- A refusal of host register `off` shows in the window's CODE too (Table HST-16). -/
def State.windowCode (s : State) (off code : Nat) : State := match windowOf off with
  | some n => s.put (W_STAT.CODE n) code
  | none => s

/-- The accesses that wait in the forwarding slots end with a refusal: they are recorded, the slots are free, and WAIT_N is released. A read
returns 0 (R173, R174, R199, R599). -/
def State.endHostAccesses (s : State) (code : Nat) : State :=
  let s := s.hst.slots.foldl (fun s x => (s.windowCode x.2.off code).hostRefusal code x.2.off) s
  { s with hst := { s.hst with slots := [], data := if s.hst.slots.any (fun x => !x.2.write) then 0 else s.hst.data }
           pins := { s.pins with waitLow := false } }

/-- The target holds acceptance until its flush after a revocation is done (R25, R598). -/
def State.flushing (s : State) (t : Nat) : Bool := s.fab.flushes.any (fun x => x % 4 + 10 == t)

/-- The target that serves word `a`; 31 where the address decodes to nothing. -/
def busTarget (a : Nat) : Nat :=
  let b := a / 0x10000
  if 0x40 ≤ b ∧ b ≤ 0x47 then b - 0x40
  else if b ≤ 4 ∨ b = 0x19 ∨ b = 0x1B then 16
  else if 8 ≤ b ∧ b ≤ 0xF then 17
  else if b = 0x11 then (if a % 0x10000 < 0x8000 then 18 else 10)
  else if b = 0x18 then (if a % 0x10000 < 0x4000 then 18 else 14)
  else if b = 0x10 ∨ b = 0x17 ∨ b = 0x1A ∨ b = 0x1C then 18
  else if 0x12 ≤ b ∧ b ≤ 0x16 then 19
  else 31

/-- A refusal: the code goes to the initiator with its access, the refusal is counted and recorded, and the events of
SEALED, DECODE and REFUSED_BUSY are raised (R27, R29, Table FAB-15). A refusal with DECODE names no target: 31. -/
def State.refuse (s : State) (i code target : Nat) : State :=
  let s := { s with fab := { s.fab with outcome := Sparse.insert s.fab.outcome i ⟨code, 0, false⟩ } }
  let s := s.bump (TWL_CNT.REFUSED i)
  let s := (s.put (TWL_LAST.CODE i) code).put (TWL_LAST.TARGET i) (if code = 8 then 31 else target)
  ((s.raiseIf (code == 3) Ev.SEALED_REFUSE).raiseIf (code == 8) Ev.DECODE_REFUSE).raiseIf (code == 1) Ev.BUSY_REFUSE

/-- An access that initiator `i` makes of itself was refused, if it was: it is counted and recorded (R29). -/
def State.denied (s : State) (i : Nat) : Option Denial → State
  | some d => s.refuse i (if d.dataErr then 7 else 1) d.target.val
  | none => s

/-- The code of Calico word `k` as a read finds it: whether the word is good, and the state. A single-bit error is corrected and counted, and the
stored word left as it is; a double-bit error is recorded (R21). -/
def State.eccRead (s : State) (k : Nat) : Bool × State :=
  if s.fab.eccDouble.contains k then
    (false, (((s.bump TWL_ECC.UNCORR).put TWL_ECC.BANK (k / 0x10000)).put TWL_ECC_ADDR.ADDR k).raise Ev.ECC_UNCORR)
  else if s.fab.eccSingle.contains k then (true, (s.bump TWL_ECC.CORR).raise Ev.ECC_CORR)
  else (true, s)

/-- Initiator `i` reads the `n` Calico words from `lo` on: whether every one is good, and the state. A bad word refuses its read with DATA_ERR. -/
def State.eccSweep (s : State) (i lo n : Nat) : Bool × State :=
  let hit (k : Nat) : Bool := decide (lo ≤ k) && decide (k < lo + n)
  let bad := s.fab.eccDouble.filter hit
  let s := (s.fab.eccSingle.filter (fun k => hit k && !s.fab.eccDouble.contains k)).foldl (fun s k => (s.eccRead k).2) s
  (bad.isEmpty, bad.foldl (fun s k => (s.eccRead k).2.refuse i 7 (k / 0x10000)) s)

/-- The requests of `i` that still wait are withdrawn and refused with `code` (R35). -/
def State.withdraw (s : State) (i code : Nat) : State :=
  let mine := s.fab.waiting.filter (fun r => r.init == i)
  let s := { s with fab := { s.fab with waiting := s.fab.waiting.filter (fun r => r.init != i) } }
  mine.foldl (fun s r => s.refuse i code r.target) s

/-- The queue places of `i` are removed from every lease (R35, R600). -/
def State.leaveQueues (s : State) (i : Nat) : State :=
  [0, 1, 2, 3].foldl (fun s k => s.setLease k { s.lease k with queue := (s.lease k).queue.filter (· != i) }) s

/-- A fence is set on `i` (R35): waiting requests withdrawn with FENCED, queue places removed, the domain reset begins
(R599). -/
def State.fence (s : State) (i : Nat) : State :=
  let s := (s.setFenced i true).raise Ev.FENCE_SET
  let s := (s.withdraw i 5).leaveQueues i
  let s := if i = 13 then { (s.endHostAccesses 5) with pins := { s.pins with dOut := none, waitLow := false } } else s
  { s with fab := { s.fab with resets := s.fab.resets ++ [i] } }

/-- A lease command of `i` turned away before it is taken: a fenced initiator's command is
refused with FENCED, whatever lease it names (R35). -/
def State.leaseCommandFenced (s : State) (i : Nat) : State := (s.refuse i 5 16).setLeaseResult i 3

/-- In the Pod profile lease 3 does not exist (R32). -/
def State.leaseOff (s : State) (k : Nat) : Bool := s.pod && k == 3

/-- ACQUIRE (R33). -/
def State.acquire (s : State) (i k : Nat) : State :=
  if s.fenced i then s.leaseCommandFenced i
  else if s.leaseOff k then s.setLeaseResult i 7
  else match (s.lease k).holder with
    | none => (s.grantLease k i (s.lease k).queue).setLeaseResult i 1
    | some h =>
      if h = i then s.setLeaseResult i 1
      else if (s.lease k).queue.contains i then s.setLeaseResult i 2
      else (s.setLease k { s.lease k with queue := enqueueClass i (s.lease k).queue }).setLeaseResult i 2

/-- RENEW (R34). -/
def State.renew (s : State) (i k : Nat) : State :=
  if s.fenced i then s.leaseCommandFenced i
  else if s.leaseOff k then s.setLeaseResult i 7
  else if (s.lease k).holder = some i then
    if (s.lease k).queue.isEmpty then (s.grantLease k i []).setLeaseResult i 1 else s.setLeaseResult i 4
  else s.setLeaseResult i 3

end Sys2Proof.Machine
end

