-- ==== Sys2Proof/Machine/Arrival.lean ====
section
/-! DEFINITION. Arrival detection and the speed of sound (chapter 09): the processing of a shot into a time of flight and a
quality, the histories of a path, the speed of sound and the medium table. -/

namespace Sys2Proof.Machine

/-! ### Histories -/

/-- A path's running peaks, reference TOFs and template are cleared (R283); its run of rejections goes on (R273). -/
def State.clearHistories (s : State) (p : Nat) : State :=
  let t := s.template p
  ((s.setPathHistory p false (PathHistory.empty 0)).setPathHistory p true (PathHistory.empty 0)).setTemplate p
    { PathTemplate.empty 0 with rejects := t.rejects, raised := t.raised }

/-- Every history is empty at a start (R284). -/
def State.clearArrival (s : State) : State :=
  { s with arv := { history := [], template := [], phi := [], waiting := [], resets := [] } }

/-! ### One shot measured (R262 to R268) -/

def meanDown (xs : List Nat) : Nat := xs.foldl (· + ·) 0 / xs.length

/-- The running peak: the mean, rounded down, of the amplitudes of the accepted shots; the shot's own where none exists (R265). -/
def PathHistory.peak (h : PathHistory) (amp : Nat) : Nat := if h.amps.isEmpty then amp else meanDown h.amps

/-- The amplitude: the largest absolute sample (R265). -/
def captureAmp (c : Capture) : Nat := maxOf (c.samples.map (fun b => (sampleOf b).natAbs))

/-- Samples at +2,047 or −2,048. -/
def captureRails (c : Capture) : Nat := (c.samples.filter (fun b => sampleOf b == 2047 || sampleOf b == -2048)).length

/-- The index of the first sample at or above `thr`. -/
def firstAtLeast (thr : Nat) : List (BitVec 12) → Nat → Option Nat
  | [], _ => none
  | b :: bs, i => if (thr : Int) ≤ sampleOf b then some i else firstAtLeast thr bs (i + 1)

/-- A carrier period, T = 1/FREQ, in ps. -/
def periodPs (v : Nat → Word) (p : Nat) : Rat := mkRat 1000000000 (pathFreq v p)

/-- The main lobe of the correlation, ps to either side (R264). -/
def mainLobe (v : Nat → Word) (p : Nat) : Rat :=
  let (k, b) := pathBurst v p
  let t := periodPs v p
  match vget v (ECH_BURST0.TYPE k b) with
  | 0 => mkRat (vget v (ECH_BURST0.CYC k b)) 1 * t
  | 3 => 2 * t
  | _ => mkRat (vget v (ECH_BURST0.CPC k b) + 1) 1 * t

/-- What processing finds in a shot: the code of its tests up to 0x7 (0 where none applies yet), whether the amplitude test
of R268 gave it, its amplitude, and its TOF in fs where one can be formed. -/
structure Measured where
  code : Nat
  ampTest : Bool
  amp : Nat
  tof : Option Int
  deriving DecidableEq, Repr

/-- The arrival in ps from the opening of the capture, the TOF in fs (R262, R266), and the code 4, 5 or 6 if one applies. `caps`: the captures of
the learned template in use. -/
def findArrival (v : Nat → Word) (caps : List Capture) (p peak : Nat) (phi : Int) (c : Capture) : Option Rat × Option Int × Nat :=
  let t := periodPs v p
  let wopen := vget v (FIR_PATH_B.WOPEN p)
  let wlen := vget v (FIR_PATH_B.WLEN p)
  if vget v (ARV_PATH_M.MODE p) = 1 then
    let lobe := mainLobe v p
    match correlateCapture (pathTemplate v p caps) lobe c with
    | none => (none, none, 4)
    | some x =>
      let arr := x.tau - x.psi * t
      let tof := roundQ (1000 * (mkRat (1000000 * wopen) 1 + arr - mkRat phi 1))
      let sidemax := mkRat (vget v (ARV_PATH_Q.SIDEMAX p)) 256
      let code :=
        if 256 * x.rho < mkRat (vget v (ARV_PATH_M.RHOMIN p)) 1 then 4
        else if x.tau < lobe || mkRat (1000000 * wlen) 1 - x.tau < lobe then 5
        else if sidemax * sidemax * x.main < x.side then 6
        else 0
      (some arr, some tof, code)
  else
    match firstAtLeast (vget v (ARV_PATH_M.THR p) * peak / 100) c.samples 0 with
    | none => (none, none, 4)
    | some i =>
      let zcsel := vget v (ARV_PATH_M.ZCSEL p)
      let n := vget v (ARV_PATH_M.ZCN p)
      let after := c.crossings.filter (fun x =>
        decide (1000000 * wopen + 15625 * i ≤ x) && decide (x ≤ 1000000 * (wopen + wlen)))
      if after.length < zcsel + n - 1 then (none, none, 5)
      else
        let ts := (after.drop (zcsel - 1)).take n
        let sum := ((List.range n).zip ts).foldl (fun (a : Rat) (i, x) => a + mkRat x 1 - mkRat i 1 * t) 0
        let mean := sum / mkRat n 1
        (some (mean - mkRat (1000000 * wopen) 1), some (1000 * roundQ (mean - mkRat phi 1)), 0)

/-- The largest absolute sample between the opening of the capture and 2T before the arrival (R268). -/
def capturePre (c : Capture) (limit : Rat) : Nat :=
  maxOf (((List.range c.samples.length).zip c.samples).map (fun (i, b) =>
    if mkRat (15625 * i) 1 ≤ limit then (sampleOf b).natAbs else 0))

/-- Codes 0x1 to 0x7 of Table ARV-1, R269 apart, in ascending order. -/
def measureShot (v : Nat → Word) (caps : List Capture) (h : PathHistory) (x : Shot) : Measured :=
  let p := x.path
  let amp := captureAmp x.cap
  let peak := h.peak amp
  match x.cal with
  | none => ⟨1, false, amp, none⟩
  | some phi =>
    let (arr, tof, code) := findArrival v caps p peak phi x.cap
    if 4 ≤ captureRails x.cap then ⟨2, false, amp, tof⟩
    else if amp < vget v (ARV_PATH_Q.AMIN p) then ⟨3, false, amp, tof⟩
    else if code ≠ 0 then ⟨code, false, amp, tof⟩
    else if h.amps.isEmpty then ⟨0, false, amp, tof⟩
    else if 2 * amp < peak || 2 * peak < amp then ⟨7, true, amp, tof⟩
    else
      let pre := match arr with
        | some a => capturePre x.cap (a - 2 * periodPs v p)
        | none => 0
      if vget v (ARV_PATH_Q.PRE p) * peak < 256 * pre then ⟨7, false, amp, tof⟩ else ⟨0, false, amp, tof⟩

/-! ### Finishing a shot (R269 to R274) -/

/-- Where QUALITY counts of Table ARV-9 stand. -/
def qualityCount (q p : Nat) : Fd :=
  match q with
  | 1 => ARV_QCNT0.CALFAIL p
  | 2 => ARV_QCNT0.SATURATED p
  | 3 => ARV_QCNT0.LOWAMP p
  | 4 => ARV_QCNT0.NOARRIVAL p
  | 5 => ARV_QCNT1.EDGE p
  | 6 => ARV_QCNT1.AMBIGUOUS p
  | 7 => ARV_QCNT1.DISTURBED p
  | _ => ARV_QCNT1.CYCLESKIP p

/-- ARV_LASTp after a processed shot (Table ARV-8). A shot for which no TOF can be formed leaves an open value there. -/
def State.showShot (s : State) (x : Shot) (q amp : Nat) (tof : Option Int) : State :=
  let p := x.path
  let (w, s) := match tof with
    | some t => (BitVec.ofInt 32 (roundDiv t 1000), s)
    | none => s.fresh
  let s := s.wr (if x.rev then ARV_LAST_R.addr p else ARV_LAST_F.addr p) w
  if x.rev then (s.put (ARV_LAST_Q.QR p) q).put (ARV_LAST_Q.AMPR p) amp
  else (s.put (ARV_LAST_Q.QF p) q).put (ARV_LAST_Q.AMPF p) amp

/-- An accepted shot moves the histories (R274) and ends the path's run of rejections (R273). -/
def State.acceptShot (s : State) (x : Shot) (rx amp : Nat) (tof : Int) : State :=
  let h := s.pathHistory x.path x.rev
  let s := s.setPathHistory x.path x.rev { h with amps := (amp :: h.amps).take 8, ref := some tof, disturbed := [] }
  let t := s.template x.path
  let s := s.setTemplate x.path { t with recent := (x.cap :: t.recent).take 16, rejects := 0, raised := false }
  let stale := s.arv.resets.any (fun r => r.1 == x.path && decide (x.epoch < r.2))
  match x.cal with
  | some phi =>
    if stale then s
    else
      let past := Sparse.get (fun _ => []) s.arv.phi rx
      { s with arv := { s.arv with phi := Sparse.set (fun _ => []) s.arv.phi rx ((phi :: past).take 16) } }
  | none => s

/-- A rejected shot is counted, raises its engine event, and as the eighth in a row REJECT_RUN, once per run, which an accepted shot ends (R273). -/
def State.rejectShot (s : State) (x : Shot) (k q : Nat) : State :=
  let s := (s.bump (qualityCount q x.path)).raise (159 + q + 64 * k)
  let t := s.template x.path
  let run := decide (7 ≤ t.rejects) && !t.raised
  (s.setTemplate x.path { t with rejects := min 8 (t.rejects + 1), raised := t.raised || run }).raiseIf run (Ev.REJECT_RUN x.path)

/-- The cycle-skip test (R270, R271) and the end of the shot. The answer says whether it was accepted. -/
def State.finishShot (s : State) (v : Nat → Word) (x : Shot) (rx : Nat) (m : Measured) : State × Bool :=
  let k := rx / 4
  let h := s.pathHistory x.path x.rev
  let h := if m.ampTest then h else { h with disturbed := [] }
  let tof := m.tof.getD 0
  let t := 1000 * periodPs v x.path
  let skip : Int := match m.code, h.ref with
    | 0, some r =>
      let d := mkRat (tof - r) 1
      let n := roundQ (d / t)
      if n ≠ 0 && absQ (d - mkRat n 1 * t) ≤ t / 5 then n else 0
    | _, _ => 0
  let run := if skip = 0 then 0 else if h.skipM = skip then h.skipN + 1 else 1
  let anchor := run == 4
  let q := if m.code ≠ 0 then m.code else if skip ≠ 0 && !anchor then 8 else 0
  let h := { h with skipM := if q = 8 then skip else 0, skipN := if q = 8 then run else 0 }
  let s := (s.setPathHistory x.path x.rev h).raiseIf anchor (Ev.REANCHOR k)
  let s := s.showShot x q m.amp m.tof
  let s := s.mapEpoch x.epoch (fun e => e.mapMember x.event x.path (fun m => m.setStage x.rev .processed))
  if q = 0 then (s.acceptShot x rx m.amp tof, true) else (s.rejectShot x k q, false)

/-- The metering point that owns path `p` in a configuration. -/
def ownerPoint (pod : Bool) (v : Nat → Word) (p : Nat) : Option Nat :=
  (List.range (mpCount pod)).find? (fun i => von v (FLO_CFG.EN i) && (vget v (FLO_PATHS.MASK i)).testBit p)

/-- A valid pair joins its epoch; one processed after B + 38 ms is counted and raises LATE_PAIR (R309). -/
def State.addPair (s : State) (v : Nat → Word) (id p : Nat) (tofF tofR : Int) : State :=
  let late := match s.epoch id with
    | some e => e.cut
    | none => true
  let s := s.mapEpoch id (fun e => { e with pairs := e.pairs ++ [⟨p, tofF, tofR, late⟩] })
  if late then
    match ownerPoint s.pod v p with
    | some i => (s.bump (FLO_STAT.LATE i)).raise (Ev.LATE_PAIR i)
    | none => s
  else s

/-- Sixteen shots DISTURBED in a row under the amplitude test re-anchor the running peak and test the shot again (R272). -/
def State.measureAgain (s : State) (v : Nat → Word) (caps : List Capture) (x : Shot) (k : Nat) : State × Measured :=
  let h := s.pathHistory x.path x.rev
  let m := measureShot v caps h x
  if m.ampTest then
    let run := (m.amp :: h.disturbed).take 16
    if run.length = 16 then
      let h := { h with amps := run.take 8, disturbed := [] }
      let s := (s.setPathHistory x.path x.rev h).raise (Ev.REANCHOR k)
      (s, measureShot v caps h x)
    else (s.setPathHistory x.path x.rev { h with disturbed := run }, m)
  else (s, m)

/-- Cleared histories for the first shot of a new version (R283). -/
def State.applyReset (s : State) (x : Shot) : State :=
  if s.arv.resets.any (fun r => r.1 == x.path && decide (r.2 ≤ x.epoch)) then
    let s := s.clearHistories x.path
    { s with arv := { s.arv with resets := s.arv.resets.filter (fun r => r.1 != x.path) } }
  else s

/-- The template of shot `x`, by the captures of the learned one ([]: the synthesised one is used): both shots of a pair use the one that was current
when the processing of the forward shot began. The first use of a learned template raises TEMPLATE (R263). -/
def State.useTemplate (s : State) (e : Epoch) (x : Shot) (k : Nat) : List Capture × State :=
  let v := e.view
  let t := s.template x.path
  let current := if vget v (ARV_PATH_M.MODE x.path) = 1 && vget v (ARV_PATH_M.TMPL x.path) = 1 then t.learned else []
  let member := (e.events[x.event]?).bind (fun w => w.members.find? (fun m => m.path == x.path))
  let caps := if x.rev then (member.bind (fun m => m.tmpl)).getD current else current
  let s := if x.rev then s else s.mapEpoch e.id (fun e => e.mapMember x.event x.path (fun m => { m with tmpl := some caps }))
  if !caps.isEmpty && !t.used then (caps, (s.setTemplate x.path { t with used := true }).raise (Ev.TEMPLATE k)) else (caps, s)

/-- The forward shot of the same pair that waits, if any, and the rest. -/
def State.mirrorOf (s : State) (x : Shot) : Option HalfPair :=
  s.arv.waiting.find? (fun h => h.shot.epoch == x.epoch && h.shot.event == x.event && h.shot.path == x.path)

def State.dropMirror (s : State) (x : Shot) : State :=
  { s with arv := { s.arv with waiting := s.arv.waiting.filter (fun h =>
    !(h.shot.epoch == x.epoch && h.shot.event == x.event && h.shot.path == x.path)) } }

/-- The receive channel of a shot's member. -/
def Epoch.rxOf (e : Epoch) (x : Shot) : Nat :=
  match (e.events[x.event]?).bind (fun v => v.members.find? (fun m => m.path == x.path)) with
  | some m => m.rx
  | none => 4 * pathEngine e.view x.path

/-- A forward shot whose mirror ends without a test goes on alone. -/
def State.finishAlone (s : State) (e : Epoch) (x : Shot) : State :=
  match s.mirrorOf x with
  | none => s
  | some h => ((s.dropMirror x).finishShot e.view h.shot (e.rxOf h.shot) ⟨0, false, h.amp, some h.tof⟩).1

/-- Forward shots of the path that still wait for a mirror when a shot of another pair comes: the mirror was lost, for an engine takes its shots in
the order of their fire times (R245). They end before it, under the histories as they stand (R270, R283). -/
def State.finishOlder (s : State) (x : Shot) : State :=
  (s.arv.waiting.filter (fun h => h.shot.path == x.path && !(h.shot.epoch == x.epoch && h.shot.event == x.event))).foldl (fun s h =>
    match s.epoch h.shot.epoch with
    | some e => s.finishAlone e h.shot
    | none => s.dropMirror h.shot) s

/-- A processed shot meets its mirror (R269): a forward shot that passed waits for it; a reverse shot finishes the pair. -/
def State.joinMirror (s : State) (e : Epoch) (x : Shot) (m : Measured) : State :=
  let v := e.view
  let rx := e.rxOf x
  if !x.rev then
    if m.code = 0 then { s with arv := { s.arv with waiting := s.arv.waiting ++ [⟨x, m.amp, m.tof.getD 0⟩] } }
    else (s.finishShot v x rx m).1
  else
    match s.mirrorOf x with
    | none => (s.finishShot v x rx m).1
    | some h =>
      let s := s.dropMirror x
      let far := m.code == 0 && (decide (2 * h.amp < m.amp) || decide (2 * m.amp < h.amp))
      let mf : Measured := ⟨if far then 7 else 0, false, h.amp, some h.tof⟩
      let (s, okF) := s.finishShot v h.shot (e.rxOf h.shot) mf
      let (s, okR) := s.finishShot v x rx (if far then { m with code := 7 } else m)
      if okF && okR then s.addPair v e.id x.path h.tof (m.tof.getD 0) else s

/-- SHOT_PROCESSED: engine `e` takes its oldest record. Where Twill refuses its write of the result, the shot is dropped
with OVERRUN (R30). -/
def execShotProcessed (e : Fin 4) (refused : Option Denial) (s : State) : Out :=
  let k := e.val
  match s.shotQueue k with
  | [] => go s
  | x :: rest =>
    if s.measuring && !s.on CLK_STAT.SYSSRC && (s.get CLK_STAT.EPLLOK).testBit k then
      let s := s.setShotQueue k rest
      match s.epoch x.epoch with
      | none => go s
      | some ep =>
        if refused.isSome then go (((s.denied (3 + k) refused).loseShot ep.id x.event x.path k x.rev 2 false).finishAlone ep x)
        else
          let (caps, s) := ((s.finishOlder x).applyReset x).useTemplate ep x k
          let (s, m) := s.measureAgain ep.view caps x k
          go (s.joinMirror ep x m)
    else go s

/-! ### The speed of sound and the medium (R276 to R282) -/

/-- cpair in 10 µm/s (R276). The spec states no value for a pair whose mean TOF does not exceed TDLY: an open value. -/
def State.pairSpeed (s : State) (v : Nat → Word) (x : PairRec) : Nat × State :=
  let den : Int := x.tofF + x.tofR - 2000 * vget v (ARV_PATH_T.TDLY x.path)
  if den ≤ 0 then
    let (w, s) := s.fresh
    (w.toNat, s)
  else ((roundDiv (2000 * 10 ^ 11 * (vget v (ARV_PATH_L.PLEN x.path) : Int)) den.toNat).toNat, s)

/-- ARV_SOSp: the mean over the valid pairs of the epoch, 0 without one. -/
def State.pathSpeed (s : State) (e : Epoch) (p : Nat) : State :=
  let xs := e.pairs.filter (fun x => x.path == p)
  let (sum, s) := xs.foldl (fun (a, s) x => let (c, s) := State.pairSpeed s e.view x; (a + c, s)) (0, s)
  s.put (ARV_SOS.SOS p) (if xs.isEmpty then 0 else (roundDiv (sum : Int) xs.length).toNat)

/-- The predicted speed of sound of an entry at `theta`, 10 µK (R277). -/
def predicted (v : Nat → Word) (m : Nat) (theta : Int) : Rat :=
  let d := mkRat (theta - 1000 * vgetI v (MED_TAB2.TREF m)) 100000
  mkRat (vget v (MED_TAB1.C0 m)) 1 *
    (1 + mkRat (vgetI v (MED_TAB2.TC1 m)) 1000000 * d + mkRat (vgetI v (MED_TAB3.TC2 m)) 1000000 * d * d)

def hydrogenA (v : Nat → Word) (m : Nat) : Rat := mkRat (5 * vget v (MED_TAB3.HA m)) 1000
def hydrogenB (v : Nat → Word) (m : Nat) : Rat := mkRat (5 * vget v (MED_TAB3.HB m)) 1000

/-- Does entry `m` match speed `c` (R277)? -/
def entryMatches (v : Nat → Word) (theta : Int) (c m : Nat) : Bool :=
  let cm := predicted v m theta
  let x := mkRat c 1
  let tol := mkRat (vget v (MED_TAB0.TOL m)) 10000
  match vget v (MED_TAB0.KIND m) with
  | 0 => false
  | 3 => decide (cm * (1 - tol) ≤ x) && decide (x ≤ cm * (1 + mkRat 3 10 * hydrogenA v m + mkRat 9 100 * hydrogenB v m) * (1 + tol))
  | _ => decide (absQ (x - cm) ≤ cm * tol)

/-- 1,000 · x of the hydrogen estimate (R279); none where the spec's formula has no value. -/
def hydrogenX (v : Nat → Word) (m : Nat) (theta : Int) (c : Nat) : Option Rat :=
  let a := hydrogenA v m
  let b := hydrogenB v m
  let r := mkRat c 1 / predicted v m theta
  if b = 0 then if a = 0 then none else some (1000 * ((r - 1) / a))
  else
    let disc := a * a - 4 * b * (1 - r)
    if disc < 0 then none else some (1000 * ((sqrtQ disc - a) / (2 * b)))

def hydrogenBand (h2 : Nat) : Nat := if h2 < 100 then 0 else if h2 < 200 then 1 else 2

def MpHistory.empty (_ : Nat) : MpHistory := ⟨none, 0, false, false, false, false, 0, none, 0, 0, true⟩
def State.point (s : State) (i : Nat) : MpHistory := Sparse.get MpHistory.empty s.flo.points i
def State.setPoint (s : State) (i : Nat) (h : MpHistory) : State :=
  { s with flo := { s.flo with points := Sparse.set MpHistory.empty s.flo.points i h } }

/-- Where SR03 keeps the medium state of point `i` (R284): page 3, a place of the model's own. -/
def mediumWord (i : Nat) : Nat := 64 * 3 + i

/-- The medium state of point `i` as one word: bits 4:0 CLASS (16 UNKNOWN), 9:8 band, 15:12 CURVE, 16 H2HIGH, 31 written. -/
def State.mediumState (s : State) (i : Nat) : Word :=
  BitVec.ofNat 32 ((if s.on (MED_MP1.UNKNOWN i) then 16 else s.get (MED_MP1.CLASS i)) + 256 * (s.point i).band
    + 4096 * s.get (MED_MP1.CURVE i) + 65536 * s.get (MED_MP1.H2HIGH i) + 2 ^ 31)

/-- The medium state of every point is recalled from SR03 (R284): where the region holds none, the first candidate and band are taken at once. -/
def State.recallMedium (s : State) : State :=
  (List.range (mpCount s.pod)).foldl (fun s i =>
    let w := s.sramWord (regionWord 3 (mediumWord i))
    if w.getLsbD 31 then
      let n := w.toNat
      let cls := n % 32
      let s := ((s.put (MED_MP1.CLASS i) (if cls = 16 then 0 else cls)).putB (MED_MP1.UNKNOWN i) (cls == 16)).put
        (MED_MP1.CURVE i) (n / 4096 % 16)
      (s.put (MED_MP1.H2HIGH i) (n / 65536 % 2)).setPoint i { s.point i with band := n / 256 % 4, fresh := false }
    else s) s

def State.keepMedium (s : State) (i : Nat) : State :=
  if s.sramWord (regionWord 3 (mediumWord i)) = s.mediumState i then s else s.ownerWord 3 (mediumWord i) (s.mediumState i)

/-- The class (16: UNKNOWN) and band become those of a metering point (R281). -/
def State.takeClass (s : State) (v : Nat → Word) (i cls band : Nat) : State :=
  let curve := if cls = 16 then vget v MED_CFG.UNKCURVE
    else vget v (MED_TAB0.CURVE cls) + (if vget v (MED_TAB0.KIND cls) = 3 then band else 0)
  let s := (((s.put (MED_MP1.CLASS i) (if cls = 16 then 0 else cls)).putB (MED_MP1.UNKNOWN i) (cls == 16)).put
    (MED_MP1.CURVE i) curve).put (MED_MP1.RUN i) 0
  let s := s.setPoint i { s.point i with band := band, candidate := none, fresh := false }
  (s.raise Ev.MEDIUM_CHANGE).raiseIf (cls == 16) Ev.MEDIUM_UNKNOWN

/-- H2HIGH after HYST epochs of a KIND 3 class at or below the alarm (R282). -/
def State.hydrogenAlarm (s : State) (v : Nat → Word) (i cls h2 : Nat) : State :=
  let h := s.point i
  let high := decide (10 * vget v (MED_TAB3.H2ALARM cls) ≤ h2)
  let above := if high then h.h2Above + 1 else 0
  let below := if high then 0 else h.h2Below + 1
  let hyst := vget v MED_CFG.HYST
  let s := s.setPoint i { h with h2Above := above, h2Below := below }
  if high && decide (hyst ≤ above) && !s.on (MED_MP1.H2HIGH i) then (s.put (MED_MP1.H2HIGH i) 1).raise Ev.H2_HIGH
  else if !high && decide (hyst ≤ below) then s.put (MED_MP1.H2HIGH i) 0
  else s

/-- The medium of an enabled metering point at a publication (R278 to R282); `theta` is its medium temperature of the same
epoch. Without one there is no candidate. -/
def State.classify (s : State) (v : Nat → Word) (i : Nat) (theta : Option Int) : State :=
  let mask := vget v (FLO_PATHS.MASK i)
  let cs := (enabledPaths s.pod v).filterMap (fun p =>
    if mask.testBit p && s.get (ARV_SOS.SOS p) != 0 then some (s.get (ARV_SOS.SOS p)) else none)
  let csos := if cs.isEmpty then 0 else (roundDiv (cs.foldl (· + ·) 0 : Nat) cs.length).toNat
  let s := s.put (MED_MP0.SOS i) csos
  if cs.isEmpty then s.raise Ev.SOS_NONE
  else match theta with
    | none => s
    | some th =>
      let cand := ((List.range 16).find? (entryMatches v th csos)).getD 16
      let s := s.put (MED_MP1.CAND i) (if cand = 16 then 0 else cand)
      let kind3 := decide (cand < 16) && vget v (MED_TAB0.KIND cand) == 3
      let s := if kind3 then
          let (x, s) := match hydrogenX v cand th csos with
            | some x => (x, s)
            | none => let (w, s) := s.fresh; (mkRat w.toInt 1, s)
          let h2 := (clampI 0 300 (roundQ x)).toNat
          let out := decide (x < -15) || decide (315 < x)
          ((s.put (MED_MP1.H2 i) h2).putB (MED_MP1.H2OUT i) out).raiseIf out Ev.H2_RANGE
        else s
      let band := if kind3 then hydrogenBand (s.get (MED_MP1.H2 i)) else 0
      let cls := if s.on (MED_MP1.UNKNOWN i) then 16 else s.get (MED_MP1.CLASS i)
      let s := if kind3 && decide (cls < 16) && vget v (MED_TAB0.KIND cls) == 3 then
          s.hydrogenAlarm v i cls (s.get (MED_MP1.H2 i))
        else s.setPoint i { s.point i with h2Above := 0, h2Below := 0 }
      let h := s.point i
      let s := if h.fresh then s.takeClass v i cand band
        else if cand = cls && band = h.band then (s.setPoint i { h with candidate := none }).put (MED_MP1.RUN i) 0
        else
          let run := if h.candidate = some (cand, band) then s.get (MED_MP1.RUN i) + 1 else 1
          if vget v MED_CFG.HYST ≤ run then s.takeClass v i cand band
          else (s.setPoint i { h with candidate := some (cand, band) }).put (MED_MP1.RUN i) run
      s.keepMedium i

/-- The arrival side of a publication: forward shots without a mirror finish, the learned templates are rebuilt from 16
accepted shots (R263), and the speeds of sound stand. -/
def State.publishArrival (s : State) (e : Epoch) : State :=
  let s := (s.arv.waiting.filter (fun h => h.shot.epoch == e.id)).foldl (fun s h => s.finishAlone e h.shot) s
  let e := (s.epoch e.id).getD e
  (List.range (pathCount s.pod)).foldl (fun s p =>
    let t := s.template p
    let s := if t.recent.length = 16 && e.events.any (fun v => v.members.any (fun m => m.path == p)) then
        s.setTemplate p { t with learned := t.recent } else s
    s.pathSpeed e p) s

end Sys2Proof.Machine
end

