-- ==== Sys2Proof/Machine/Flow.lean ====
section
/-! DEFINITION. Flow, temperature and energy (chapter 10): conversions of the RTD and bridge channels, the path and mean
velocities of an epoch, the correction curve, energy and gas volume, and what an epoch accrues and publishes. -/

namespace Sys2Proof.Machine

/-! ### Channels (R297 to R301) -/

def Channel.none (_ : Nat) : Channel := ⟨Option.none, 0⟩
def State.channel (s : State) (c : Nat) : Channel := Sparse.get Channel.none s.flo.channels c
def State.setChannel (s : State) (c : Nat) (h : Channel) : State :=
  { s with flo := { s.flo with channels := Sparse.set Channel.none s.flo.channels c h } }

/-- The standard coefficients of IEC 60751 (R299). -/
def rtdA : Rat := mkRat 39083 10000000
def rtdB : Rat := mkRat (-5775) 10000000000
def rtdC : Rat := mkRat (-4183) 1000000000000000

/-- One Newton step on the full relation below 0 °C, on the grid. -/
def rtdStep (w t : Rat) : Rat :=
  let f := 1 + rtdA * t + rtdB * t * t + rtdC * (t - 100) * t * t * t - w
  let d := rtdA + 2 * rtdB * t + rtdC * (4 * t * t * t - 300 * t * t)
  gridQ (t - f / d)

/-- The temperature in °C of a resistance ratio Rt / RNOM (R299); none where the relation has no solution. -/
def rtdTemp (w : Rat) : Option Rat :=
  let disc := rtdA * rtdA - 4 * rtdB * (1 - w)
  if disc < 0 then none
  else
    let t := (sqrtQ disc - rtdA) / (2 * rtdB)
    if 1 ≤ w then some t else some (rtdStep w (rtdStep w (rtdStep w (rtdStep w t))))

/-- An overloaded conversion (R300): the latest valid value stands, and the fourth in a row faults the channel. -/
def State.overload (s : State) (c : Nat) (ovl fault ovls : Fd) (evO evF : Nat) : State :=
  let h := s.channel c
  let n := h.overloads + 1
  let s := ((s.put ovl 1).bump ovls).raise evO
  if 4 ≤ n then
    ((s.setChannel c ⟨none, n⟩).put fault 1).raiseIf (n == 4) evF
  else s.setChannel c ⟨h.value, n⟩

/-- A good conversion: the value stands and clears OVL and FAULT. -/
def State.converted (s : State) (c : Nat) (ovl fault val : Fd) (x : Int) : State :=
  (((s.setChannel c ⟨some x, 0⟩).put ovl 0).put fault 0).putI val x

/-- Does a channel with this RDIV convert in epoch `e` (R297, R311)? -/
def Epoch.converts (e : Epoch) (rdiv : Nat) : Bool := e.first || e.startRtc / 2 ^ e.eplog % 2 ^ rdiv == 0

/-- Conversion time in µs by code TCONV. -/
def convUs (code : Nat) : Nat := 2500 * 2 ^ code

/-- A channel by its number: c for RTD channel Tc, 16 + k for bridge channel Bk. -/
def chanEn (c : Nat) : Fd := if c < 16 then TMP_CFG.EN c else BRG_CFG.EN (c - 16)
def chanRdiv (c : Nat) : Fd := if c < 16 then TMP_CFG.RDIV c else BRG_CFG.RDIV (c - 16)
def chanTconv (c : Nat) : Fd := if c < 16 then TMP_CFG.TCONV c else BRG_CFG.TCONV (c - 16)

/-- The modulator of a channel: group c / 4, and 4 the bridge modulator (R297). Its results go through crossing queue 4 + group (Table CLK-4). -/
def chanGroup (c : Nat) : Nat := c / 4

/-- The channels that convert in the epoch, ascending: those of the profile that are enabled and due (R297). -/
def Epoch.channelsDue (pod : Bool) (e : Epoch) : List Nat :=
  (List.range (rtdCount pod) ++ (List.range (bridgeCount pod)).map (· + 16)).filter (fun c =>
    von e.view (chanEn c) && e.converts (vget e.view (chanRdiv c)))

/-- µs from the epoch's start to the end of channel `c`'s conversion: 1 ms, and the conversions of its group up to it (R297). -/
def Epoch.convEnd (pod : Bool) (e : Epoch) (c : Nat) : Nat :=
  ((e.channelsDue pod).filter (fun d => chanGroup d == chanGroup c && decide (d ≤ c))).foldl
    (fun n d => n + convUs (vget e.view (chanTconv d))) 1000

/-- Channel `c` ends its conversion of the epoch now at the earliest: it is due, has not converted, and every channel of its group before it
has (R297). -/
def State.mayConvert (s : State) (e : Epoch) (c : Nat) : Bool :=
  let due := e.channelsDue s.pod
  s.measuring && !s.on CLK_STAT.SYSSRC && due.contains c && !e.converted.contains c
    && due.all (fun d => chanGroup d != chanGroup c || decide (c ≤ d) || e.converted.contains d)
    && hasCome (s.epochCycles e) (e.convEnd s.pod c)

/-- A conversion of the present epoch is still to come. -/
def State.conversionsDue (s : State) (e : Epoch) : Bool := (e.channelsDue s.pod).any (fun c => !e.converted.contains c)

/-- The energy engine takes the result of a conversion of RTD channel Tc under configuration `v` (R299, R300); `dropped`: its queue was full. -/
def State.takeTemp (s : State) (v : Nat → Word) (c : Nat) (conv : Conversion) (dropped : Bool) : State :=
  let r := mkRat conv.ratio (2 ^ 32)
  let s := if dropped then s else s.put (TMP_ST.RATIO c) (roundDiv (conv.ratio * 65536) (2 ^ 32)).toNat
  let s := s.raiseIf conv.refOut Ev.REF_FAULT
  if dropped || conv.saturated || conv.refOut || r < mkRat 2 100 || mkRat 98 100 < r then
    s.overload c (TMP_ST.OVL c) (TMP_ST.FAULT c) (TMP_ST.OVLS c) (Ev.T_OVERLOAD c) (Ev.T_FAULT c)
  else
    let w := r * mkRat (vget v TMP_REF.RREF) (vget v (TMP_RNOM.RNOM c))
    let (x, s) := match rtdTemp w with
      | some t => (roundQ (100000 * t) + vgetI v (TMP_CFG.OFS c), s)
      | none => let (f, s) := s.fresh; (f.toInt, s)
    s.converted c (TMP_ST.OVL c) (TMP_ST.FAULT c) (TMP_VAL.VAL c) x

/-- The same for bridge channel Bk (R301): `ratio` is r in 2^−32, reported in ppm. -/
def State.takeBridge (s : State) (v : Nat → Word) (k : Nat) (conv : Conversion) (dropped : Bool) : State :=
  let ppm := mkRat (conv.ratio * 1000000) (2 ^ 32)
  let s := if dropped then s else s.putI (BRG_ST.RATIO k) (roundQ (ppm / 16))
  if dropped || conv.saturated || 400000 ≤ absQ ppm then
    s.overload (16 + k) (BRG_ST.OVL k) (BRG_ST.FAULT k) (BRG_ST.OVLS k) (Ev.B_OVERLOAD k) (Ev.B_FAULT k)
  else
    let x := ppm / 1000000
    let p := mkRat (vgetI v (BRG_P0.P k)) 1 + mkRat (vgetI v (BRG_P1.P k)) 1 * x + mkRat (vgetI v (BRG_P2.P k)) 1 * x * x
    s.converted (16 + k) (BRG_ST.OVL k) (BRG_ST.FAULT k) (BRG_VAL.VAL k) (roundQ p)

/-- The epoch temperature of a channel whose result comes after the end of its epoch (R298). -/
def State.lateValue (s : State) (id c : Nat) : State :=
  let g (e : Epoch) : Epoch :=
    if e.id = id ∧ !e.cut then
      { e with values := e.values.filter (fun x => x.1 != c) ++ ((s.channel c).value.map (fun x => (c, x))).toList }
    else e
  { s with fir := { s.fir with tails := s.fir.tails.map g } }

/-- The energy engine takes a result under the configuration of its epoch (R298). -/
def State.takeResult (s : State) (r : ConvResult) (dropped : Bool) : State :=
  match s.epoch r.epoch with
  | none => s
  | some e =>
    let s := if r.chan < 16 then s.takeTemp e.view r.chan r.conv dropped else s.takeBridge e.view (r.chan - 16) r.conv dropped
    s.lateValue r.epoch r.chan

def State.convQueue (s : State) (q : Nat) : List ConvResult := Sparse.get (fun _ => []) s.flo.queues q
def State.setConvQueue (s : State) (q : Nat) (xs : List ConvResult) : State :=
  { s with flo := { s.flo with queues := Sparse.set (fun _ => []) s.flo.queues q xs } }

/-- Twill serves the energy engine: the results that wait in queue `q` are taken, oldest first. -/
def State.drainConv (s : State) (q : Nat) : State := (s.convQueue q).foldl (fun s r => s.takeResult r false) (s.setConvQueue q [])

/-- Those of every queue. -/
def State.drainResults (s : State) : State := [4, 5, 6, 7, 8].foldl State.drainConv s

/-- A result arrives at its crossing queue of 4: it is dropped at a full one, which the energy engine handles as an overload, and otherwise
joins it; the queue drains unless Twill holds the engine up (R129, R130, R300). -/
def State.arriveResult (s : State) (r : ConvResult) : State :=
  let q := 4 + chanGroup r.chan
  let waiting := s.convQueue q
  let s := if 4 ≤ waiting.length then (s.queueDrop q).takeResult r true
    else (s.setConvQueue q (waiting ++ [r])).peak (CLK_QCNT.PEAK q) (waiting.length + 1)
  if r.conv.stalled then s else s.drainConv q

/-- A conversion of channel `c` ends. -/
def State.convert (s : State) (c : Nat) (conv : Conversion) : State :=
  match s.fir.cur with
  | none => s
  | some e =>
    if s.mayConvert e c then
      (s.mapEpoch e.id (fun e => { e with converted := e.converted ++ [c] })).arriveResult ⟨e.id, c, conv⟩
    else s

/-- TEMP_CONVERSION of channel Tc (R297 to R300). -/
def execTempConversion (c : Fin 16) (conv : Conversion) (s : State) : Out := go (s.convert c.val conv)

/-- BRIDGE_CONVERSION of channel Bk (R297, R301). -/
def execBridgeConversion (k : Fin 4) (conv : Conversion) (s : State) : Out := go (s.convert (16 + k.val) conv)

/-- The value of channel `c` in an epoch. -/
def Epoch.value (e : Epoch) (c : Nat) : Option Int := (e.values.find? (fun x => x.1 == c)).map (fun x => x.2)

/-- An RTD channel named by a 5-bit field: 0x1F names none. -/
def Epoch.rtd (e : Epoch) (c : Nat) : Option Int := if c < 16 then e.value c else none

/-- The medium temperature of a metering point (R288). -/
def Epoch.theta (e : Epoch) (i : Nat) : Option Int :=
  let v := e.view
  let ta := vget v (NGE_CH.TA i)
  if ta = 0x1F then some (vgetI v (NGE_TFIX.TFIX i))
  else if vget v (FLO_CFG.KIND i) = 2 && !von v (NGE_CFG.INSTALL i) then e.rtd (vget v (NGE_CH.TB i))
  else e.rtd ta

/-- The pressure of a metering point: channel PCH, or PNOM (R303). -/
def Epoch.pressure (e : Epoch) (i : Nat) : Option Int :=
  let v := e.view
  let c := vget v (NGE_CH.PCH i)
  if c = 0xF then some (vget v (NGE_PNOM.PNOM i) : Int) else if c < 4 then e.value (16 + c) else none

/-! ### Path velocity (R289, R290) -/

def maxI32 : Int := 2147483647

/-- Within the range of a 32-bit register (R310), and whether that limited it. -/
def limit32 (x : Rat) : Rat × Bool :=
  if mkRat maxI32 1 < x then (mkRat maxI32 1, true) else if x < mkRat (-maxI32 - 1) 1 then (mkRat (-maxI32 - 1) 1, true)
  else (x, false)

def meanQ (xs : List Int) : Rat := mkRat (xs.foldl (· + ·) 0) xs.length

/-- A path's flow in epoch `e` (R289, R290). Where the formula divides by 0, v is an open value. -/
def State.pathFlow (s : State) (e : Epoch) (p : Nat) : PathFlow × State :=
  let v := e.view
  let xs := e.pairs.filter (fun x => x.path == p && !x.late)
  if xs.isEmpty then (⟨p, 0, 0, 0, false⟩, s)
  else
    let tdly : Int := 1000 * vget v (ARV_PATH_T.TDLY p)
    let tf := meanQ (xs.map (fun x => x.tofF - tdly)) / 1000
    let tr := meanQ (xs.map (fun x => x.tofR - tdly)) / 1000
    let d := meanQ (xs.map (fun x => x.tofR - x.tofF - vgetI v (FIR_PATH_D.ZFO p)))
    let plen := mkRat (vget v (ARV_PATH_L.PLEN p)) 1
    let den := 2 * mkRat (vget v (FLO_PATH_AX.AXIAL p)) 1 * tf * tr
    let dt := roundQ d
    let (dt, s) := if dt < -maxI32 - 1 || maxI32 < dt then let (w, s) := s.fresh; (w.toInt, s) else (dt, s)
    if den = 0 then
      let (w, s) := s.fresh
      (⟨p, xs.length, dt, w.toInt, false⟩, s)
    else
      let (x, sat) := limit32 (plen * plen * d * 1000000000 / den)
      (⟨p, xs.length, dt, roundQ x, sat⟩, s)

def State.pathFlows (s : State) (e : Epoch) : List Nat → List PathFlow × State
  | [] => ([], s)
  | p :: ps =>
    let (f, s) := s.pathFlow e p
    let (fs, s) := State.pathFlows s e ps
    (f :: fs, s)

/-! ### Mean velocity (R291 to R294) -/

/-- Chord-weight mode (R291): none where the weights of the present paths sum to 0. -/
def chordMean (v : Nat → Word) (fs : List PathFlow) : Option Rat :=
  let w := fs.foldl (fun n f => n + vget v (FLO_PATH_WG.WGT f.path)) 0
  if w = 0 then none
  else some (mkRat (fs.foldl (fun (n : Int) f => n + vget v (FLO_PATH_WG.WGT f.path) * f.v) 0) w)

/-- The mean of t², t⁴ and t⁶ along a chord of half length √(1 − h²), 256-point midpoint rule, over (1 − h²)^k (R293). -/
def midpointMean (k : Nat) : Rat :=
  mkRat ((List.range 256).foldl (fun (n : Int) (i : Nat) => n + (2 * (i : Int) + 1 - 256) ^ (2 * k)) 0) (256 * 256 ^ (2 * k))

/-- G of a path: the means of the twelve basis functions along its chord (Table FLO-1, R293). With s e^(iθ) = (h + i t) e^(iφ)
the odd powers of t cancel over the midpoints. -/
def chordRow (v : Nat → Word) (p : Nat) : List Rat :=
  let h := mkRat (vgetI v (FLO_PATH_CH.H p)) 32767
  let phi := vget v (FLO_PATH_CH.PHI p)
  let h2 := h * h
  let c := 1 - h2
  let t2 := c * midpointMean 1
  let t4 := c * c * midpointMean 2
  let t6 := c * c * c * midpointMean 3
  let s2 := h2 + t2
  [1, s2, h2 * h2 + 2 * h2 * t2 + t4, h2 * h2 * h2 + 3 * h2 * h2 * t2 + 3 * h2 * t4 + t6,
   h * cosTurn phi, h * sinTurn phi, h * s2 * cosTurn phi, h * s2 * sinTurn phi,
   (h2 - t2) * cosTurn (2 * phi), (h2 - t2) * sinTurn (2 * phi),
   (h * h2 - 3 * h * t2) * cosTurn (3 * phi), (h * h2 - 3 * h * t2) * sinTurn (3 * phi)]

/-- The coefficients that minimise R294's sum; none where they are not determined. -/
def fitProfile (v : Nat → Word) (fs : List PathFlow) : Option (List Rat) :=
  let n := mkRat (fs.foldl (fun n f => n + f.n) 0 : Nat) 1
  let rows := fs.map (fun f => (f, chordRow v f.path))
  let lambda (j : Nat) : Rat :=
    if j = 0 then 0 else if j < 4 then mkRat (vget v FLO_REG.REGA) 65536 else mkRat (vget v FLO_REG.REGS) 65536
  solveRows 12 ((List.range 12).map (fun j =>
    (List.range 12).map (fun k =>
      rows.foldl (fun (a : Rat) (f, g) => a + mkRat f.n 1 * g.getD j 0 * g.getD k 0) (if j = k then n * lambda j else 0))
    ++ [rows.foldl (fun (a : Rat) (f, g) => a + mkRat f.n 1 * g.getD j 0 * mkRat f.v 1) 0]))

/-- e² of R294. -/
def fitResidual (v : Nat → Word) (fs : List PathFlow) (a : List Rat) : Rat :=
  let n := mkRat (fs.foldl (fun n f => n + f.n) 0 : Nat) 1
  fs.foldl (fun (x : Rat) f =>
    let d := mkRat f.v 1 - dotQ (chordRow v f.path) a
    x + mkRat f.n 1 * d * d) 0 / n

def fitMean (a : List Rat) : Rat := a.getD 0 0 + a.getD 1 0 / 2 + a.getD 2 0 / 3 + a.getD 3 0 / 4

/-! ### The correction curve (R295) -/

/-- k in ppm at velocity `u` over the breakpoints from `j` on, where `u` lies at or above Xj: between Xj and Xj+1 it is
linear; equal breakpoints step to the factor of the highest-numbered. -/
def curveFrom (v : Nat → Word) (c : Nat) (u : Rat) : Nat → Nat → Rat
  | 0, j => mkRat (vgetI v (FLO_CURVE_K.K c j)) 1
  | n + 1, j =>
    let x0 := mkRat (vget v (FLO_CURVE_X.X c j)) 1
    let x1 := mkRat (vget v (FLO_CURVE_X.X c (j + 1))) 1
    if x1 ≤ u then curveFrom v c u n (j + 1)
    else
      let k0 := mkRat (vgetI v (FLO_CURVE_K.K c j)) 1
      let k1 := mkRat (vgetI v (FLO_CURVE_K.K c (j + 1))) 1
      k0 + (k1 - k0) * (u - x0) / (x1 - x0)

def curveFactor (v : Nat → Word) (c : Nat) (u : Rat) : Rat :=
  if u < mkRat (vget v (FLO_CURVE_X.X c 0)) 1 then mkRat (vgetI v (FLO_CURVE_K.K c 0)) 1 else curveFrom v c u 7 0

/-- The pipe area, µm². -/
def pipeArea (v : Nat → Word) (i : Nat) : Rat :=
  let d := mkRat (vget v (FLO_DIAM.DIAM i)) 1
  piQ * d * d / 4

/-! ### Energy (R303 to R306) -/

/-- A value between the tables' 10 % steps. -/
def glycolMix (f : Nat → Rat) (pct : Nat) : Rat :=
  let a := pct / 10 * 10
  f a + (f (a + 10) - f a) * mkRat (pct % 10) 10

/-- Saturation pressure of water in Pa at the absolute temperature in 10 µK, IAPWS-IF97 region 4. PRESUMED (log 25). -/
def waterSaturation (t : Int) : Rat :=
  let n (x : Int) (d : Nat) : Rat := mkRat x (10 ^ d)
  let k := mkRat t 100000
  let th := gridQ (k + n (-23855557567849) 14 / (k - n 65017534844798 11))
  let a := gridQ (th * th + n 116705214527670 11 * th + n (-72421316703206) 8)
  let b := gridQ (n (-17073846940092) 12 * th * th + n 12020824702470 9 * th + n (-32325550322333) 7)
  let c := gridQ (n 14915108613530 12 * th * th + n (-48232657361591) 10 * th + n 40511340542057 8)
  let x := gridQ (2 * c / (sqrtQ (b * b - 4 * a * c) - b))
  1000000 * x * x * x * x

/-- The temperature and pressure lie within region 1 at the validity R303 gives: 0.5 °C to 190 °C, from saturation up to 100 MPa (log 25). -/
def inRegion1 (theta p : Int) : Bool :=
  decide (50000 ≤ theta) && decide (theta ≤ 19000000) && decide (waterSaturation (theta + 27315000) ≤ mkRat p 1) && decide (p ≤ 100000000)

/-- Density and enthalpy of the fluid of point `i`; none outside the range of its table (R303). -/
def fluidDensity (v : Nat → Word) (i : Nat) (theta p : Int) : Option Rat :=
  let pct := vget v (NGE_CFG.GLYPCT i)
  match vget v (NGE_CFG.FLUID i) with
  | 0 => if inRegion1 theta p then some (waterDensity (theta + 27315000) p) else none
  | 3 => none
  | fl => if -3000000 ≤ theta ∧ theta ≤ 12000000 ∧ 20 ≤ pct ∧ pct ≤ 60 then
      some (glycolMix (fun a => Config.glycolDensity fl a theta p) pct) else none

def fluidEnthalpy (v : Nat → Word) (i : Nat) (theta p : Int) : Option Rat :=
  let pct := vget v (NGE_CFG.GLYPCT i)
  match vget v (NGE_CFG.FLUID i) with
  | 0 => if inRegion1 theta p then some (waterEnthalpy (theta + 27315000) p) else none
  | 3 => none
  | fl => if -3000000 ≤ theta ∧ theta ≤ 12000000 ∧ 20 ≤ pct ∧ pct ≤ 60 then
      some (glycolMix (fun a => Config.glycolEnthalpy fl a theta p) pct) else none

/-- 1/2^32 units of a quantity (R307). -/
def fine (x : Rat) : Int := roundQ (x * 4294967296)

/-- The energy side of a result: what is published and gained, and the point's runs. `vol` is the accrued volume in mL,
signed, if any was accrued. -/
structure EnergyPart where
  puts : List (Fd × Int)
  raises : List Nat
  heat : Int
  cool : Int
  volb : Int
  nftime : Nat
  dtNeg : Bool
  fault : Bool
  deriving DecidableEq, Repr

def raiseOnce (now run : Bool) (src : Nat) : List Nat := if now && !run then [src] else []

/-- KIND 2 (R303 to R305); d in ticks. -/
def heatPart (e : Epoch) (i d : Nat) (h : MpHistory) (vol : Option Rat) : EnergyPart :=
  let v := e.view
  let ts := e.rtd (vget v (NGE_CH.TA i))
  let tr := e.rtd (vget v (NGE_CH.TB i))
  let whole : Option (Int × Int × Rat × Rat) := do
    let a ← ts
    let b ← tr
    let th ← e.theta i
    let p ← e.pressure i
    let rho ← fluidDensity v i th p
    let hs ← fluidEnthalpy v i a p
    let hr ← fluidEnthalpy v i b p
    pure (a, b, rho, hs - hr)
  let shown : List (Fd × Int) := match ts, tr with
    | some a, some b => [(NGE_TS.TS i, a), (NGE_TR.TR i, b), (NGE_DT.DT i, a - b)]
    | some a, none => [(NGE_TS.TS i, a)]
    | none, some b => [(NGE_TR.TR i, b)]
    | none, none => []
  match whole with
  | none =>
    let fault := vol.isSome
    ⟨shown ++ [(NGE_POWER.POWER i, 0), (NGE_STAT.POWSAT i, 0), (NGE_STAT.TFAULT i, if fault then 1 else 0)],
     raiseOnce fault h.tempFault (Ev.TEMP_FAULT i), 0, 0, 0, if fault then d else 0, h.dtNeg, fault⟩
  | some (a, b, rho, dh) =>
    let dt := a - b
    let en := vol.getD 0 * rho * dh / 3600
    let fwd := decide (0 < vol.getD 0)
    let dtmin : Int := vget v (NGE_CFG.DTMIN i)
    let cool := von v (NGE_CFG.COOLEN i)
    let neg := decide (dt < 0) && !cool
    let pw := roundQ (en * 3600 * 1024 / mkRat d 1)
    let lim := clampI (-maxI32) maxI32 pw
    let coef : List (Fd × Int) :=
      if dt = 0 then [] else [(NGE_KCOEF.KCOEF i, roundQ (rho * dh * 1000 * 100000 / (mkRat 36 10 * mkRat dt 1)))]
    ⟨shown ++ coef ++ [(NGE_POWER.POWER i, lim), (NGE_STAT.POWSAT i, if lim = pw then 0 else 1), (NGE_STAT.TFAULT i, 0)],
     (if lim = pw then [] else [Ev.POWER_SAT i]) ++ raiseOnce neg h.dtNeg (Ev.DT_NEG i),
     if fwd && decide (dtmin ≤ dt) then fine en else 0,
     if fwd && cool && decide (dt ≤ -dtmin) then fine (absQ en) else 0, 0, 0, neg, false⟩

/-- KIND 3 (R306); where the formula divides by 0, Vb is an open value. -/
def gasPart (e : Epoch) (i d : Nat) (h : MpHistory) (vol : Option Rat) : EnergyPart :=
  let v := e.view
  match e.theta i, e.pressure i with
  | some th, some p =>
    let x := vol.getD 0
    let pb := vget v (NGE_PB.PB i)
    let vb := if ¬ 0 < x then 0 else if pb = 0 ∨ th = -27315000 then Config.openBaseVolume x p pb th else x * (mkRat p 1 / mkRat pb 1)
        * (mkRat (vget v (NGE_TB.TB i)) 1 / mkRat (th + 27315000) 1) * mkRat (vget v (NGE_ZRATIO.ZRATIO i)) 1000000
    ⟨[(NGE_STAT.TFAULT i, 0)], [], 0, 0, fine vb, 0, h.dtNeg, false⟩
  | _, _ => ⟨[(NGE_STAT.TFAULT i, 1)], raiseOnce true h.pressFault (Ev.PRESS_FAULT i), 0, 0, 0, d, h.dtNeg, true⟩

def energyPart (e : Epoch) (i d : Nat) (h : MpHistory) (vol : Option Rat) : EnergyPart :=
  match vget e.view (FLO_CFG.KIND i) with
  | 2 => heatPart e i d h vol
  | 3 => gasPart e i d h vol
  | _ => ⟨[], [], 0, 0, 0, 0, h.dtNeg, false⟩

/-! ### A metering point's epoch (R291 to R308, R310) -/

/-- The mean velocity and what the fit publishes: coefficients, residual, fall-back and its raises (R291 to R294). -/
def State.meanVelocity (s : State) (e : Epoch) (i : Nat) (fs : List PathFlow) :
    Rat × List (Fd × Int) × List Nat × State :=
  let v := e.view
  let chord (s : State) : Rat × State := match chordMean v fs with
    | some u => (u, s)
    | none => let (w, s) := s.fresh; (mkRat w.toInt 1, s)
  let flag (b : Bool) : Fd × Int := (FLO_STAT.FALLBACK i, if b then 1 else 0)
  if vget v (FLO_CFG.MODE i) = 1 then
    if fs.length < 6 || s.pod then
      let (u, s) := chord s
      (u, [flag true], [Ev.FALLBACK i], s)
    else
      let (a, s) := match fitProfile v fs with
        | some a => (a, s)
        | none => (List.range 12).foldl (fun (a, s) _ => let (w, s) := State.fresh s; (a ++ [mkRat w.toInt 1], s)) ([], s)
      let u := fitMean a
      let e2 := fitResidual v fs a
      let m := if absQ u < 100000 then 100000 else absQ u
      let lim := mkRat (vget v (FLO_LIM.RESMAX i)) 1000 * m
      let shown := ((List.range 12).zip a).map (fun (j, x) => (FLO_COEF.COEF i j, roundQ x))
        ++ [(FLO_RESID.RESID i, (roundSqrt e2 : Int))]
      if lim * lim < e2 then
        let (u, s) := chord s
        (u, flag true :: shown, [Ev.FALLBACK i, Ev.FIT_RESID i], s)
      else (u, flag false :: shown, [], s)
  else
    let (u, s) := chord s
    (u, [flag false], [], s)

/-- The words of an epoch that accrues with corrected mean velocity `uc`: rate, cut-off, alarm, volume, energy (R296, R304 to
R307). DESIGN CHOICE (log 12). -/
def accrue (e : Epoch) (i d : Nat) (h : MpHistory) (uc : Rat) (sat : Bool) : MpResult × MpHistory :=
  let v := e.view
  let cut := decide (absQ uc < mkRat (vget v (FLO_LIM.CUTOFF i)) 1)
  let (q, qsat) := limit32 (if cut then 0 else uc * pipeArea v i * mkRat 36 10000000000)
  let q := roundQ q
  let qmax := vget v (FLO_QMAX.QMAX i)
  let vol := uc * pipeArea v i * mkRat d 1024 * mkRat 1 1000000000000
  let en := energyPart e i d h (if uc = 0 then none else some vol)
  let rev := decide (uc < 0)
  ({ mp := i,
     puts := [(FLO_Q.Q i, q), (FLO_VEL.VEL i, roundQ uc), (FLO_STAT.CUT i, if cut then 1 else 0),
              (FLO_STAT.SAT i, if sat || qsat then 1 else 0)] ++ en.puts,
     raises := raiseOnce rev h.reverse (Ev.REVERSE i) ++ (if qmax ≠ 0 ∧ qmax < q.natAbs then [Ev.QMAX i] else []) ++ en.raises,
     gains := [if 0 < uc then fine vol else 0, if rev then fine (-vol) else 0, en.heat, en.cool, en.volb],
     ftime := 0, nftime := en.nftime },
   { h with reverse := rev, dtNeg := en.dtNeg,
            tempFault := en.fault && vget v (FLO_CFG.KIND i) == 2, pressFault := en.fault && vget v (FLO_CFG.KIND i) == 3 })

/-- FLE and NGE compute point `i` for the epoch, from the flows of all paths (R289, R290). -/
def State.computePoint (s : State) (e : Epoch) (flows : List PathFlow) (i : Nat) : MpResult × State :=
  let v := e.view
  let fs := flows.filter (fun f => von v (FIR_PATH_A.EN f.path) && (vget v (FLO_PATHS.MASK i)).testBit f.path)
  let present := fs.filter (fun f => f.n != 0)
  let n : Nat := fs.foldl (fun n f => n + f.n) 0
  let d := e.len - e.span
  let h := s.point i
  let (np, s) := if 255 < n then let (w, s) := s.fresh; ((w.toNat % 256 : Nat), s) else (n, s)
  let base : List (Fd × Int) := [(FLO_STAT.NPAIRS i, (np : Int)), (NGE_DUR.DUR i, (d : Int))]
  let sat := fs.any (fun f => f.sat)
  let flags (failed subst : Int) : List (Fd × Int) := [(FLO_STAT.FAILED i, failed), (FLO_STAT.SUBST i, subst)]
  if n < vget v (FLO_CFG.MINPAIRS i) || present.isEmpty then
    let h := { h with fails := h.fails + 1 }
    match (if h.fails ≤ vget v (FLO_CFG.HOLD i) then h.last else none) with
    | some uc =>
      let (r, h) := accrue e i d h uc sat
      ({ r with puts := base ++ flags 1 1 ++ [(FLO_STAT.FALLBACK i, 0)] ++ r.puts,
                raises := [Ev.EPOCH_FAILED i, Ev.SUBSTITUTED i] ++ r.raises }, s.setPoint i h)
    | none =>
      let (w, s) := s.fresh
      let en := energyPart e i d h none
      let kind := vget v (FLO_CFG.KIND i)
      let s := s.setPoint i { h with
        reverse := false, dtNeg := en.dtNeg, tempFault := en.fault && kind == 2, pressFault := en.fault && kind == 3 }
      ({ mp := i, puts := base ++ flags 1 0 ++ [(FLO_Q.Q i, 0), (FLO_VEL.VEL i, w.toInt), (FLO_STAT.FALLBACK i, 0),
           (FLO_STAT.CUT i, 0), (FLO_STAT.SAT i, if sat then 1 else 0)] ++ en.puts,
         raises := Ev.EPOCH_FAILED i :: en.raises, gains := [0, 0, 0, 0, 0], ftime := d, nftime := en.nftime }, s)
  else
    let (u, shown, raises, s) := s.meanVelocity e i present
    let (u, sat1) := limit32 u
    let curve := s.get (MED_MP1.CURVE i)
    let (uc, sat2) := limit32 (u * (1 + curveFactor v curve (absQ u) / 1000000))
    let (r, h) := accrue e i d { h with last := some uc, fails := 0 } uc (sat1 || sat2 || sat)
    ({ r with puts := base ++ flags 0 0 ++ shown ++ r.puts, raises := raises ++ r.raises }, s.setPoint i h)

def State.computePoints (s : State) (e : Epoch) (flows : List PathFlow) : List Nat → List MpResult × State
  | [] => ([], s)
  | i :: is =>
    let (r, s) := s.computePoint e flows i
    let (rs, s) := State.computePoints s e flows is
    (r :: rs, s)

def enabledPoints (pod : Bool) (v : Nat → Word) : List Nat := (List.range (mpCount pod)).filter (fun i => von v (FLO_CFG.EN i))

/-- The epoch in its tail at B + 38 ms: FLE and NGE take the pairs processed so far (R309). -/
def State.cutEpoch (s : State) (e : Epoch) (refused : Bool) : State :=
  if e.cut then s
  else
    let (flows, s) := State.pathFlows s e (List.range (pathCount s.pod))
    let (rs, s) := State.computePoints s e flows (enabledPoints s.pod e.view)
    s.mapEpoch e.id (fun e => { e with cut := true, results := rs, flows := flows, refused := e.refused || refused })

/-- `ms` milliseconds of the tail of an epoch have run out: they count while the Twill clock runs (R249). -/
def State.tailReached (s : State) (e : Epoch) (ms : Nat) : Bool := hasCome (s.time.runCyc - e.endRun) (1000 * ms)

/-- FLOW_CUTOFF, at B + 38 ms of the oldest tail that has not been cut; `refused`: Twill refused a write of FLE, or of NGE
where `nge` says so (R30, R607). -/
def execFlowCutoff (nge : Bool) (refused : Option Denial) (s : State) : Out :=
  match s.fir.tails.find? (fun e => !e.cut) with
  | none => go s
  | some e => if s.measuring && s.tailReached e 38 then go ((s.cutEpoch e refused.isSome).denied (if nge then 8 else 7) refused) else go s

/-! ### Totals and publication (R307, R309) -/

/-- A legal total with its residue gains `x` / 2^32 units. -/
def State.addTotal (s : State) (addr key : Nat) (x : Int) : State :=
  let old : Nat := s.get2 addr * 2 ^ 32 + Sparse.get (fun _ => 0) s.flo.residues key
  let new := (((old : Int) + x) % 2 ^ 96).toNat
  let s := s.put2 addr (new / 2 ^ 32)
  { s with flo := { s.flo with residues := Sparse.set (fun _ => 0) s.flo.residues key (new % 2 ^ 32) } }

/-- A fault time gains `d` ticks and holds at its maximum. -/
def State.addFaultTime (s : State) (addr d : Nat) : State := s.put2 addr (min (2 ^ 48 - 1) (s.get2 addr + d))

/-- LGC adds a result to the totals (R307). -/
def State.addResult (s : State) (r : MpResult) : State :=
  let i := r.mp
  let s := [FLO_VOLF.addr i, FLO_VOLR.addr i, NGE_HEAT.addr i, NGE_COOL.addr i, NGE_VOLB.addr i].zip ((List.range 5).zip r.gains)
    |>.foldl (fun s (a, j, x) => s.addTotal a (5 * i + j) x) s
  (s.addFaultTime (FLO_FTIME.addr i) r.ftime).addFaultTime (NGE_FTIME.addr i) r.nftime

/-- LGC adds a result to the totals; while it restarts, the result waits in the accrual queue (Table FLT-3). -/
def State.accrueResult (s : State) (r : MpResult) : State :=
  if s.fab.restarting.contains 0 then { s with flo := { s.flo with accrual := s.flo.accrual ++ [r] } } else s.addResult r

/-- LGC drains the accrual queue in order. -/
def State.drainAccrual (s : State) : State :=
  s.flo.accrual.foldl State.addResult { s with flo := { s.flo with accrual := [] } }

/-- The results of an epoch are published in one instant (R309). -/
def State.publishFlow (s : State) (e : Epoch) : State :=
  let s := e.flows.foldl (fun s f =>
    ((s.putI (FLO_PATH_DT.DT f.path) f.dt).putI (FLO_PATH_V.V f.path) f.v).put (FLO_PATH_N.N f.path) f.n) s
  e.results.foldl (fun s r =>
    let s := r.puts.foldl (fun s (f, x) => s.putI f x) s
    let s := s.accrueResult r
    (r.raises.foldl (fun s n => s.raise n) s).raise (Ev.MP_PUBLISHED r.mp)) s

end Sys2Proof.Machine
end

