-- ==== Sys2Proof/Machine/Billing.lean ====
section
/-! DEFINITION. Billing registers, tariffs and demand (chapter 11): the calendar, the condition tariffs, the tariff registers,
demand windows, closes and their snapshots, and the commands of BIL_CMD. -/

namespace Sys2Proof.Machine

/-! ### Dates (R14): the Gregorian calendar from 2000-01-01 -/

/-- Days from 2000-01-01 to the first of March of year `y`, 0 for 2000. -/
def marchDays (y : Int) : Int := 365 * y + y / 4 - y / 100 + y / 400 + 60

/-- Day number of a date: days since 2000-01-01 (years counted from 2000). -/
def dayNumber (year month day : Int) : Int :=
  let y := if month ≤ 2 then year - 1 else year
  let m := if month ≤ 2 then month + 9 else month - 3
  marchDays y + (153 * m + 2) / 5 + day - 1

/-- Year since 2000, month and day of a day number. -/
def civil (d : Int) : Int × Int × Int :=
  let z := d - 60
  let era := z / 146097
  let doe := z % 146097
  let yoe := (doe - doe / 1460 + doe / 36524 - doe / 146096) / 365
  let doy := doe - (365 * yoe + yoe / 4 - yoe / 100)
  let mp := (5 * doy + 2) / 153
  let day := doy - (153 * mp + 2) / 5 + 1
  let month := if mp < 10 then mp + 3 else mp - 9
  (era * 400 + yoe + (if month ≤ 2 then 1 else 0), month, day)

/-- The weekday of a day number, 0 Monday (R319). -/
def weekday (d : Int) : Int := (5 + d) % 7

def monthDays (year month : Int) : Int :=
  dayNumber (if month = 12 then year + 1 else year) (if month = 12 then 1 else month + 1) 1 - dayNumber year month 1

/-! ### Tariff time (R319, R320) -/

def minuteTicks : Int := 61440
def dayMinutes : Int := 1440

/-- Standard tariff time in ticks. -/
def stdTime (v : Nat → Word) (rtc : Int) : Int := rtc + vgetI v BIL_TOFS.TOFS * minuteTicks

/-- The WEEK-th WDAY of a month, or the last one when WEEK is 5: its day number. -/
def nthWeekday (year month week wday : Int) : Int :=
  let first := dayNumber year month 1
  let last := first + monthDays year month - 1
  if week = 5 then last - (weekday last - wday) % 7
  else first + (wday - weekday first) % 7 + 7 * (week - 1)

/-- The ON and OFF instants of a year, ticks of standard tariff time. -/
def dstOn (v : Nat → Word) (year : Int) : Int :=
  (nthWeekday year (vget v BIL_DSTON.MONTH) (vget v BIL_DSTON.WEEK) (vget v BIL_DSTON.WDAY) * dayMinutes
    + vget v BIL_DSTON.MIN) * minuteTicks
def dstOff (v : Nat → Word) (year : Int) : Int :=
  (nthWeekday year (vget v BIL_DSTOFF.MONTH) (vget v BIL_DSTOFF.WEEK) (vget v BIL_DSTOFF.WDAY) * dayMinutes
    + vget v BIL_DSTOFF.MIN) * minuteTicks

/-- Is daylight saving active at a standard tariff time (R320)? -/
def dstActive (v : Nat → Word) (t : Int) : Bool :=
  let year := (civil (t / (dayMinutes * minuteTicks))).1
  let on := dstOn v year
  let off := dstOff v year
  von v BIL_CFG.DSTEN && ((decide (on < off) && decide (on ≤ t) && decide (t < off))
    || (decide (off < on) && (decide (on ≤ t) || decide (t < off))))

def dstTicks (v : Nat → Word) : Int := vget v BIL_TOFS.DSTOFS * minuteTicks

/-- Tariff time in ticks at an RTC count. -/
def tariffTime (v : Nat → Word) (rtc : Int) : Int :=
  let t := stdTime v rtc
  if dstActive v t then t + dstTicks v else t

/-! ### The calendar tariff (R321) -/

/-- The element with the largest key, the first among equals. -/
def maxBy {α : Type} (f : α → Int) : List α → Option α
  | [] => none
  | x :: xs => match maxBy f xs with
    | none => some x
    | some y => if f y ≤ f x then some x else some y

def seasonStart (v : Nat → Word) (n : Nat) : Int := 32 * vget v (BIL_SEASON.MONTH n) + vget v (BIL_SEASON.DAY n)

/-- The season in force at a date, 15 for none. -/
def seasonOf (v : Nat → Word) (month day : Int) : Nat :=
  let on := (List.range 8).filter (fun n => von v (BIL_SEASON.EN n))
  match maxBy (seasonStart v) (on.filter (fun n => decide (seasonStart v n ≤ 32 * month + day))) with
  | some n => n
  | none => (maxBy (seasonStart v) on).getD 15

/-- What the calendar gives for an instant: season, week profile, day profile, special day, tariff, minute of the day. -/
structure CalendarNow where
  season : Nat
  week : Nat
  dayp : Nat
  special : Bool
  dst : Bool
  tariff : Nat
  minute : Nat
  deriving DecidableEq, Repr

def dayTariff (v : Nat → Word) (d m : Nat) : Nat :=
  let on := (List.range 12).filter (fun j => von v (BIL_DAY_SP.EN d j))
  let key (j : Nat) : Int := vget v (BIL_DAY_SP.MIN d j)
  match maxBy key (on.filter (fun j => decide (vget v (BIL_DAY_SP.MIN d j) ≤ m))) with
  | some j => vget v (BIL_DAY_SP.TARIFF d j)
  | none => match maxBy key on with
    | some j => vget v (BIL_DAY_SP.TARIFF d j)
    | none => 0

def calendarAt (v : Nat → Word) (rtc : Int) : CalendarNow :=
  let t := tariffTime v rtc
  let minutes := t / minuteTicks
  let d := minutes / dayMinutes
  let m := (minutes % dayMinutes).toNat
  let (year, month, day) := civil d
  let season := seasonOf v month day
  let week := if season = 15 then 0 else vget v (BIL_SEASON.WEEK season)
  let spec := (List.range 32).find? (fun k => von v (BIL_SPEC.EN k) && decide ((vget v (BIL_SPEC.MONTH k) : Int) = month)
    && decide ((vget v (BIL_SPEC.DAY k) : Int) = day)
    && (vget v (BIL_SPEC.YEAR k) == 0 || decide ((vget v (BIL_SPEC.YEAR k) : Int) = year)))
  let dayp := match spec with
    | some k => vget v (BIL_SPEC.DAYP k)
    | none => vget v (BIL_WEEK.DAYPS week) / 16 ^ (weekday d).toNat % 16
  ⟨season, week, dayp, spec.isSome, dstActive v (stdTime v rtc), dayTariff v dayp m, m⟩

/-! ### Condition tariffs (R323) -/

/-- The value of source `src` for point `i` in a published epoch, where it is valid (Table BIL-1). -/
def State.condSource (s : State) (e : Epoch) (i src : Nat) : Option Int :=
  let v := e.view
  let kind := vget v (FLO_CFG.KIND i)
  let r := e.results.find? (fun r => r.mp == i)
  let energy := match r with
    | some r => decide (r.gains.getD 2 0 ≠ 0) || decide (r.gains.getD 3 0 ≠ 0)
    | none => false
  if src ≤ 2 then
    if kind = 2 && !s.on (NGE_STAT.TFAULT i) then
      some (s.getI (if src = 0 then NGE_TS.TS i else if src = 1 then NGE_TR.TR i else NGE_DT.DT i))
    else none
  else if src = 3 then (if kind = 2 && energy then some (s.getI (NGE_POWER.POWER i)) else none)
  else if src = 4 then (if s.on (FLO_STAT.FAILED i) && !s.on (FLO_STAT.SUBST i) then none else some (s.getI (FLO_Q.Q i)))
  else if src = 5 then
    if !s.on (MED_MP1.UNKNOWN i) && vget v (MED_TAB0.KIND (s.get (MED_MP1.CLASS i))) = 3 then some (s.get (MED_MP1.H2 i) : Int)
    else none
  else if src ≤ 9 then
    if (vget v SYS_PINCFG.PIDIS).testBit (src - 6) then none else some (if e.inputs.testBit (src - 6) then 1 else 0)
  else none

/-- The rule that gives the tariff, k + 1, and its tariff; or 0 and the calendar's. -/
def State.tariffOf (s : State) (e : Epoch) (i cal : Nat) : Nat × Nat :=
  let v := e.view
  match (List.range 4).find? (fun k => von v (BIL_MP_CONDA.EN i k) &&
      match s.condSource e i (vget v (BIL_MP_CONDA.SRC i k)) with
      | none => false
      | some x =>
        let thr := vgetI v (BIL_MP_CONDB.THR i k)
        if von v (BIL_MP_CONDA.OP i k) then decide (x < thr) else decide (thr ≤ x)) with
  | some k => (k + 1, vget v (BIL_MP_CONDA.TARIFF i k))
  | none => (0, cal)

/-! ### A point's billing state -/

/-- The total that QTY names (R316). -/
def qtyAddr (q i : Nat) : Nat :=
  match q with
  | 0 => FLO_VOLF.addr i
  | 1 => NGE_HEAT.addr i
  | 2 => NGE_COOL.addr i
  | _ => NGE_VOLB.addr i

/-- Which gain of a result QTY names, in the order of the totals. -/
def qtyGain (q : Nat) : Nat := match q with
  | 0 => 0
  | 1 => 2
  | 2 => 3
  | _ => 4

def State.clearMaxima (s : State) (i : Nat) : State := s.clearRange (BIL_MP_MD.addr i 0) (BIL_MP_MD.addr i 9 - 1)

/-! ### Keeping the state in SR09 (R394) -/

/-- The pages of a region that have not been recalled are, out of order (R159). -/
def State.recallPages (s : State) (n first count : Nat) : State :=
  ((List.range count).map (· + (regionFirst n + first))).foldl State.needPage s

/-- Words written by the owner of a region, where they differ from what stands there. -/
def State.ownerWords (s : State) (n w : Nat) (ws : List Word) : State :=
  ((List.range ws.length).zip ws).foldl (fun s (k, x) =>
    if s.sramWord (regionWord n (w + k)) = x then s else s.ownerWord n (w + k) x) s

def State.keepBill (s : State) (i : Nat) : State :=
  let s := s.recallPages 9 (72 + 2 * i) 2
  s.ownerWords 9 (billWord i 0) (s.billWords i)

/-- The pulse input counts are kept with the billing state (R594). -/
def State.keepInputs (s : State) : State :=
  let s := s.recallPages 9 73 1
  s.ownerWords 9 (billWord 0 64) ((List.range 4).map (fun n => s.rd (LOC_PI_CNT.addr n)))

/-- Region 9 was LOST or EMPTY: the point starts from 0 and the present total (R335). -/
def State.newBill (s : State) (i : Nat) : State :=
  let q := s.get (BIL_MP_CFG.QTY i)
  let total := s.get2 (qtyAddr q i)
  let s := (s.clearRange (BIL_MP_TR.addr i 0) (BIL_MP_TR.addr i 8 - 1)).clearMaxima i
  let s := (s.put2 (BIL_MP_BASE.addr i) total).wr (BIL_MP_SNAPIDX.addr i) 31
  (s.setBill i { s.bill i with last := total, qty := q, cur := none, subs := [], missed := none }).raise (Ev.TR_RESET i)

/-- A page of the snapshot ring is set to 0 (R335). -/
def State.clearPage (s : State) (p : Nat) : State :=
  let zero := List.replicate 256 (0 : Byte)
  if Memory.bytes s.sto.sram (256 * p) 256 = zero then s
  else State.markDirty { s with sto := { s.sto with sram := Memory.setBytes s.sto.sram (256 * p) zero } } p

/-- APC takes the billing region over, at the first publication it processes (R335, R336). -/
def State.loadBilling (s : State) : State :=
  if s.bil.loaded then s
  else
    let s := s.recallPages 9 72 8
    let s := if [5, 6].contains (s.regionOutcome 9) then
        let s := s.recallPages 9 0 72
        let s := ((List.range 72).map (· + regionFirst 9)).foldl State.clearPage s
        (List.range (mpCount s.pod)).foldl (fun s i => (s.newBill i).keepBill i) s
      else s
    { s with bil := { s.bil with loaded := true } }

/-! ### Demand (R326 to R328) -/

/-- Interval length in ticks by code. -/
def demandTicks (code : Nat) : Int := ([1, 2, 3, 5, 10, 15, 20, 30, 60].getD code 60) * minuteTicks

/-- The demand boundary at or after the RTC count `b`, as an RTC count: a whole multiple of DLEN in standard tariff time (R327). -/
def demandEnd (v : Nat → Word) (i : Nat) (b : Int) : Int :=
  let len := demandTicks (vget v (BIL_MP_CFG.DLEN i))
  let std : Int := -(-(stdTime v b) / len) * len
  std - vgetI v BIL_TOFS.TOFS * minuteTicks

/-- A window's demand: Q · 3,600 / T, rounded (R326). Outside 32 bits the register's value is open. -/
def State.windowDemand (s : State) (q : Int) (ticks : Nat) : Nat × State :=
  let d := roundDiv (q * 3600 * 1024) (ticks * 2 ^ 32)
  if 0 ≤ d ∧ d < 2 ^ 32 then (d.toNat, s) else let (w, s) := s.fresh; (w.toNat, s)

/-- The demand compared with maximum `k` (R328). -/
def State.compareMax (s : State) (i k d rtc : Nat) : State :=
  if s.get (BIL_MP_MD.MD i k) < d then
    ((s.put (BIL_MP_MD.MD i k) d).put2 (BIL_MP_MDT.addr i k) rtc).raise (Ev.MD_NEW i)
  else s

/-- The sub-interval in progress ends, and with it a window (R327, R328). -/
def State.endSub (s : State) (v : Nat → Word) (i : Nat) : State :=
  let b := s.bill i
  match b.cur with
  | none => s
  | some c =>
    let sliding := von v (BIL_MP_CFG.DMODE i)
    let n := vget v (BIL_MP_CFG.NSUB i)
    let subs := (c :: b.subs).take n
    let win := if sliding then subs else [c]
    let partial_ := sliding && decide (subs.length < n)
    let q := win.foldl (fun x w => x + w.q) 0
    let ticks := win.foldl (fun x w => x + w.ticks) 0
    let rtc := c.endAt.toNat
    let cset := win.any (fun w => w.cset)
    let s := s.setBill i { b with cur := none, subs := if c.cset then [] else subs }
    let (d, s) := s.windowDemand q ticks
    let s := (s.put (BIL_MP_DLAST.DLAST i) d).put2 (BIL_MP_DLASTT.addr i) rtc
    let s := ((s.putB (BIL_MP_DSTAT.CSET i) cset).putB (BIL_MP_DSTAT.OUTAGE i) (win.any (fun w => w.outage))).putB
      (BIL_MP_DSTAT.PARTIAL i) partial_
    let s := (s.putB (BIL_MP_DSTAT.GAP i) (win.any (fun w => w.gap))).put (BIL_MP_DSTAT.ELAPSED i)
      (min 0xFFFF (roundDiv ticks 1024).toNat)
    let s := s.raise (Ev.DEMAND_DONE i)
    if partial_ then s else (s.compareMax i c.tariff d rtc).compareMax i 8 d rtc

/-- The sub-interval in progress ends when it does not hold the epoch that ends at `b` (R314, R336). It is marked GAP where a publication
missed lies in it, and sub-intervals that hold no publication but missed ones stay empty and marked in the sliding window (R317). DEDUCED (log 39). -/
def State.overdueSub (s : State) (v : Nat → Word) (i : Nat) (b : Int) : State :=
  let p := s.bill i
  match p.cur with
  | none => s
  | some c =>
    let len := demandTicks (vget v (BIL_MP_CFG.DLEN i))
    if c.endAt < b || (c.outage && decide (b ≤ c.endAt - len)) then
      let cut := match p.missed with
        | some m => decide ((m.1 : Int) ≤ c.endAt)
        | none => false
      let s := (s.setBill i { p with cur := some { c with gap := c.gap || cut } }).endSub v i
      let empty (d : Int) : SubInterval := ⟨d, 0, 0, c.tariff, false, true, false⟩
      let n := if p.missed.isSome && !c.outage then min (vget v (BIL_MP_CFG.NSUB i)) (((demandEnd v i b - c.endAt) / len).toNat - 1) else 0
      s.setBill i { s.bill i with subs := List.replicate n (empty c.endAt) ++ (s.bill i).subs }
    else s

/-- The epoch's quantity joins its sub-interval; DCUR shows the window so far, and a window ends where the epoch ends at its
boundary. -/
def State.addDemand (s : State) (v : Nat → Word) (i : Nat) (b q : Int) (ticks tariff : Nat) : State :=
  let d := demandEnd v i b
  let p := s.bill i
  let late := match p.missed with
    | some m => decide (d - demandTicks (vget v (BIL_MP_CFG.DLEN i)) < (m.2 : Int))
    | none => false
  let c := match p.cur with
    | some c => { c with endAt := d, q := c.q + q, ticks := c.ticks + ticks, tariff := tariff, gap := c.gap || p.missed.isSome,
                         outage := false }
    | none => ⟨d, q, ticks, tariff, false, late, false⟩
  let s := s.setBill i { p with cur := some c, missed := none }
  let win := if von v (BIL_MP_CFG.DMODE i) then c :: p.subs.take (vget v (BIL_MP_CFG.NSUB i) - 1) else [c]
  let (x, s) := s.windowDemand (win.foldl (fun x w => x + w.q) 0) (win.foldl (fun x w => x + w.ticks) 0)
  let s := s.put (BIL_MP_DCUR.DCUR i) x
  if d = b then s.endSub v i else s

/-! ### Closes (R329 to R332) -/

/-- The schedule instant of a month (counted from January 2000) as an RTC count, if the month has one (R329). -/
def scheduleInstant (v : Nat → Word) (month : Int) : Option Int :=
  let year := month / 12
  let m := month % 12 + 1
  let pmon : Int := vget v BIL_BCFG.PMON
  if (m - vget v BIL_BCFG.ANCHOR) % pmon ≠ 0 then none
  else
    let dom : Int := vget v BIL_BCFG.DOM
    let day := if dom = 31 then monthDays year m else dom
    let x := (dayNumber year m day * dayMinutes + vget v BIL_BCFG.MIN) * minuteTicks
    let early := x - dstTicks v
    let std := if dstActive v early then early else if dstActive v x then dstOn v year else x
    some (std - vgetI v BIL_TOFS.TOFS * minuteTicks)

/-- The schedule instants in (`lo`, `hi`] (R330). -/
def scheduleIn (v : Nat → Word) (lo hi : Int) : List Int :=
  if vget v BIL_BCFG.MODE ≠ 1 then [] else
  let month (rtc : Int) : Int :=
    let (y, m, _) := civil (stdTime v rtc / (dayMinutes * minuteTicks))
    12 * y + m - 1
  let first := month lo - 1
  let count := (month hi + 2 - first).toNat
  ((List.range count).filterMap (fun (k : Nat) => scheduleInstant v (first + (k : Int)))).filter (fun x => decide (lo < x) && decide (x ≤ hi))

/-- The close that falls due at the publication of an epoch that ends at `b`: its C, its cause, and MISSED (R330, R334). -/
def closeDue (v : Nat → Word) (p : BillPoint) (lastB b : Nat) : Option (Int × Nat × Nat) :=
  let sched := scheduleIn v lastB b
  let dated (c : Option Nat) (cause : Nat) : List (Int × Nat) := match c with
    | some x => if x ≤ b then [((x : Int), cause)] else []
    | none => []
  let due : List (Int × Nat) := (match maxBy id sched with | some x => [(x, 1)] | none => [])
    ++ dated p.command 2 ++ dated p.activate 3 ++ (if p.reset || p.retotal then [((b : Int), 4)] else [])
  match maxBy (fun d => d.1) due with
  | none => none
  | some (c, _) => some (c, due.foldl (fun m d => min m d.2) 4, min 255 (sched.length - 1))

/-- The 64 words of a snapshot (Table BIL-3). -/
def State.snapshot (s : State) (i : Nat) (c : Int) (cause missed seq : Nat) : List Word :=
  let b := s.bill i
  let pair (a : Nat) (on : Bool) : List Word := if on then [s.rd a, s.rd (a + 1)] else [0, 0]
  let cn := c.toNat
  let ws : List Word :=
    [wordOf cn, wordOf (cn / 2 ^ 32),
     wordOf (seq + 2 ^ 16 * cause + 2 ^ 20 * b.cset.toNat + 2 ^ 21 * b.fault.toNat + 2 ^ 24 * missed),
     wordOf (b.ver + 2 ^ 16 * b.qty)]
    ++ (List.range 16).map (fun w => s.rd (BIL_MP_TR.addr i 0 + w))
    ++ pair (FLO_VOLF.addr i) true ++ pair (FLO_VOLR.addr i) true ++ pair (NGE_HEAT.addr i) (b.kind == 2)
    ++ pair (NGE_COOL.addr i) (b.kind == 2) ++ pair (NGE_VOLB.addr i) (b.kind == 3)
    ++ [s.rd (FLO_FTIME.addr i), s.rd (NGE_FTIME.addr i)]
    ++ (List.range 27).map (fun w => s.rd (BIL_MP_MD.addr i 0 + w))
    ++ [wordOf ((s.rd (FLO_FTIME_H.addr i)).toNat % 65536 + 65536 * (s.rd (NGE_FTIME_H.addr i)).toNat), 0, 0, 0]
  ws ++ [wordOf (crc32 (wordBytes ws))]

/-- A close (R331): the snapshot goes to the first unused slot or the oldest, the maxima start anew, and SR09 is stored. -/
def State.runClose (s : State) (i : Nat) (c : Int) (cause missed : Nat) : State :=
  let count := s.get (BIL_MP_SNAPIDX.COUNT i)
  let slot := if count < 18 then count else (s.get (BIL_MP_SNAPIDX.NEWEST i) + 1) % 18
  let seq := s.get (BIL_MP_SNAPIDX.SEQ i)
  let seq := if seq = 65535 then 1 else seq + 1
  let s := s.recallPages 9 (18 * i + slot) 1
  let s := s.ownerWords 9 (64 * (18 * i + slot)) (s.snapshot i c cause missed seq)
  let s := ((s.put (BIL_MP_SNAPIDX.NEWEST i) slot).put (BIL_MP_SNAPIDX.COUNT i) (min 18 (count + 1))).put (BIL_MP_SNAPIDX.SEQ i) seq
  let s := s.clearMaxima i
  let s := s.setBill i { s.bill i with cset := false, fault := false, command := none, activate := none }
  ((s.raise (Ev.CLOSE i)).raiseIf (missed != 0) Ev.CLOSE_MISSED).requestStore 9

/-- The tariff registers start anew from the total that QTY now names (R318). -/
def State.resetTariffs (s : State) (i : Nat) : State :=
  let q := s.get (BIL_MP_CFG.QTY i)
  let total := s.get2 (qtyAddr q i)
  let s := ((s.clearRange (BIL_MP_TR.addr i 0) (BIL_MP_TR.addr i 8 - 1)).clearMaxima i).put2 (BIL_MP_BASE.addr i) total
  (s.setBill i { s.bill i with last := total, qty := q, reset := false, retotal := false, subs := [] }).raise (Ev.TR_RESET i)

/-! ### The billing process of a publication (R315) -/

/-- The growth of the total since the latest processed publication goes to the tariff; the total is the one that LASTTOT follows (R316 to R318). -/
def State.addIncrement (s : State) (i tariff : Nat) : State :=
  let b := s.bill i
  let total := s.get2 (qtyAddr b.qty i)
  let a := BIL_MP_TR.addr i tariff
  (s.put2 a ((s.get2 a + (total + 2 ^ 64 - b.last)) % 2 ^ 64)).setBill i { b with last := total }

/-- The sub-interval in progress at a clock set ends at the first demand boundary of the new time at or after the end of the epoch then in
progress, and the period is marked (R333). -/
def State.reendSub (s : State) (e : Epoch) (i : Nat) : State :=
  if s.bil.clockSet = some e.id then
    let b := s.bill i
    let c := b.cur.getD ⟨0, 0, 0, s.get (BIL_MP_NOW.TARIFF i), false, false, false⟩
    s.setBill i { b with cset := true, cur := some { c with cset := true, outage := false, endAt := demandEnd e.view i e.endRtc } }
  else s

/-- One metering point at the publication of epoch `e`. -/
def State.billPoint (s : State) (e : Epoch) (lastB : Nat) (cal : CalendarNow) (i : Nat) : State :=
  let v := e.view
  let b := e.endRtc
  let (who, tariff) := s.tariffOf e i cal.tariff
  let old := s.get (BIL_MP_NOW.TARIFF i)
  let s := ((s.put (BIL_MP_NOW.TARIFF i) tariff).put (BIL_MP_NOW.WHO i) who).raiseIf (old != tariff) (Ev.TARIFF_CHANGE i)
  let r := e.results.find? (fun r => r.mp == i)
  let q : Int := match r with
    | some r => r.gains.getD (qtyGain (vget v (BIL_MP_CFG.QTY i))) 0
    | none => 0
  let grew := match r with
    | some r => r.ftime != 0 || r.nftime != 0
    | none => false
  let b0 := s.bill i
  let s := s.setBill i { b0 with retotal := b0.retotal || b0.qty != s.get (BIL_MP_CFG.QTY i) }
  let s := s.reendSub e i
  let mark (s : State) : State :=
    if (s.bill i).qty = vget v (BIL_MP_CFG.QTY i) then
      s.setBill i { s.bill i with fault := (s.bill i).fault || grew, ver := e.ver, kind := vget v (FLO_CFG.KIND i) }
    else s
  let demand (s : State) : State := s.addDemand v i b q e.len tariff
  let s := match closeDue v (s.bill i) lastB b with
    | none => demand (((mark s).addIncrement i tariff).overdueSub v i b)
    | some (c, cause, missed) =>
      let close (s : State) : State := s.runClose i c cause missed
      if c = (b : Int) then close (demand (((mark s).addIncrement i tariff).overdueSub v i b))
      else
        let before := match (s.bill i).cur with
          | some x => decide (x.endAt ≤ c)
          | none => false
        let s := if before then s.overdueSub v i b else s
        demand (((mark (close s)).addIncrement i tariff).overdueSub v i b)
  let s := if (s.bill i).reset || (s.bill i).retotal then s.resetTariffs i else s
  s.keepBill i

/-- APC does not run: the publication is missed (R317). -/
def State.missBill (s : State) (e : Epoch) (i : Nat) : State :=
  let s := (s.recallPages 9 (72 + 2 * i) 2).reendSub e i
  let b := s.bill i
  State.keepBill (s.setBill i { b with missed := some ((b.missed.getD (e.endRtc, 0)).1, e.endRtc) }) i

/-- APC's billing of a published epoch; while APC does not run, the publication is missed (R317). -/
def State.billEpoch (s : State) (e : Epoch) : State :=
  let v := e.view
  let points := (enabledPoints s.pod v).filter (fun i => von v (BIL_MP_CFG.EN i))
  let s :=
    if s.fab.restarting.contains 1 || s.on (FLT_CORE.HALTED 1) then points.foldl (fun s i => s.missBill e i) s
    else
      let s := s.loadBilling
      let lastB := s.get2 BIL_LASTB.addr
      let cal := calendarAt v ((e.endRtc : Int) - 1)
      let oldSeason := s.get BIL_NOW.SEASON
      let oldDst := s.on BIL_NOW.DST
      let s := (((s.put BIL_NOW.SEASON cal.season).put BIL_NOW.WEEK cal.week).put BIL_NOW.DAYP cal.dayp).putB BIL_NOW.SPECIAL cal.special
      let s := ((s.putB BIL_NOW.DST cal.dst).put BIL_NOW.TCAL cal.tariff).put BIL_NOW.MIN cal.minute
      let s := (s.raiseIf (oldSeason != cal.season) Ev.SEASON_CHANGE).raiseIf (oldDst != cal.dst) Ev.DST_CHANGE
      let s := points.foldl (fun s i => s.billPoint e lastB cal i) s
      (((s.put2 BIL_LASTB.addr e.endRtc).keepBill 0).keepInputs)
  if s.bil.clockSet = some e.id then { s with bil := { s.bil with clockSet := none } } else s

/-! ### Publication (R250, R309) -/

/-- Engine `k`'s words of the epoch, and EPOCH_DONE and EPOCH_INCOMPLETE (R250, R252). -/
def State.publishEngine (s : State) (k : Nat) (c : EngineCount) : State :=
  if c.sched = 0 then s
  else
    let s := (s.put (ECH_EPA.SCHED k) c.sched).put (ECH_EPA.FIRED k) c.fired
    let s := ((s.put (ECH_EPB.LOST k) c.lost).putB (ECH_EPB.INCOMPLETE k) (c.lost != 0)).put (ECH_EPB.CAUSE k) c.causes
    (s.raise (Ev.EPOCH_DONE k)).raiseIf (c.lost != 0) (Ev.EPOCH_INCOMPLETE k)

/-- The shots of an epoch that are still queued at the end of its tail end OVERRUN (R249). -/
def State.tailOverrun (s : State) (e : Epoch) : State :=
  [0, 1, 2, 3].foldl (fun s k =>
    let (old, rest) := (s.shotQueue k).partition (fun x => x.epoch == e.id)
    (old.foldl (fun s x => s.loseShot e.id x.event x.path k x.rev 2 true) s).setShotQueue k rest) s

/-- What the report service keeps of a published epoch: its end, and that it failed or that REVERSE was raised (Table CON-3). -/
def State.noteReport (s : State) (e : Epoch) : State :=
  let rs := e.results.flatMap (fun r => r.raises)
  let failed := (List.range 4).any (fun i => rs.contains (Ev.EPOCH_FAILED i))
  let rev := (List.range 4).any (fun i => rs.contains (Ev.REVERSE i))
  { s with con := { s.con with lastEnd := e.endRtc, since := s.con.since ||| (4 * failed.toNat + 32 * rev.toNat) } }

/-- The oldest tail is published: late shots end OVERRUN, the arrival, flow and medium results and the totals are published in
one instant, and APC bills the epoch (R250, R263, R278, R307, R309, R315). -/
def State.publishEpoch (s : State) : State :=
  match s.fir.tails with
  | [] => s
  | e :: _ =>
    if s.measuring then
      let s := (s.cutEpoch e false).tailOverrun e
      let s := match s.epoch e.id with
        | some e => s.publishArrival e
        | none => s
      let e := (s.epoch e.id).getD e
      let s := { s with fir := { s.fir with tails := s.fir.tails.drop 1 } }
      let s := ([0, 1, 2, 3].zip e.engines).foldl (fun s (k, c) => s.publishEngine k c) s
      let s := (s.put FIR_PUB.EPNUM (e.startRtc / 2 ^ e.eplog)).put FIR_PUBLEN.LEN e.len
      let s := s.putB FIR_PUBLEN.INCOMPLETE (e.refused || e.engines.any (fun c => c.lost != 0))
      let s := (s.publishFlow e).noteReport e
      let s := (enabledPoints s.pod e.view).foldl (fun s i => s.classify e.view i (e.theta i)) s
      (s.billEpoch e).reach 8
    else s

/-! ### BIL_CMD (R330, R334) -/

/-- A command over the points of `mask`: RESULT is 3 NO_MP where one is not enabled or outside the profile, 2 BUSY where one
has a command pending, and 1 ACCEPTED otherwise. -/
def State.billCommand (s : State) (mask : BitVec 4) (f : BillPoint → BillPoint) : State :=
  let ps := (List.range 4).filter (fun i => mask.getLsbD i)
  if ps.any (fun i => !(decide (i < mpCount s.pod) && s.on (BIL_MP_CFG.EN i))) then s.put BIL_CMD.RESULT 3
  else if ps.any (fun i => (s.bill i).command.isSome || (s.bill i).reset) then (s.put BIL_CMD.RESULT 2).raise Ev.BIL_REFUSED
  else (ps.foldl (fun s i => s.setBill i (f (s.bill i))) s).put BIL_CMD.RESULT 1

/-- BIL_CMD_CLOSE: C is the RTC at acceptance. -/
def execBilCmdClose (mask : BitVec 4) (s : State) : Out :=
  s.onTwill (fun s => s.billCommand mask (fun b => { b with command := some s.time.rtc.toNat }))

/-- RESETTR. -/
def execResettr (mask : BitVec 4) (s : State) : Out := s.onTwill (fun s => s.billCommand mask (fun b => { b with reset := true }))

/-- A clock set marks the period and re-ends the sub-interval in progress (R333). -/
def State.billClockSet (s : State) : State :=
  { s with bil := { s.bil with clockSet := some (match s.fir.cur with | some e => e.id | none => s.fir.nextId) }, con := { s.con with since := s.con.since ||| 8 } }

end Sys2Proof.Machine
end

