-- ==== Sys2Proof/Machine/BypassCore.lean ====
section
/-! DEFINITION. The loop by-pass (chapter 02, R68 to R71, R79; chapter 18, R526 to R528, R531): when it is open, and what opening and
closing it do. -/

namespace Sys2Proof.Machine

/-- The transports run: step 6 is reached, and the chip runs (R169). -/
def State.netRunning (s : State) : Bool := s.boot.steps.testBit 6 && s.mode == .run && !s.umb.frozen && !s.shed

/-- The by-pass may be open: in Run, in the Hub profile, with the loop controller enabled, VIO_L good and its clocks running (R70, R81,
R139), no Doze entry under way, and no wait after a by-pass fault (R528). -/
def State.bypassMayOpen (s : State) : Bool :=
  s.netRunning && !s.pod && s.on LOP_CFG.EN && s.on PWR_STAT.VIOLOK && !s.on CLK_STAT.SYSSRC
    && !s.pwr.dozeEntry && s.bypass.waiting.isNone

/-- The relay type of by-pass (R69). -/
def State.relayType (s : State) : Bool := s.on SYS_STRAP.BYPTYPE

/-- LBYP_N is driven high: in the relay type, while the by-pass is open; it is held low in the internal type (R68, R69, R71). -/
def State.lbypHigh (s : State) : Bool := s.relayType && !s.on SYS_BYPASS.CLOSED && s.on PWR_STAT.VIOLOK

/-- The internal switch is open: always in the relay type while the chip is powered, else while the by-pass is open (R68, R69). -/
def State.loopSwitchOpen (s : State) : Bool := s.relayType || !s.on SYS_BYPASS.CLOSED

/-- A slave loses its station (R527). -/
def State.loseStation (s : State) : State := { (s.put LOP_STAT.STATION 0) with lop := { s.lop with dtog := none } }

/-- The by-pass closes: the repeat path first, then the switch or the relay; the frame on the ring is lost to this node, a slave
loses its station, and LEFT is raised (R71, R526, R527). -/
def State.closeBypass (s : State) : State :=
  if s.on SYS_BYPASS.CLOSED then s
  else
    let s := { s with bypass := { s.bypass with repeating := false, settling := false, joined := false, since := 0, rejoin := false }
                      lop := { s.lop with frame := none, line := [], aborted := false } }
    ((((s.put SYS_BYPASS.CLOSED 1).put LOP_STAT.REPEAT 0).put LOP_STAT.RING 0).loseStation).raise Ev.LEFT

/-- The node counts as joined; as master it starts with a DISCOVER (R520, R526). -/
def State.join (s : State) : State :=
  State.raise (State.put { s with bypass := { s.bypass with settling := false, joined := true, since := s.time.cyc }
                                  lop := { s.lop with discover := true, heard := s.time.aoTick, silent := false } } LOP_STAT.REPEAT 1) Ev.JOINED

/-- The by-pass opens: the repeat path first, then the switch, or the relay, whose node joins after SETTLE (R71). -/
def State.openBypass (s : State) : State :=
  if s.on SYS_BYPASS.CLOSED then
    let s := State.put { s with bypass := { s.bypass with repeating := true, rejoin := false } } SYS_BYPASS.CLOSED 0
    if s.relayType then { s with bypass := { s.bypass with settling := true, since := s.time.cyc } } else s.join
  else s

/-- One switching towards what the settings ask for: an apply that changed them closes it first (R526, R531). -/
def State.bypassAct (s : State) : State :=
  if s.bypass.rejoin && !s.on SYS_BYPASS.CLOSED then s.closeBypass
  else if s.bypassMayOpen then s.openBypass else s.closeBypass

/-- The external-relay type switches at once in every case (R526). DEDUCED (log 33). -/
def State.bypassIfRelay (s : State) : State :=
  if s.relayType then (if s.bypass.rejoin then s.bypassAct.bypassAct else s.bypassAct) else s

/-- An apply that changes EN, ROLE, NETID or LOP_ADDR, seen against the register words before it (R531). -/
def State.bypassApply (s : State) (old : Nat → Word) : State :=
  let changed (f : Fd) : Bool := f.of (old f.addr) != s.get f
  if changed LOP_CFG.EN || changed LOP_CFG.ROLE || changed LOP_CFG.NETID || changed LOP_ADDR.ADDR then
    State.bypassIfRelay { s with bypass := { s.bypass with rejoin := !s.on SYS_BYPASS.CLOSED } }
  else s

/-- An apply, seen against the register words before it: banks CB2 to CB5 that PWR_BANK switches off lose their content, and one that
returns is written 0 whole before the first access to it (R91). -/
def State.banksApply (s : State) (old : Nat → Word) : State :=
  let off := s.get PWR_BANK.OFF ||| PWR_BANK.OFF.of (old PWR_BANK.addr)
  ((List.range 4).filter (fun j => off.testBit j)).foldl (fun s j => s.clearBank (j + 2)) s

end Sys2Proof.Machine
end

