-- ==== Sys2Proof/Machine/Aes.lean ====
section
/-! DEFINITION. AES encryption with keys of 16 or 32 bytes, as the credential test (R344) and the frame security of chapter 17
use it. The algorithm is the published one (PRESUMED: the spec names it, and prints no table of it). -/

namespace Sys2Proof.Machine

/-- Multiplication by x in the AES field. -/
def aesDouble (b : Nat) : Nat := if b < 128 then 2 * b else Nat.xor (2 * b - 256) 0x1B

/-- The S-box, 16 entries a line. -/
def aesRow0 : List Nat := [
  0x63, 0x7C, 0x77, 0x7B, 0xF2, 0x6B, 0x6F, 0xC5, 0x30, 0x01, 0x67, 0x2B, 0xFE, 0xD7, 0xAB, 0x76,
  0xCA, 0x82, 0xC9, 0x7D, 0xFA, 0x59, 0x47, 0xF0, 0xAD, 0xD4, 0xA2, 0xAF, 0x9C, 0xA4, 0x72, 0xC0,
  0xB7, 0xFD, 0x93, 0x26, 0x36, 0x3F, 0xF7, 0xCC, 0x34, 0xA5, 0xE5, 0xF1, 0x71, 0xD8, 0x31, 0x15,
  0x04, 0xC7, 0x23, 0xC3, 0x18, 0x96, 0x05, 0x9A, 0x07, 0x12, 0x80, 0xE2, 0xEB, 0x27, 0xB2, 0x75]
def aesRow1 : List Nat := [
  0x09, 0x83, 0x2C, 0x1A, 0x1B, 0x6E, 0x5A, 0xA0, 0x52, 0x3B, 0xD6, 0xB3, 0x29, 0xE3, 0x2F, 0x84,
  0x53, 0xD1, 0x00, 0xED, 0x20, 0xFC, 0xB1, 0x5B, 0x6A, 0xCB, 0xBE, 0x39, 0x4A, 0x4C, 0x58, 0xCF,
  0xD0, 0xEF, 0xAA, 0xFB, 0x43, 0x4D, 0x33, 0x85, 0x45, 0xF9, 0x02, 0x7F, 0x50, 0x3C, 0x9F, 0xA8,
  0x51, 0xA3, 0x40, 0x8F, 0x92, 0x9D, 0x38, 0xF5, 0xBC, 0xB6, 0xDA, 0x21, 0x10, 0xFF, 0xF3, 0xD2]
def aesRow2 : List Nat := [
  0xCD, 0x0C, 0x13, 0xEC, 0x5F, 0x97, 0x44, 0x17, 0xC4, 0xA7, 0x7E, 0x3D, 0x64, 0x5D, 0x19, 0x73,
  0x60, 0x81, 0x4F, 0xDC, 0x22, 0x2A, 0x90, 0x88, 0x46, 0xEE, 0xB8, 0x14, 0xDE, 0x5E, 0x0B, 0xDB,
  0xE0, 0x32, 0x3A, 0x0A, 0x49, 0x06, 0x24, 0x5C, 0xC2, 0xD3, 0xAC, 0x62, 0x91, 0x95, 0xE4, 0x79,
  0xE7, 0xC8, 0x37, 0x6D, 0x8D, 0xD5, 0x4E, 0xA9, 0x6C, 0x56, 0xF4, 0xEA, 0x65, 0x7A, 0xAE, 0x08]
def aesRow3 : List Nat := [
  0xBA, 0x78, 0x25, 0x2E, 0x1C, 0xA6, 0xB4, 0xC6, 0xE8, 0xDD, 0x74, 0x1F, 0x4B, 0xBD, 0x8B, 0x8A,
  0x70, 0x3E, 0xB5, 0x66, 0x48, 0x03, 0xF6, 0x0E, 0x61, 0x35, 0x57, 0xB9, 0x86, 0xC1, 0x1D, 0x9E,
  0xE1, 0xF8, 0x98, 0x11, 0x69, 0xD9, 0x8E, 0x94, 0x9B, 0x1E, 0x87, 0xE9, 0xCE, 0x55, 0x28, 0xDF,
  0x8C, 0xA1, 0x89, 0x0D, 0xBF, 0xE6, 0x42, 0x68, 0x41, 0x99, 0x2D, 0x0F, 0xB0, 0x54, 0xBB, 0x16]

def aesSub (b : Nat) : Nat :=
  (if b < 64 then aesRow0 else if b < 128 then aesRow1 else if b < 192 then aesRow2 else aesRow3).getD (b % 64) 0

def xorBytes (a b : List Nat) : List Nat := List.zipWith Nat.xor a b

/-- The next 4-byte word of the key schedule: `prev` the latest word, `back` the one `nk` words before it, `i` its index. -/
def aesNextWord (nk i rcon : Nat) (prev back : List Nat) : List Nat :=
  if i % nk = 0 then
    let r := (prev.drop 1 ++ prev.take 1).map aesSub
    xorBytes back (xorBytes r [rcon, 0, 0, 0])
  else if nk = 8 ∧ i % 8 = 4 then xorBytes back (prev.map aesSub)
  else xorBytes back prev

/-- The key schedule, newest word first. -/
def aesExpand (nk : Nat) : Nat → Nat → Nat → List (List Nat) → List (List Nat)
  | 0, _, _, ws => ws
  | n + 1, i, rcon, ws =>
    let w := aesNextWord nk i rcon (ws.headD []) (ws.getD (nk - 1) [])
    aesExpand nk n (i + 1) (if i % nk = 0 then aesDouble rcon else rcon) (w :: ws)

/-- The round keys, 16 bytes each. -/
def aesKeys (key : List Nat) : List (List Nat) :=
  let nk := key.length / 4
  let rounds := nk + 7
  let first := (List.range nk).map (fun i => (key.drop (4 * i)).take 4)
  let ws := (aesExpand nk (4 * rounds - nk) nk 1 first.reverse).reverse
  (List.range rounds).map (fun r => ((ws.drop (4 * r)).take 4).flatten)

/-- Byte r of column c comes from column c + r (ShiftRows). -/
def aesShift (st : List Nat) : List Nat := (List.range 16).map (fun k => st.getD ((k + 4 * (k % 4)) % 16) 0)

def aesMixColumn (a b c d : Nat) : List Nat :=
  let t := Nat.xor (Nat.xor a b) (Nat.xor c d)
  let m (x y : Nat) : Nat := Nat.xor x (Nat.xor t (aesDouble (Nat.xor x y)))
  [m a b, m b c, m c d, m d a]

def aesMix (st : List Nat) : List Nat :=
  (List.range 4).flatMap (fun c => aesMixColumn (st.getD (4 * c) 0) (st.getD (4 * c + 1) 0) (st.getD (4 * c + 2) 0) (st.getD (4 * c + 3) 0))

def aesRounds : List (List Nat) → List Nat → List Nat
  | [], st => st
  | [k], st => xorBytes (aesShift (st.map aesSub)) k
  | k :: ks, st => aesRounds ks (xorBytes (aesMix (aesShift (st.map aesSub))) k)

/-- The encryption of a 16-byte block. -/
def aesBlock (keys : List (List Nat)) (block : List Nat) : List Nat :=
  match keys with
  | [] => block
  | k :: ks => aesRounds ks (xorBytes block k)

def aesEncrypt (key block : List Nat) : List Nat := aesBlock (aesKeys key) block

end Sys2Proof.Machine
end

