-- ==== Sys2Proof/Machine/Events.lean ====
section
/-! DEFINITION. The event matrix and the two logs (chapter 20): taking a raise and routing it, the host-pending bits and
the IRQ pins, the log FIFO, the legal queue and its quota, and the writes into the log array. -/

namespace Sys2Proof.Machine

/-! ### Routes and pending bits (R554 to R558) -/

/-- The 16-bit route entry of a source (R554). -/
def State.route (s : State) (src : Nat) : Nat := (s.rd (routeAddr src)).toNat / 2 ^ routeLo src % 65536

def routePin (r : Nat) : Nat := r % 4
def routeHost (r : Nat) : Bool := r.testBit 2
def routeCore (r c : Nat) : Bool := r.testBit (3 + c)
def routeOpen (r : Nat) : Bool := r.testBit 6
def routeLegal (r : Nat) : Bool := r.testBit 7
def routeWake (r : Nat) : Bool := r.testBit 8
def routePrio (r : Nat) : Nat := r / 512 % 4

/-- Bit `i` of register word `a` set. -/
def State.setBit (s : State) (a i : Nat) : State := s.wr a (s.rd a ||| BitVec.ofNat 32 (2 ^ i))
def State.clearBit (s : State) (a i : Nat) : State := s.wr a (s.rd a &&& ~~~ BitVec.ofNat 32 (2 ^ i))

/-- The sources whose host-pending bit is 1. -/
def State.hostPending (s : State) : List Nat :=
  (List.range 36).flatMap (fun b =>
    let w := s.rd (EVT_HPEND.addr b)
    if w = 0 then [] else ((List.range 32).filter (fun i => w.getLsbD i)).map (fun i => 32 * b + i))

/-- Is IRQn_N asserted: a source with HOST 1 and PIN n is host-pending, and bit n of H_IRQ_MASK is 0 (R556)? -/
def State.irqPin (s : State) (n : Nat) : Bool :=
  s.hostPending.any (fun src => let r := s.route src; routeHost r && routePin r == n)
  && !(s.get H_IRQ_MASK.MASK).testBit n

/-- The chip pulls IRQn_N low: released at RESET_N low and during a reset of the host bridge (R64), in Vault, Listen and reset, and with VIO_H
lost (Table BAL-5). -/
def State.irqLow (s : State) (n : Nat) : Bool :=
  s.irqPin n && (s.mode == .run || s.mode == .doze) && !s.shed && !s.pins.resetLow && !s.pins.vioHBad && !s.fab.resets.contains 13

/-- The registers that show the host-pending bits: H_IRQ_PEND, H_STAT.IRQ and H_EVT_BANK.NEXT (R556). -/
def State.showPending (s : State) : State :=
  let pins := (List.range 4).foldl (fun v n => if s.irqPin n then v + 2 ^ n else v) 0
  let s := (s.put H_IRQ_PEND.PIN pins).putB H_STAT.IRQ (pins != 0)
  s.put H_EVT_BANK.NEXT (((List.range 36).find? (fun b => s.rd (EVT_HPEND.addr b) != 0)).getD 0x3F)

/-- The cores' pending bits that the raise sets (R558, R647). -/
def State.corePend (s : State) (src r : Nat) : State :=
  [0, 1, 2].foldl (fun s c =>
    if routeCore r c then s.setBit (EVT_CPEND.addr c (src / 32)) (src % 32) else s) s

/-! ### The log FIFO (R571) -/

/-- Free places that an entry of a priority needs. -/
def fifoNeed (prio : Nat) : Nat := if prio = 3 then 1 else if prio = 2 then 9 else if prio = 1 then 17 else 33

def State.showFifo (s : State) : State :=
  (s.put LOG_FIFO.USED s.evt.fifo.length).peak LOG_FIFO.PEAK s.evt.fifo.length

/-- An entry goes to the log FIFO, with an OVERFLOW entry ahead of it after drops, or is dropped and counted. -/
def State.toFifo (s : State) (e : LogEntry) : State :=
  let free := 128 - s.evt.fifo.length
  let need := fifoNeed e.prio + (if s.evt.drops = 0 then 0 else 1)
  if free < need then
    let first := s.evt.drops == 0
    let s := { s with evt := { s.evt with drops := s.evt.drops + 1,
                                           drops3 := s.evt.drops3 + (if e.prio = 3 then 1 else 0) } }
    (s.bump LOG_FIFO.DROPS).raiseIf first Ev.OPEN_OVERFLOW
  else
    let marker : List LogEntry :=
      if s.evt.drops = 0 then []
      else [⟨e.ts, 0x7FF, 0x0C, 3, false, false, [BitVec.ofNat 32 s.evt.drops, BitVec.ofNat 32 s.evt.drops3]⟩]
    ({ s with evt := { s.evt with fifo := s.evt.fifo ++ marker ++ [e], drops := 0, drops3 := 0 } } : State).showFifo

/-! ### The legal queue and the quota (R564 to R567) -/

/-- Legal-log entries written, failed, queued or reserved (SEA_CTR.LOGUSED, R353, R564, R572). -/
def State.logUsed (s : State) : Nat := min 2048 (s.evt.legalSlots + s.evt.legalQ.length + s.evt.reserved)

/-- The registers that show the legal log: LOGUSED, LOG_LSTAT, and LOGFULL, whose first setting raises LOG_FULL (R355). -/
def State.showLegal (s : State) : State :=
  let s := s.put SEA_CTR.LOGUSED s.logUsed
  let s := s.put LOG_LSTAT.QUEUED s.evt.legalQ.length
  if s.logUsed = 2048 && !s.on SEA_STAT.LOGFULL then
    ((s.put SEA_STAT.LOGFULL 1).raise Ev.LOG_FULL).legalAlarm 1
  else s

/-- An entry is placed in the legal queue and given its SEQ; with OPEN 1 it is also written to the open log, LEGAL set
(R562, R564). The sealed change whose place was reserved at its commit point uses that reservation (R353). -/
def State.placeLegal (s : State) (open_ : Bool) (e : LogEntry) : State :=
  let resv := if e.kind = 0x01 then s.evt.reserved - 1 else s.evt.reserved
  let n := s.evt.legalSeq + 1
  let s := { s with evt := { s.evt with legalQ := s.evt.legalQ ++ [(n, e)], legalSeq := n, reserved := resv } }
  let s := if open_ then s.toFifo { e with legal := true } else s
  let full := s.evt.legalQ.length == 32
  let s := s.raiseIf (full && !s.evt.queueFull) Ev.LEGAL_QUEUE_FULL
  ({ s with evt := { s.evt with queueFull := full } } : State).showLegal

/-- May LGC form the entry for the legal log? SEALED_APPLY and SEALED_REFUSED always; every other kind only while
2,048 − LOGUSED > (999 − CTR) + 16 (R566). DESIGN CHOICE (log 4). -/
def State.quotaAllows (s : State) (e : LogEntry) : Bool :=
  e.kind == 0x01 || e.kind == 0x02 || decide ((999 - s.get SEA_CTR.CTR) + 16 < 2048 - s.logUsed)

/-- The quota rule or the end of the log withholds an entry: it goes to the open log with SKIPPED set, whatever OPEN holds,
and is counted; LEGAL_QUOTA is raised the first time (R566). -/
def State.withhold (s : State) (e : LogEntry) : State :=
  let s := s.put LOG_LSKIP.N (min 0xFFFFFFFF (s.get LOG_LSKIP.N + 1))
  let s := s.raiseIf (!s.evt.quotaRaised) Ev.LEGAL_QUOTA
  State.toFifo { s with evt := { s.evt with quotaRaised := true } } { e with skipped := true, legal := false }

/-- LGC takes a legal entry: into the queue, or to the open log where the quota rule withholds it; while the queue is full (R565), while LGC restarts
(R558) and before its legal registers are loaded at step 4 it is left pending. Its pending bit clears when it is taken. -/
def State.formLegal (s : State) (open_ : Bool) (e : LogEntry) : State :=
  if s.evt.legalQ.length < 32 && s.coreUp 0 && s.boot.legalLoaded then
    (if s.quotaAllows e then s.placeLegal open_ e else s.withhold e).clearBit (EVT_CPEND.addr 0 (e.source / 32)) (e.source % 32)
  else { s with evt := { s.evt with legalWait := s.evt.legalWait ++ [(open_, e)] } }

/-- A place of the legal queue falls free, or LGC runs again: raises left pending are taken, in their order, as far as there is room (R558, R565). -/
def State.takeWaiting (s : State) : State :=
  s.evt.legalWait.foldl (fun s x => s.formLegal x.1 x.2) { s with evt := { s.evt with legalWait := [] } }

/-- The entry kind of a source whose log is "legal, fixed" (Table EVT-4). -/
def legalKind (src : Nat) : Nat :=
  if src = Ev.CTR_CHARGED then 0x01 else if src = Ev.STG_REFUSED then 0x02 else if src = Ev.TIME_SET then 0x03
  else if src = Ev.FRZ_RESUME then 0x04 else if src = Ev.START then 0x05 else if src = Ev.LEGAL_ROLLBACK then 0x06
  else if src = Ev.SESSION_OPEN ∨ src = Ev.SESSION_CLOSE then 0x07
  else if src = Ev.PATCH_INSTALLED ∨ src = Ev.PATCH_REFUSED then 0x08
  else if src = Ev.LEGAL_ALARM then 0x09 else 0x0A

def RoutedCount.none (_ : Nat) : RoutedCount := ⟨Option.none, 0⟩

/-- Ticks of the AO tick in 86,400 s (R567). -/
def dayTicks : Nat := 86400 * 1024

/-- The entries that a taken raise makes (R562): a fixed legal entry; a ROUTED entry at most once in 86,400 s; the open
STAGED entry of a set without an SL entry; else an EVENT entry where OPEN is 1. -/
def State.logRaise (s : State) (r : Raise) (ts : Time) : State :=
  let rt := s.route r.src
  let e (kind : Nat) (data : List Word) : LogEntry := ⟨ts, r.src, kind, routePrio rt, false, false, data⟩
  let event (s : State) : State := if routeOpen rt then s.toFifo (e 0x00 []) else s
  if r.src = Ev.STG_REFUSED then
    if r.data.isEmpty then event s else s.formLegal (routeOpen rt) (e 0x02 r.data)
  else if r.src = Ev.STG_APPLIED && !r.data.isEmpty then s.toFifo (e 0x0B r.data)
  else if fixedLegal r.src then s.formLegal (routeOpen rt) (e (legalKind r.src) r.data)
  else if routeLegal rt then
    let c := Sparse.get RoutedCount.none s.evt.routed r.src
    let n := min 0xFFFFFFFF (c.raises + 1)
    let due := match c.tick with
      | none => true
      | some t => decide (t + dayTicks ≤ s.time.aoTick)
    let c2 : RoutedCount := if due then ⟨some s.time.aoTick, 0⟩ else ⟨c.tick, n⟩
    let s := { s with evt := { s.evt with routed := Sparse.set RoutedCount.none s.evt.routed r.src c2 } }
    if due then s.formLegal (routeOpen rt) (e 0x0A [BitVec.ofNat 32 n]) else event s
  else event s

/-! ### Taking a raise (R553, R559, R560) -/

/-- The order in which raises are taken: descending PRIO, then ascending source number (R560). -/
def State.raiseKey (s : State) (r : Raise) : Nat := (3 - routePrio (s.route r.src)) * 2048 + r.src

/-- The matrix takes one raise: its raw bit, the host-pending bit and the pins, the cores' pending bits, the wake route,
the logs. The entry of a clock set carries the RTC value that it loaded (Table EVT-4). -/
def State.takeRaise (s : State) (r : Raise) : State :=
  let s := { s with evt := { s.evt with raises := eraseFirst (fun x => x == r) s.evt.raises } }
  let rt := s.route r.src
  let s := s.setBit (EVT_RAW.addr (r.src / 32)) (r.src % 32)
  let s := if routeHost rt then (s.setBit (EVT_HPEND.addr (r.src / 32)) (r.src % 32)).showPending else s
  let s := s.corePend r.src rt
  let s := if routeWake rt && s.pwr.dozeEntry then s.wake Wake.sched else s
  if r.src = Ev.TIME_SET then
    s.logRaise { r with data := r.data.take 3 } (BitVec.ofNat 48 ((r.data.getD 3 0).toNat + 2 ^ 32 * (r.data.getD 4 0).toNat))
  else s.logRaise r s.time.rtc

/-- EVENT_RAISE. DESIGN CHOICE (log 4). -/
def execEventRaise (s : State) : Out :=
  if s.matrixRuns then
    match minBy s.raiseKey s.evt.raises with
    | none => go s
    | some r => go (s.takeRaise r)
  else go s

/-! ### Writing the log array (R561, R564, R566, R570, R572) -/

/-- The eight words of an entry, its CRC in word 3 (Table EVT-2). -/
def entryWords (seq : Nat) (e : LogEntry) : List Word :=
  let d (k : Nat) : Word := (e.data[k]?).getD 0
  let w2 := e.ts.toNat / 2 ^ 32 + e.source * 65536
  let w3 := e.kind + e.prio * 256 + e.legal.toNat * 1024 + e.skipped.toNat * 2048
  let ws (crc : Nat) : List Word :=
    [BitVec.ofNat 32 seq, BitVec.ofNat 32 e.ts.toNat, BitVec.ofNat 32 w2, BitVec.ofNat 32 (w3 + crc * 65536),
     d 0, d 1, d 2, d 3]
  let bytes := wordBytes (ws 0)
  ws (crc16 (bytes.take 14 ++ bytes.drop 16))

def zeroWord (_ : Nat) : Word := 0

def putWords (m : List (Nat × Word)) (a : Nat) : List Word → List (Nat × Word)
  | [] => m
  | w :: ws => putWords (Sparse.set zeroWord m a w) (a + 1) ws

/-- Is a slot of the legal log left for the head of the legal queue, reservations and failed slots counted (R566)? The slot that was reserved for a
SEALED_APPLY is its own. -/
def State.slotLeft (s : State) (e : LogEntry) : Bool :=
  decide (s.evt.legalSlots + (if e.kind = 0x01 then 0 else s.evt.reserved) < 2048)

/-- LEGAL_ENTRY_WRITE: LGC writes the next queued entry into the next free slot; `good` says whether its read-back CRC is
good. A failed slot holds 0xFFFF_FFFF in word 0 and the entry stays to be written into the next one (R572); an entry that finds no slot left is
withheld (R566). -/
def execLegalEntryWrite (good : Bool) (s : State) : Out :=
  match s.evt.legalQ with
  | [] => go s
  | (n, e) :: rest =>
    if !s.twillRuns || !s.coreUp 0 || !s.boot.legalLoaded then go s
    else if s.slotLeft e then
      let slot := s.evt.legalSlots
      let ws := entryWords n e
      let ws := if good then ws else BitVec.ofNat 32 0xFFFFFFFF :: ws.drop 1
      let s := { s with evt := { s.evt with legalLog := putWords s.evt.legalLog (8 * slot) ws, legalSlots := slot + 1,
                                             legalQ := if good then rest else (n, e) :: rest } }
      let s := if good then { s with evt := { s.evt with queueFull := false } } else s.raise Ev.PROGRAM_FAIL
      let s := if good then s.bump LOG_LSTAT.WRITTEN else s
      go s.showLegal.takeWaiting
    else
      let s := { s with evt := { s.evt with legalQ := rest, queueFull := false } }
      go (s.withhold e).showLegal.takeWaiting

/-- OPEN_ENTRY_WRITE: the log controller gives the oldest FIFO entry its SEQ and writes it into slot (SEQ − 1) mod 8,192;
overwriting slot 0 raises OPEN_WRAP; a failed slot takes up its SEQ, and the entry is written again with the next
(R570, R572). -/
def execOpenEntryWrite (good : Bool) (s : State) : Out :=
  match s.evt.fifo with
  | [] => go s
  | e :: rest =>
    if s.matrixRuns then
      let seq := s.evt.openSeq
      let slot := (seq - 1) % 8192
      let past := slot == 0 && Sparse.get zeroWord s.evt.openLog 0 != 0
      let ws := entryWords seq e
      let ws := if good then ws else BitVec.ofNat 32 0xFFFFFFFF :: ws.drop 1
      let s := { s with evt := { s.evt with openLog := putWords s.evt.openLog (8 * slot) ws,
                                             openSeq := if seq = 0xFFFFFFFF then 1 else seq + 1,
                                             fifo := if good then rest else e :: rest } }
      let s := (s.raiseIf past Ev.OPEN_WRAP).raiseIf (!good) Ev.PROGRAM_FAIL
      let s := if good then s.put LOG_OSTAT.NEWEST seq else s
      go (s.put LOG_FIFO.USED s.evt.fifo.length)
    else go s

/-! ### Acknowledgement (R557) -/

/-- Clear the bits `m` of the host-pending word of bank `b`. -/
def State.ackBits (s : State) (b : Nat) (m : Word) : State :=
  (s.wr (EVT_HPEND.addr b) (s.rd (EVT_HPEND.addr b) &&& ~~~ m)).showPending

end Sys2Proof.Machine
end

