-- ==== Sys2Proof/Machine/LocalCore.lean ====
section
/-! DEFINITION. Items, their values and formats, the display, the pulse outputs, and the outcome of a session requested through the
optical head (chapter 21): what other chapters' events act on. -/

namespace Sys2Proof.Machine

/-! ### Item values (R577, R578, R580, Table LOC-1) -/

/-- The digits of a number in a base, most significant first, at least `n` of them. -/
def digitsIn (base : Nat) : Nat → Nat → List Nat
  | 0, _ => []
  | n + 1, x => digitsIn base n (x / base) ++ [x % base]

/-- How many digits a number needs in a base, up to `fuel`. -/
def digitCount (base : Nat) : Nat → Nat → Nat
  | 0, _ => 0
  | n + 1, x => if x = 0 then 0 else 1 + digitCount base n (x / base)

/-- The digits of an instant in tariff time, as SCALE chooses them (R580); a time of 0 shows "-". -/
def timeDigits (v : Nat → Word) (scale rtc : Nat) : ItemValue :=
  if rtc = 0 then .dashes
  else
    let secs := tariffTime v rtc / 1024
    let (year, month, day) := civil (secs / 86400)
    let sec := (secs % 86400).toNat
    let two (n : Nat) : List Nat := digitsIn 10 2 n
    let date := two (year % 100).toNat ++ two month.toNat ++ two day.toNat
    let clock := two (sec / 3600) ++ two (sec / 60 % 60) ++ two (sec % 60)
    .time (match scale with
      | 0 => date
      | 1 => clock
      | _ => date ++ clock)

/-- The slot of the snapshot `age` places before the newest, if it is used and consistent (R332, R578). -/
def State.snapSlot (s : State) (i age : Nat) : Option Nat :=
  if s.get (BIL_MP_SNAPIDX.COUNT i) ≤ age then none
  else
    let a := 64 * (18 * i + (s.get (BIL_MP_SNAPIDX.NEWEST i) + 18 - age) % 18)
    let ws := (List.range 64).map (fun w => s.sramWord (regionWord 9 (a + w)))
    if (ws.getD 2 0).toNat % 65536 ≠ 0 ∧ (ws.getD 63 0).toNat = crc32 (wordBytes (ws.take 63)) then some a else none

/-- The total that code 0 to 4 of Table LOC-1 names. -/
def totalAddr (src i : Nat) : Nat :=
  match src with
  | 0 => FLO_VOLF.addr i
  | 1 => FLO_VOLR.addr i
  | 2 => NGE_HEAT.addr i
  | 3 => NGE_COOL.addr i
  | _ => NGE_VOLB.addr i

def State.get48 (s : State) (a : Nat) : Nat := s.get2 a % 2 ^ 48

/-- The value of item `n` now. -/
def State.itemValue (s : State) (n : Nat) : ItemValue :=
  let src := s.get (LOC_ITEM_A.SRC n)
  let i := s.get (LOC_ITEM_A.MP n)
  let k := s.get (LOC_ITEM_A.IDX n)
  let age := s.get (LOC_ITEM_A.AGE n)
  let num (x : Int) : ItemValue := .number x 1
  let time (rtc : Nat) : ItemValue := timeDigits s.view (s.get (LOC_ITEM_A.SCALE n)) rtc
  if mpCount s.pod ≤ i then .dashes
  else if src ≤ 4 then num (s.get2 (totalAddr src i))
  else if src = 5 then (if k < 8 then num (s.get2 (BIL_MP_TR.addr i k)) else .dashes)
  else if src = 6 then (if k < 9 then num (s.get (BIL_MP_MD.MD i k)) else .dashes)
  else if src = 7 then (if k < 9 then time (s.get48 (BIL_MP_MDT.addr i k)) else .dashes)
  else if src = 8 then match s.snapSlot i age with
    | some a => if k < 8 then num ((s.sramWord (regionWord 9 (a + 4 + 2 * k))).toNat
        + 2 ^ 32 * (s.sramWord (regionWord 9 (a + 5 + 2 * k))).toNat : Nat) else .dashes
    | none => .dashes
  else if src = 9 then match s.snapSlot i age with
    | some a => time ((s.sramWord (regionWord 9 a)).toNat + 2 ^ 32 * ((s.sramWord (regionWord 9 (a + 1))).toNat % 65536))
    | none => .dashes
  else if src = 10 then num (s.getI (FLO_Q.Q i))
  else if src = 11 then num (s.getI (NGE_POWER.POWER i))
  else if src = 12 then num (s.getI (NGE_TS.TS i))
  else if src = 13 then num (s.getI (NGE_TR.TR i))
  else if src = 14 then num (s.getI (NGE_DT.DT i))
  else if src = 15 then num (s.get SEA_CTR.CTR)
  else if src = 16 then time s.time.rtc.toNat
  else if src = 17 then .hex Config.lgcRomCrc.toNat
  else if src = 18 then .number (s.get48 (FLO_FTIME.addr i)) (1024 * 3600)
  else if src = 19 then .number (s.get48 (NGE_FTIME.addr i)) (1024 * 3600)
  else if src = 20 then num (s.get (MED_MP1.H2 i))
  else if src = 21 then num (s.get PWR_VBAT.MV)
  else if src = 22 then num (s.get SEA_STAT.ACAUSE)
  else if src = 23 then num (s.rd UMB_FRZNUM.addr).toNat
  else if src ≤ 27 then num (s.get (LOC_PI_CNT.CNT (src - 24)))
  else .blank

/-! ### Formatting (R577, R583, R588) -/

/-- A formatted value: negative, its digits (DIGITS of them, or the digits of a time), all "-", and whether it overflowed. -/
structure Shown where
  neg : Bool
  digits : List Nat
  dashes : Bool
  past : Bool
  deriving DecidableEq, Repr

/-- A number with the item's SCALE, DEC and DIGITS. -/
def formatNumber (base : Nat) (n : Int) (d scale dec digits : Nat) : Shown :=
  let t := truncDiv (n * (10 ^ dec : Nat)) (d * 10 ^ scale)
  let need := max (digitCount base 40 t.natAbs) (dec + 1)
  if t < 0 then
    if digits < need + 1 then ⟨true, [], true, true⟩ else ⟨true, digitsIn base (digits - 1) t.natAbs, false, false⟩
  else ⟨false, digitsIn base digits t.natAbs, false, decide (digits < digitCount base 40 t.natAbs)⟩

/-- The value of item `n` as it is formatted; none for text only. -/
def State.format (s : State) (n : Nat) (x : ItemValue) : Option Shown :=
  let scale := s.get (LOC_ITEM_A.SCALE n)
  let dec := s.get (LOC_ITEM_A.DEC n)
  let digits := s.get (LOC_ITEM_A.DIGITS n)
  let src := s.get (LOC_ITEM_A.SRC n)
  match x with
  | .blank => none
  | .dashes =>
    let len := if src = 7 ∨ src = 9 ∨ src = 16 then (if scale < 2 then 6 else 12) else digits
    some ⟨false, List.replicate len 0, true, false⟩
  | .number v d => some (formatNumber 10 v d scale dec digits)
  | .hex v => some (formatNumber 16 v 1 scale dec digits)
  | .time ds => some ⟨false, ds, false, false⟩

def isTime (x : ItemValue) : Bool := match x with
  | .time _ => true
  | _ => false

/-- The characters of an item's ID, without trailing NUL characters. -/
def trimNul (bs : List Byte) : List Byte := (bs.reverse.dropWhile (· == 0)).reverse

def State.itemId (s : State) (n : Nat) : List Byte := wordBytes [s.rd (LOC_ITEM_B.addr n), s.rd (LOC_ITEM_C.addr n)]

/-! ### The display (R587 to R590) -/

/-- The items of list `l`, up to the first entry of 0xFF (Table LOC-7). -/
def State.listItems (s : State) (l : Nat) : List Nat :=
  ((List.range 64).map (fun k => (s.rd (LOC_LIST0.addr (16 * l + k / 4))).toNat / 256 ^ (k % 4) % 256)).takeWhile (· != 0xFF)

/-- The item in the display: the error item is none (R589). -/
def State.shownItem (s : State) : Option (Option Nat) :=
  if s.loc.onErr && s.get LOC_DSTAT.LIST == 0 && s.on SEA_STAT.ALARM then some none
  else ((s.listItems (s.get LOC_DSTAT.LIST))[s.get LOC_DSTAT.ITEM]?).map some

/-- A value that needs more digits than DIGITS is shown: VALUE_OVF (R577). -/
def State.raiseOverflow (s : State) (n : Nat) : State :=
  match s.loc.values[n]? with
  | none => s
  | some x => match s.format n x with
    | some f => s.raiseIf f.past Ev.VALUE_OVF
    | none => s

/-- The display updates the shown values. -/
def State.updateDisplay (s : State) : State :=
  if s.on LOC_DSTAT.ON then match s.shownItem with
    | some (some n) => s.raiseOverflow n
    | _ => s
  else s

/-- The display shows list `l` from its start, the error item first where it stands. -/
def State.showList (s : State) (l : Nat) : State :=
  let s := (s.put LOC_DSTAT.LIST l).put LOC_DSTAT.ITEM 0
  State.updateDisplay { s with loc := { s.loc with onErr := l == 0 && s.on SEA_STAT.ALARM, lastScroll := s.time.aoTick } }

/-- APC runs its services: step 5 is reached, the core runs, and the chip is in Run (R601, R604). DEDUCED (log 34). -/
def State.apcRuns (s : State) : Bool :=
  s.boot.steps.testBit 5 && s.mode == .run && !s.umb.frozen && !s.shed && s.coreUp 1

/-- The display turns on: list 0, item 0 (R590). -/
def State.displayOn (s : State) : State :=
  if s.on LOC_DSTAT.ON || !s.on SYS_STRAP.LCDEN then s else ((s.put LOC_DSTAT.ON 1).raise Ev.DISPLAY_ON).showList 0

def State.displayOff (s : State) : State := State.put { s with loc := { s.loc with test := none } } LOC_DSTAT.ON 0

/-- With MODE 0 the display is on in Run (R590). -/
def State.displayRun (s : State) : State := if s.apcRuns && !s.on LOC_LCD.MODE then s.displayOn else s

/-- The display in Doze: it keeps its content with LCDDOZE 1, and is off with 0 (R95). -/
def State.displayDoze (s : State) : State := if s.on PWR_CFG.LCDDOZE then s else s.displayOff

/-! ### Pulse outputs (R592, R593) -/

def PulseOut.empty (_ : Nat) : PulseOut := ⟨0, none, 0, .idle, 0⟩
def State.pulseOut (s : State) (n : Nat) : PulseOut := Sparse.get PulseOut.empty s.loc.outs n
def State.setPulseOut (s : State) (n : Nat) (p : PulseOut) : State :=
  { s with loc := { s.loc with outs := Sparse.set PulseOut.empty s.loc.outs n p } }

/-- The total that POn_CFG names. -/
def State.pulseTotal (s : State) (n : Nat) : Nat :=
  let i := s.get (LOC_PO_CFG.MP n)
  let src := s.get (LOC_PO_CFG.SRC n)
  if src ≤ 4 then s.get2 (totalAddr src i) else s.get2 (BIL_MP_TR.addr i (s.get (LOC_PO_CFG.IDX n)))

/-- A waiting pulse starts where none is under way; a pulse that a freeze cut short goes first. -/
def State.startPulse (s : State) (n : Nat) : State :=
  let p := s.pulseOut n
  if s.get (LOC_PO_CFG.MODE n) ≠ 1 then s
  else match p.stage with
    | .again => s.setPulseOut n { p with stage := .closed, since := s.time.cyc }
    | .idle =>
      let b := s.get (LOC_PO_ST.BACKLOG n)
      if b = 0 then s else (s.put (LOC_PO_ST.BACKLOG n) (b - 1)).setPulseOut n { p with stage := .closed, since := s.time.cyc }
    | _ => s

/-- Output `n` at a processed publication (R592). -/
def State.countPulses (s : State) (n : Nat) : State :=
  if s.get (LOC_PO_CFG.MODE n) ≠ 1 then
    let p := s.pulseOut n
    s.setPulseOut n { p with last := none, stage := .idle }
  else
    let p := s.pulseOut n
    let total := s.pulseTotal n
    let source := (s.rd (LOC_PO_CFG.addr n)).toNat / 4 % 256
    let last := if p.source = source then p.last else none
    let r := p.residue + (total - last.getD total)
    let w := s.get (LOC_PO_W.W n)
    let all := s.get (LOC_PO_ST.BACKLOG n) + r / w
    let s := s.setPulseOut n { p with source := source, last := some total, residue := r % w }
    let s := s.put (LOC_PO_ST.BACKLOG n) (min 65535 all)
    let s := (s.bumpBy (LOC_PO_ST.LOST n) (all - 65535)).raiseIf (decide (65535 < all)) (Ev.PO_OVERRUN0 + n)
    s.startPulse n

/-- A freeze opens the outputs (R593). -/
def State.pulsesFreeze (s : State) : State :=
  (List.range 4).foldl (fun s n =>
    let p := s.pulseOut n
    if p.stage = .closed then s.setPulseOut n { p with stage := .again } else s) s

/-- After resume a pulse that was cut short is sent again in full. -/
def State.pulsesResume (s : State) : State :=
  (List.range 4).foldl (fun s n => if (s.pulseOut n).stage = .again then s.startPulse n else s) s

/-- Is POn closed (Table BAL-5, R592, R593)? -/
def State.outputClosed (s : State) (n : Nat) : Bool :=
  s.apcRuns && s.on PWR_STAT.VIOLOK &&
  match s.get (LOC_PO_CFG.MODE n) with
  | 1 => (s.pulseOut n).stage == .closed
  | 2 => s.on SEA_STAT.ALARM
  | _ => false

/-! ### A publication, and a restart of APC -/

/-- APC takes a publication: the item values, the display and the pulse outputs follow it (R579, R590, R592). -/
def State.localPublish (s : State) : State :=
  if s.apcRuns then
    let s := { s with loc := { s.loc with values := (List.range 128).map s.itemValue, errValue := s.get SEA_STAT.ACAUSE } }
    (List.range 4).foldl State.countPulses s.updateDisplay
  else s

/-! ### Verification through the optical head (R586) -/

def ACK : Byte := 0x06
def NAK : Byte := 0x15

/-- The optical session ends; the port returns to 300 baud (R584). -/
def State.optEnd (s : State) : State :=
  State.put (State.put { s with loc := { s.loc with opt := { s.loc.opt with stage := .idle } } } LOC_OSTAT.ACTIVE 0) LOC_OSTAT.BAUD 0

/-- 200 ms less 10 ms, in AO ticks. -/
def optDelay : Nat := 195

/-- An answer of one character is formed; it is sent 200 ms after the BCC of its message. -/
def State.optAnswer (s : State) (c : Byte) : State := { s with loc := { s.loc with opt := { s.loc.opt with stage := .w6Answer c } } }

/-- 190 ms have passed since the latest message. -/
def State.optDue (s : State) : Bool := decide (s.loc.opt.tick + optDelay ≤ s.time.aoTick)

/-- An answer that is due goes out, and the session waits for the next message. -/
def State.optAnswerDue (s : State) : State := match s.loc.opt.stage with
  | .w6Answer c => if s.apcRuns && s.optDue then { s with loc := { s.loc with opt := ⟨.w6, s.time.aoTick, [c]⟩ } } else s
  | _ => s

/-- The outcome of an OPEN that came through the optical head: ACK on OPENED and NAK on DENIED. -/
def State.optOutcome (s : State) (opened : Bool) : State :=
  if s.loc.opt.stage = .w6Open then s.optAnswer (if opened then ACK else NAK) else s

/-- APC restarts: an open optical session ends without answer, the display is blank, and a pulse cut short is sent again in full
(Table FLT-3). -/
def State.localRestart (s : State) : State := (s.pulsesFreeze.optEnd).displayOff

end Sys2Proof.Machine
end

