-- ==== Sys2Proof/Machine/Rules.lean ====
section
/-! DEFINITION. What CHECK tests on a result configuration (R215, R216): the ranges, relations, capacities and references of
chapters 01 to 04, 08 to 11, 15, 16, 18, 19 and 21. A finding names the field that breaks its rule and every word that the rule concerns. -/

namespace Sys2Proof.Machine

/-- A broken rule: its code (Table STG-2: 1 RANGE, 2 RELATION, 3 CAPACITY, 4 REFERENCE), the field that breaks it, and the
words that the rule concerns. -/
structure Finding where
  code : Nat
  fd : Fd
  words : List Nat
  deriving DecidableEq, Repr

/-- The finding, if the rule is broken. -/
def broken (b : Bool) (code : Nat) (fd : Fd) (words : List Nat) : List Finding := if b then [⟨code, fd, words⟩] else []

/-- RANGE: the field lies outside `lo` to `hi`. -/
def outside (v : Nat → Word) (lo hi : Nat) (fd : Fd) (words : List Nat) : List Finding :=
  broken (decide (vget v fd < lo) || decide (hi < vget v fd)) 1 fd words

/-! ### Chapters 01 to 04 and 14 -/

def baseRules (v : Nat → Word) : List Finding :=
  (List.range 13).flatMap (fun n =>
    outside v 1 255 (TWL_INIT.SOFT n) [] ++ outside v 1 255 (TWL_INIT.HARD n) []
    ++ broken (decide (vget v (TWL_INIT.HARD n) < vget v (TWL_INIT.SOFT n))) 2 (TWL_INIT.SOFT n) [])
  ++ (List.range 4).flatMap (fun k => outside v 1 500 (TWL_LEASE_DUR.DUR k) [])
  ++ outside v 1 20 SYS_BYPASS.SETTLE [] ++ outside v 50 190 PWR_CFG.BATLOW [] ++ outside v 0 8 PWR_DRV.SET []
  ++ outside v 0 48 CLK_TRIM.LFXOCAP [] ++ outside v 0 48 CLK_TRIM.HFXOCAP []
  ++ (List.range 16).flatMap (fun n => outside v 0 1440 (STO_REG_CFG.PERIOD n) [])

/-! ### Chapter 08 (Table FIR-3) -/

def pathWords (p : Nat) : List Nat := [FIR_PATH_A.addr p, FIR_PATH_B.addr p, FIR_PATH_C.addr p, FIR_PATH_D.addr p]

/-- The burst profiles that enabled paths use, each once, with its users. -/
def usedBursts (v : Nat → Word) (ps : List Nat) : List ((Nat × Nat) × List Nat) :=
  (List.range 64).filterMap (fun n =>
    let kb := (n / 16, n % 16)
    let us := ps.filter (fun p => pathBurst v p == kb)
    if us.isEmpty then none else some (kb, us))

def burstRules (pod : Bool) (v : Nat → Word) (kb : Nat × Nat) (us : List Nat) : List Finding :=
  let k := kb.1
  let b := kb.2
  let ws := [ECH_BURST0.addr k b, ECH_BURST1.addr k b] ++ us.map FIR_PATH_A.addr
  let type := vget v (ECH_BURST0.TYPE k b)
  outside v 40 4000 (ECH_BURST0.FREQ k b) ws ++ outside v 16 120 (ECH_BURST1.AMP k b) ws
  ++ outside v 0 40 (ECH_BURST1.SPAN k b) ws
  ++ (if type = 0 then outside v 1 64 (ECH_BURST0.CYC k b) ws else [])
  ++ (if type = 3 then outside v 8 64 (ECH_BURST0.CYC k b) ws else [])
  ++ (if type = 2 then outside v 0 1 (ECH_BURST0.CPC k b) ws else [])
  ++ broken (pod && decide (30 + 5 * vget v PWR_DRV.SET < vget v (ECH_BURST1.AMP k b))) 2 (ECH_BURST1.AMP k b)
      (ws ++ [PWR_DRV.addr])

def pathRules (pod : Bool) (v : Nat → Word) (ps : List Nat) (p : Nat) : List Finding :=
  let ws := pathWords p
  let a := vget v (FIR_PATH_A.PORTA p)
  let b := vget v (FIR_PATH_A.PORTB p)
  let zfo := vgetI v (FIR_PATH_D.ZFO p)
  let same (q : Nat) : Bool :=
    let c := vget v (FIR_PATH_A.PORTA q)
    let d := vget v (FIR_PATH_A.PORTB q)
    (a == c && b == d) || (a == d && b == c)
  outside v 1 15 (FIR_PATH_A.PAIRS p) ws ++ broken (vget v (FIR_PATH_B.WLEN p) == 0) 1 (FIR_PATH_B.WLEN p) ws
  ++ outside v 2 100 (FIR_PATH_C.GAP p) ws ++ outside v 0 32 (FIR_PATH_C.GOLD p) ws
  ++ broken (decide (zfo < -1000000) || decide (1000000 < zfo)) 1 (FIR_PATH_D.ZFO p) ws
  ++ broken (decide (portCount pod ≤ a)) 4 (FIR_PATH_A.PORTA p) ws ++ broken (decide (portCount pod ≤ b)) 4 (FIR_PATH_A.PORTB p) ws
  ++ broken (a == b) 2 (FIR_PATH_A.PORTA p) ws ++ broken (a / 16 != b / 16) 2 (FIR_PATH_A.PORTB p) ws
  ++ broken (decide (4000 < vget v (FIR_PATH_B.WOPEN p) + vget v (FIR_PATH_B.WLEN p))) 2 (FIR_PATH_B.WOPEN p) ws
  ++ (ps.filter (fun q => decide (q < p) && same q)).flatMap (fun q => broken true 2 (FIR_PATH_A.PORTA p) (ws ++ pathWords q))

/-- A group against R237: each member is compared with the first one, and ports and codes with every earlier member. -/
def groupRules (v : Nat → Word) (u : List Nat) : List Finding :=
  match u with
  | [] => []
  | [_] => []
  | p :: rest =>
    let burst (q : Nat) (f : Nat → Nat → Fd) : Fd := f (pathBurst v q).1 (pathBurst v q).2
    let ws := u.flatMap (fun q => pathWords q ++ [(burst q ECH_BURST0.TYPE).addr])
    let ports (q : Nat) : List Nat := [vget v (FIR_PATH_A.PORTA q), vget v (FIR_PATH_A.PORTB q)]
    u.flatMap (fun q => broken (vget v (burst q ECH_BURST0.TYPE) != 2) 2 (burst q ECH_BURST0.TYPE) ws)
    ++ rest.flatMap (fun q =>
      broken (vget v (burst q ECH_BURST0.FREQ) != vget v (burst p ECH_BURST0.FREQ)) 2 (burst q ECH_BURST0.FREQ) ws
      ++ broken (vget v (burst q ECH_BURST0.CPC) != vget v (burst p ECH_BURST0.CPC)) 2 (burst q ECH_BURST0.CPC) ws
      ++ broken (vget v (FIR_PATH_A.PAIRS q) != vget v (FIR_PATH_A.PAIRS p)) 2 (FIR_PATH_A.PAIRS q) ws)
    ++ u.flatMap (fun q => (u.filter (fun r => decide (r < q))).flatMap (fun r =>
      broken ((ports q).any (fun x => (ports r).contains x)) 2 (FIR_PATH_A.PORTA q) ws
      ++ broken (vget v (FIR_PATH_C.GOLD q) == vget v (FIR_PATH_C.GOLD r)) 2 (FIR_PATH_C.GOLD q) ws))
    ++ (List.range 4).flatMap (fun e =>
      let here := u.filter (fun q => pathEngine v q == e)
      broken (decide (4 < here.length)) 3 (FIR_PATH_A.GROUP (here.getLastD p)) ws)

def engineRules (pod : Bool) (v : Nat → Word) (ps : List Nat) : List Finding :=
  let n := vget v FIR_EPOCH.EPLOG
  let free := (buildSchedule pod v n).2
  (List.range 4).flatMap (fun e =>
    let ws := FIR_EPOCH.addr :: (ps.filter (fun p => pathEngine v p == e)).flatMap pathWords
    broken (decide (2 ^ n < 2 * engineShots pod v e)) 3 FIR_EPOCH.EPLOG ws
    ++ broken (decide (2 ^ n * 15625 < 16 * (free.getD e 0 + 1000)) && decide (free.getD e 0 ≠ 0)) 3 FIR_EPOCH.EPLOG ws
    ++ broken (decide (2 ^ n * 15625 < 2 * engineWork pod v e)) 3 FIR_EPOCH.EPLOG ws)

def firingRules (pod : Bool) (v : Nat → Word) : List Finding :=
  let ps := enabledPaths pod v
  outside v 5 15 FIR_EPOCH.EPLOG [] ++ (usedBursts v ps).flatMap (fun x => burstRules pod v x.1 x.2)
  ++ ps.flatMap (pathRules pod v ps) ++ (firingUnits pod v).flatMap (groupRules v) ++ engineRules pod v ps

/-! ### Chapter 09 (Table ARV-3) -/

def arrivalPathRules (v : Nat → Word) (p : Nat) : List Finding :=
  let ws := [FIR_PATH_A.addr p]
  let tdly := vget v (ARV_PATH_T.TDLY p)
  outside v 10 90 (ARV_PATH_M.THR p) ws ++ outside v 1 8 (ARV_PATH_M.ZCSEL p) ws ++ outside v 1 15 (ARV_PATH_M.ZCN p) ws
  ++ outside v 128 255 (ARV_PATH_M.RHOMIN p) ws ++ outside v 0 2000 (ARV_PATH_Q.AMIN p) ws
  ++ outside v 10000 2000000 (ARV_PATH_L.PLEN p) ws ++ outside v 0 100000000 (ARV_PATH_T.TDLY p) ws
  ++ broken (decide ((vget v (FIR_PATH_B.WOPEN p) + vget v (FIR_PATH_B.WLEN p)) * 1000000 ≤ tdly)) 2 (ARV_PATH_T.TDLY p)
      (ws ++ [FIR_PATH_B.addr p])

def mediumRules (v : Nat → Word) (m : Nat) : List Finding :=
  let kind := vget v (MED_TAB0.KIND m)
  let ws := [MED_TAB0.addr m]
  let tref := vgetI v (MED_TAB2.TREF m)
  if kind = 0 then []
  else broken (vget v (MED_TAB1.C0 m) == 0) 1 (MED_TAB1.C0 m) ws ++ outside v 1 2000 (MED_TAB0.TOL m) ws
    ++ broken (decide (tref < -5000) || decide (20000 < tref)) 1 (MED_TAB2.TREF m) ws
    ++ outside v 0 30 (MED_TAB3.H2ALARM m) ws
    ++ broken (kind == 3 && vget v (MED_TAB3.HA m) == 0) 2 (MED_TAB3.HA m) ws
    ++ broken (kind == 3 && decide (13 < vget v (MED_TAB0.CURVE m))) 2 (MED_TAB0.CURVE m) ws

def arrivalRules (pod : Bool) (v : Nat → Word) : List Finding :=
  let tabs := (List.range 16).map MED_TAB0.addr
  (enabledPaths pod v).flatMap (arrivalPathRules v) ++ (List.range 16).flatMap (mediumRules v) ++ outside v 1 15 MED_CFG.HYST []
  ++ (enabledPoints pod v).flatMap (fun i =>
    broken ((List.range 16).all (fun m => vget v (MED_TAB0.KIND m) == 0)) 4 (FLO_CFG.EN i) tabs)

/-! ### Chapter 10 (Table FLO-3) -/

/-- The curves that a metering point can reach: those of the medium table with their bands, and UNKCURVE. -/
def reachableCurves (v : Nat → Word) : List Nat :=
  let named := (List.range 16).flatMap (fun m =>
    let c := vget v (MED_TAB0.CURVE m)
    match vget v (MED_TAB0.KIND m) with
    | 0 => []
    | 3 => [c, c + 1, c + 2]
    | _ => [c])
  let all := vget v MED_CFG.UNKCURVE :: named
  (List.range 16).filter (fun c => all.contains c)

/-- The words that make curve `c` reachable: the enabled points, the medium entries that name it, and UNKCURVE. -/
def curveWords (v : Nat → Word) (points : List Nat) (c : Nat) : List Nat :=
  let names (m : Nat) : Bool :=
    let d := vget v (MED_TAB0.CURVE m)
    match vget v (MED_TAB0.KIND m) with
    | 0 => false
    | 3 => decide (d ≤ c) && decide (c ≤ d + 2)
    | _ => d == c
  points.map FLO_CFG.addr ++ ((List.range 16).filter names).map MED_TAB0.addr
    ++ (if vget v MED_CFG.UNKCURVE = c then [MED_CFG.addr] else [])

def curveRules (v : Nat → Word) (points : List Nat) (c : Nat) : List Finding :=
  (List.range 7).flatMap (fun j =>
    broken (decide (vget v (FLO_CURVE_X.X c (j + 1)) < vget v (FLO_CURVE_X.X c j))) 2 (FLO_CURVE_X.X c (j + 1))
      (FLO_CURVE_X.addr c j :: curveWords v points c))

/-- The RTD channels and bridge channels a metering point names. -/
def namedChannels (pod : Bool) (v : Nat → Word) (i : Nat) : List Finding :=
  let ws := [FLO_CFG.addr i]
  let rtd (f : Fd) : List Finding :=
    let c := vget v f
    broken (c != 0x1F && !(decide (c < rtdCount pod) && von v (TMP_CFG.EN c))) 4 f (ws ++ if c < 16 then [TMP_CFG.addr c] else [])
  let pch := vget v (NGE_CH.PCH i)
  rtd (NGE_CH.TA i) ++ (if vget v (FLO_CFG.KIND i) = 2 then rtd (NGE_CH.TB i) else [])
  ++ broken (pch != 0xF && !(decide (pch < bridgeCount pod) && von v (BRG_CFG.EN pch))) 4 (NGE_CH.PCH i)
      (ws ++ if pch < 4 then [BRG_CFG.addr pch] else [])

def pointRules (pod : Bool) (v : Nat → Word) (i : Nat) : List Finding :=
  let mask := vget v (FLO_PATHS.MASK i)
  let ps := (List.range 32).filter (fun p => mask.testBit p)
  let kind := vget v (FLO_CFG.KIND i)
  let fluid := vget v (NGE_CFG.FLUID i)
  let ws := [FLO_CFG.addr i, FLO_PATHS.addr i]
  outside v 1 3 (FLO_CFG.KIND i) ws ++ outside v 1 255 (FLO_CFG.MINPAIRS i) ws ++ outside v 5000 2000000 (FLO_DIAM.DIAM i) ws
  ++ broken (vget v (FLO_LIM.RESMAX i) == 0) 1 (FLO_LIM.RESMAX i) ws
  ++ (if fluid = 1 ∨ fluid = 2 then outside v 20 60 (NGE_CFG.GLYPCT i) ws else []) ++ outside v 0 2 (NGE_CFG.FLUID i) ws
  ++ broken (kind == 3 && vget v (NGE_PB.PB i) == 0) 1 (NGE_PB.PB i) ws
  ++ broken (kind == 3 && vget v (NGE_TB.TB i) == 0) 1 (NGE_TB.TB i) ws
  ++ ps.flatMap (fun p =>
    let ax := vget v (FLO_PATH_AX.AXIAL p)
    broken (ax == 0 || decide (vget v (ARV_PATH_L.PLEN p) < ax)) 2 (FLO_PATH_AX.AXIAL p) (ARV_PATH_L.addr p :: ws)
    ++ broken (!(decide (p < pathCount pod) && von v (FIR_PATH_A.EN p))) 4 (FLO_PATHS.MASK i) (FIR_PATH_A.addr p :: ws)
    ++ ((List.range (mpCount pod)).filter (fun j => decide (j < i) && von v (FLO_CFG.EN j)
        && (vget v (FLO_PATHS.MASK j)).testBit p)).flatMap (fun j => broken true 2 (FLO_PATHS.MASK i) (FLO_PATHS.addr j :: FLO_CFG.addr j :: ws)))
  ++ broken (ps.foldl (fun n p => n + vget v (FLO_PATH_WG.WGT p)) 0 != 65536) 2 (FLO_PATHS.MASK i) (ws ++ ps.map FLO_PATH_WG.addr)
  ++ broken (kind == 2 && vget v (NGE_CH.TA i) == vget v (NGE_CH.TB i)) 2 (NGE_CH.TB i) ws
  ++ broken (von v (FLO_CFG.MODE i) && decide (ps.length < 6)) 2 (FLO_CFG.MODE i) ws
  ++ broken (mask == 0) 4 (FLO_PATHS.MASK i) ws ++ broken (pod && von v (FLO_CFG.MODE i)) 4 (FLO_CFG.MODE i) ws
  ++ namedChannels pod v i

/-- Nominal resistance of a TYPE, mΩ. -/
def nominalOhm (type : Nat) : Nat := if type = 0 then 100000 else if type = 1 then 500000 else 1000000

def rtdRules (v : Nat → Word) (c : Nat) : List Finding :=
  let type := vget v (TMP_CFG.TYPE c)
  let n := nominalOhm type
  let rnom := vget v (TMP_RNOM.RNOM c)
  let rref := vget v TMP_REF.RREF
  let ws := [TMP_CFG.addr c]
  outside v 0 2 (TMP_CFG.TYPE c) ws
  ++ broken (decide (type ≤ 2) && (decide (100 * rnom < 99 * n) || decide (101 * n < 100 * rnom))) 1 (TMP_RNOM.RNOM c) ws
  ++ broken (decide (10 * rref < 18 * rnom) || decide (4 * rnom < rref)) 2 TMP_REF.RREF (ws ++ [TMP_RNOM.addr c])

def conversionCapacity (v : Nat → Word) (fs : List (Fd × Fd)) : List Finding :=
  let total := fs.foldl (fun n f => n + convUs (vget v f.2)) 0
  match fs.getLast? with
  | none => []
  | some f => broken (decide (2 ^ vget v FIR_EPOCH.EPLOG * 15625 < 16 * (2000 + total))) 3 f.2
      (FIR_EPOCH.addr :: fs.map (fun f => f.1.addr))

def flowRules (pod : Bool) (v : Nat → Word) : List Finding :=
  let rtds := (List.range (rtdCount pod)).filter (fun c => von v (TMP_CFG.EN c))
  let points := enabledPoints pod v
  points.flatMap (pointRules pod v) ++ (if points.isEmpty then [] else (reachableCurves v).flatMap (curveRules v points))
  ++ rtds.flatMap (rtdRules v)
  ++ (List.range 4).flatMap (fun g => conversionCapacity v
    ((rtds.filter (fun c => c / 4 == g)).map (fun c => (TMP_CFG.EN c, TMP_CFG.TCONV c))))
  ++ conversionCapacity v (((List.range (bridgeCount pod)).filter (fun k => von v (BRG_CFG.EN k))).map
    (fun k => (BRG_CFG.EN k, BRG_CFG.TCONV k)))

/-! ### Chapter 11 (Table BIL-4) -/

/-- Days of a month, in the given year since 2000 or, with 0, in any year. -/
def daysIn (year month : Nat) : Nat :=
  if 1 ≤ month ∧ month ≤ 12 then (monthDays (if year = 0 then 0 else year) month).toNat else 31

def ruleDay (v : Nat → Word) (m d : Fd) (year : Nat) : List Finding :=
  outside v 1 12 m [d.addr] ++ outside v 1 (daysIn year (vget v m)) d [m.addr]

def dstRules (v : Nat → Word) (month week wday min : Fd) : List Finding :=
  outside v 1 12 month [] ++ outside v 1 5 week [] ++ outside v 0 6 wday [] ++ outside v 0 1439 min []

def billPointRules (v : Nat → Word) (i : Nat) : List Finding :=
  let kind := vget v (FLO_CFG.KIND i)
  let qty := vget v (BIL_MP_CFG.QTY i)
  let ws := [BIL_MP_CFG.addr i, FLO_CFG.addr i]
  outside v 0 8 (BIL_MP_CFG.DLEN i) ws
  ++ (if von v (BIL_MP_CFG.DMODE i) then outside v 2 15 (BIL_MP_CFG.NSUB i) ws else [])
  ++ broken (((qty == 1 || qty == 2) && kind != 2) || (qty == 3 && kind != 3)) 4 (BIL_MP_CFG.QTY i) ws
  ++ broken (!von v (FLO_CFG.EN i)) 4 (BIL_MP_CFG.EN i) ws
  ++ (List.range 4).flatMap (fun k =>
    let src := vget v (BIL_MP_CONDA.SRC i k)
    broken (von v (BIL_MP_CONDA.EN i k) && ((decide (src ≤ 3) && kind != 2) || (src == 5 && kind != 3))) 4
      (BIL_MP_CONDA.SRC i k) ws)

def billingRules (pod : Bool) (v : Nat → Word) : List Finding :=
  let tofs := vgetI v BIL_TOFS.TOFS
  let seasons := (List.range 8).filter (fun n => von v (BIL_SEASON.EN n))
  let specs := (List.range 32).filter (fun k => von v (BIL_SPEC.EN k))
  broken (decide (tofs < -720) || decide (840 < tofs)) 1 BIL_TOFS.TOFS [] ++ outside v 0 120 BIL_TOFS.DSTOFS []
  ++ dstRules v BIL_DSTON.MONTH BIL_DSTON.WEEK BIL_DSTON.WDAY BIL_DSTON.MIN
  ++ dstRules v BIL_DSTOFF.MONTH BIL_DSTOFF.WEEK BIL_DSTOFF.WDAY BIL_DSTOFF.MIN
  ++ broken (!((decide (1 ≤ vget v BIL_BCFG.DOM) && decide (vget v BIL_BCFG.DOM ≤ 28)) || vget v BIL_BCFG.DOM == 31)) 1 BIL_BCFG.DOM []
  ++ outside v 0 1439 BIL_BCFG.MIN [] ++ broken (!([1, 2, 3, 4, 6, 12].contains (vget v BIL_BCFG.PMON))) 1 BIL_BCFG.PMON []
  ++ outside v 1 12 BIL_BCFG.ANCHOR []
  ++ seasons.flatMap (fun n => ruleDay v (BIL_SEASON.MONTH n) (BIL_SEASON.DAY n) 0
    ++ (seasons.filter (fun m => decide (m < n) && decide (seasonStart v m = seasonStart v n))).flatMap (fun m =>
      broken true 2 (BIL_SEASON.DAY n) [BIL_SEASON.addr m]))
  ++ specs.flatMap (fun k => ruleDay v (BIL_SPEC.MONTH k) (BIL_SPEC.DAY k) (vget v (BIL_SPEC.YEAR k)))
  ++ (List.range 16).flatMap (fun d =>
    let on := (List.range 12).filter (fun j => von v (BIL_DAY_SP.EN d j))
    on.flatMap (fun j => outside v 0 1439 (BIL_DAY_SP.MIN d j) []
      ++ (on.filter (fun k => decide (k < j) && vget v (BIL_DAY_SP.MIN d k) == vget v (BIL_DAY_SP.MIN d j))).flatMap (fun k =>
        broken true 2 (BIL_DAY_SP.MIN d j) [BIL_DAY_SP.addr d k])))
  ++ ((List.range (mpCount pod)).filter (fun i => von v (BIL_MP_CFG.EN i))).flatMap (billPointRules v)

/-! ### Chapters 15, 16, 18 and 19: their tables name no condition but those written here, and so EN does not gate a rule -/

/-- Table PLS-5. -/
def plsRules (v : Nat → Word) : List Finding :=
  let addr := vget v PLS_ADDR.ADDR
  outside v 10 50 PLS_PHY.PW [] ++ outside v 1 16 PLS_PHY.SPAN [] ++ outside v 0 2 PLS_CFG.PHASE [] ++ outside v 1 15 PLS_CFG.TTL []
  ++ outside v 1 240 PLS_MAC.ADV [] ++ outside v 41 255 PLS_MAC.GAPMAX []
  ++ broken (addr == 0 || addr == 0xFFFFFFFF) 1 PLS_ADDR.ADDR []
  ++ broken (decide (vget v PLS_MAC.CWMAX < vget v PLS_MAC.CWMIN)) 2 PLS_MAC.CWMIN []
  ++ broken (von v PLS_CFG.ROLE && von v PLS_CFG.NETMODE) 2 PLS_CFG.ROLE []

/-- Table RAD-5 and R488. -/
def radioRules (pod : Bool) (v : Nat → Word) : List Finding :=
  let band1 := von v RAD_CFG.BAND
  let top := if band1 then 50 else 27
  let pwr := vgetI v RAD_CFG.PWR
  let addr := vget v RAD_ADDR.ADDR
  let budget := vget v RAD_DUTY.BUDGET
  outside v 0 top RAD_CHAN.GCH [RAD_CFG.addr] ++ outside v 0 top RAD_CHAN.GLCH [RAD_CFG.addr]
  ++ broken (decide (pwr < -10) || decide ((if band1 then 20 else 14) < pwr)) 1 RAD_CFG.PWR []
  ++ outside v 1 15 MSH_CFG.TTL [] ++ outside v 1 15 MSH_CFG.RDELAY [] ++ outside v 1 15 MSH_CFG.SUPP []
  ++ outside v 2 4095 RAD_WMB.INT [] ++ outside v 2 255 GLN_CFG.GWAIT [] ++ outside v 5 255 GLN_CFG.RXWIN []
  ++ outside v 1 255 MSH_CFG.SEENLIFE [] ++ outside v 0 25 RAD_WMB.JIT []
  ++ broken (decide (1 ≤ budget) && decide (budget ≤ 9)) 1 RAD_DUTY.BUDGET []
  ++ broken (addr == 0 || decide (0xFFFFFF00 ≤ addr)) 1 RAD_ADDR.ADDR []
  ++ broken (decide (vget v RAD_CCA.BEMAX < vget v RAD_CCA.BEMIN)) 2 RAD_CCA.BEMIN []
  ++ broken (band1 && vget v RAD_WMB.MODE != 0) 2 RAD_WMB.MODE [RAD_CFG.addr]
  ++ broken (band1 && vget v RAD_CFG.RXMODE == 1) 2 RAD_CFG.RXMODE []
  ++ (if pod then broken (vget v RAD_CFG.RXMODE != 0) 4 RAD_CFG.RXMODE [] ++ broken (von v MSH_CFG.RELAY) 4 MSH_CFG.RELAY [] else [])

/-- Table LOP-7. -/
def loopRules (v : Nat → Word) : List Finding :=
  let slot := vget v LOP_MAC.RSLOT
  let addr := vget v LOP_ADDR.ADDR
  broken ((decide (1 ≤ slot) && decide (slot ≤ 12)) || decide (128 < slot)) 1 LOP_MAC.RSLOT [] ++ outside v 1 255 LOP_MAC.DISC []
  ++ broken (addr == 0 || addr == 0xFFFFFFFF) 1 LOP_ADDR.ADDR []

/-- Table CON-5; the words of the concentrator service are powered in the Hub profile only (Table SCO-1). -/
def conRules (pod : Bool) (v : Nat → Word) : List Finding :=
  let orders := [CON_FWD.ORDER0, CON_FWD.ORDER1, CON_FWD.ORDER2, CON_FWD.ORDER3]
  let enable (t : Nat) : Option Fd := match t with
    | 1 => some PLS_CFG.EN
    | 2 => some LOP_CFG.EN
    | 3 => some RAD_CFG.EN
    | _ => none
  let hub := if pod then [] else
    outside v 1 255 CON_CFG.HOLDMAX [] ++ outside v 1 255 CON_CFG.RETRYMIN []
    ++ orders.flatMap (fun f =>
      let t := vget v f
      broken (t != 0 && (orders.filter (fun g => decide (g.lo < f.lo))).any (fun g => vget v g == t)) 2 f []
      ++ broken (decide (1 ≤ t) && decide (t ≤ 3) && vget v (CON_HEAD.ADDR (t - 1)) == 0) 1 (CON_HEAD.ADDR (t - 1)) [CON_FWD.addr]
      ++ broken (t == 2 && decide (vget v LOP_MAC.RSLOT < 52)) 2 f [LOP_MAC.addr]
      ++ (match enable t with
        | some g => broken (!von v g) 4 f [g.addr]
        | none => []))
    ++ broken (von v CON_CFG.EN && ((vget v PWR_BANK.OFF).testBit 2 || (vget v PWR_BANK.OFF).testBit 3)) 2 CON_CFG.EN [PWR_BANK.addr]
  hub ++ outside v 1 4095 CON_PCFG.RPT [] ++ outside v 1 4 CON_PCFG.NRECS []

/-! ### Chapter 21 (Table LOC-5): the LCD registers are not tested with the LCD strap at 0 (R61) -/

/-- Largest IDX of a source that uses one. -/
def idxTop (src : Nat) : Nat := if src = 5 ∨ src = 8 then 7 else if src = 6 ∨ src = 7 then 8 else 31

/-- The source takes its value from the item's metering point. -/
def srcUsesPoint (src : Nat) : Bool := decide (src ≤ 14) || [18, 19, 20].contains src

def itemRules (v : Nat → Word) (n : Nat) : List Finding :=
  let src := vget v (LOC_ITEM_A.SRC n)
  let digits := vget v (LOC_ITEM_A.DIGITS n)
  let dec := vget v (LOC_ITEM_A.DEC n)
  let mp := vget v (LOC_ITEM_A.MP n)
  outside v 0 (idxTop src) (LOC_ITEM_A.IDX n) [] ++ outside v 0 17 (LOC_ITEM_A.AGE n) []
  ++ (if src = 7 ∨ src = 9 ∨ src = 16 then outside v 0 2 (LOC_ITEM_A.SCALE n) []
      else outside v 0 12 (LOC_ITEM_A.SCALE n) []
        ++ broken (decide (6 < dec) || decide (digits ≤ dec)) 1 (LOC_ITEM_A.DEC n) [] ++ outside v 1 12 (LOC_ITEM_A.DIGITS n) [])
  ++ broken (srcUsesPoint src && !von v (FLO_CFG.EN mp)) 4 (LOC_ITEM_A.MP n) [FLO_CFG.addr mp]
  ++ broken (decide (24 ≤ src) && decide (src ≤ 27) && (vget v SYS_PINCFG.PIDIS).testBit (src - 24)) 4 (LOC_ITEM_A.SRC n) [SYS_PINCFG.addr]

def localRules (lcd : Bool) (v : Nat → Word) : List Finding :=
  (List.range 128).flatMap (itemRules v) ++ outside v 0 6 LOC_OPT.ZMAX []
  ++ (if lcd then outside v 1 255 LOC_LCD.ONTIME [] else [])
  ++ (List.range 4).flatMap (fun n => outside v 1 255 (LOC_PO_CFG.WIDTH n) [] ++ outside v 1 255 (LOC_PI_CFG.FILT n) []
    ++ broken (vget v (LOC_PO_CFG.MODE n) == 1 && vget v (LOC_PO_W.W n) == 0) 1 (LOC_PO_W.W n) [LOC_PO_CFG.addr n])
  ++ (List.range 64).flatMap (fun k =>
    let f : Fd := ⟨LOC_LIST0.addr (k / 4), 8 * (k % 4) + 7, 8 * (k % 4)⟩
    broken (decide (31 < vget v f) && vget v f != 0xFF) 2 f [])

/-! ### All of them -/

/-- DESIGN CHOICE (log 19). -/
def allRules (pod lcd : Bool) (v : Nat → Word) : List Finding :=
  baseRules v ++ firingRules pod v ++ arrivalRules pod v ++ flowRules pod v ++ billingRules pod v
  ++ (if pod then [] else plsRules v ++ loopRules v) ++ radioRules pod v ++ conRules pod v ++ localRules lcd v

end Sys2Proof.Machine
end

