-- ==== Sys2Proof/Machine/Staging.lean ====
section
/-! DEFINITION. Staged changes (chapter 07) and the cost of a sealed one (chapter 12, R351 to R355): the two staging sets, the
writes into them, CHECK, APPLY and DISCARD with their conflicts, the commit point, and the instant at which a set takes
effect. -/

namespace Sys2Proof.Machine

/-! ### The sets -/

/-- The number of a set: 0 immediate, 1 dated. -/
def setNo (dated : Bool) : Nat := dated.toNat

def State.stage (s : State) (dated : Bool) : StageSet := if dated then s.stg.dated else s.stg.imm

def State.setStage (s : State) (dated : Bool) (t : StageSet) : State :=
  if dated then { s with stg := { s.stg with dated := t } } else { s with stg := { s.stg with imm := t } }

/-- STATE of a set: 0 EMPTY, 1 OPEN, 2 SCHEDULED, 3 COMMITTED (Table STG-5). -/
def State.stageState (s : State) (dated : Bool) : Nat := s.get (STG_SET.STATE (setNo dated))

def StageSet.empty : StageSet := ⟨[], 0, false, 0, 0, false⟩

/-- The words of the set that hold an SL field. -/
def StageSet.sealedWords (t : StageSet) : List Nat := (t.entries.map (·.1)).filter (fun a => slMask a != 0)

def StageSet.isSealed (t : StageSet) : Bool := !t.sealedWords.isEmpty

def stageCapacity (dated : Bool) : Nat := if dated then 8192 else 1024

/-- STG_SETs shows the entries and the SL bit. -/
def State.showStage (s : State) (dated : Bool) : State :=
  let t := s.stage dated
  (s.putB (STG_SET.SL (setNo dated)) t.isSealed).put (STG_SET.ENTRIES (setNo dated)) t.entries.length

/-- METER_READY has come (R208). -/
def State.meterReady (s : State) : Bool := s.boot.steps.testBit 4

/-! ### Writes and reads through a staging path (R204 to R207) -/

/-- The APPLY check of the immediate set closes it to writes (R210). -/
def State.stageClosed (s : State) (dated : Bool) : Bool :=
  decide (2 ≤ s.stageState dated) || match s.stg.check with
    | some c => c.apply && !c.dated && !dated
    | none => false

/-- A write through a staging path (R204, R206, R207, R209). A word that holds no WS or SL field, or that is unpowered, has no effect whatever the
state of the set, and is not counted as an ignored write. DESIGN CHOICE (log 38). -/
def State.stageWrite (s : State) (dated : Bool) (a : Nat) (v : Word) : State :=
  let n := setNo dated
  let t := s.stage dated
  if stagedMask a = 0 ∨ !s.powered a then s
  else if s.stageClosed dated then (s.bump STG_IGN.WRITES).raise Ev.STG_IGNORED
  else if (Sparse.find t.entries a).isNone && decide (stageCapacity dated ≤ t.entries.length) then
    (s.put (STG_SET.OVF n) 1).raise Ev.STG_FULL
  else
    let s := s.setStage dated { t with entries := Sparse.insert t.entries a (v &&& stagedMask a) }
    let s := if s.stageState dated = 0 then s.put (STG_SET.STATE n) 1 else s
    let checking := match s.stg.check with
      | some c => !c.apply && c.dated == dated
      | none => false
    (if checking then s.put (STG_SET.STALE n) 1 else s).showStage dated

/-- The live words with a set laid over them. -/
def overlay (v : Nat → Word) (entries : List (Nat × Word)) (a : Nat) : Word :=
  match Sparse.find entries a with
  | some w => (v a &&& ~~~ stagedMask a) ||| w
  | none => v a

/-! ### Conflicts (R215, R216) -/

/-- The address that an entry conflict carries (R216). -/
def findingAddr (staged : Nat → Bool) (f : Finding) : Nat :=
  let concerned := (f.fd.addr :: f.words).filter staged
  if f.code ≠ 2 ∧ staged f.fd.addr then f.fd.addr
  else if concerned.isEmpty then f.fd.addr
  else maxOf concerned

/-- The entry conflicts of the result configuration, in ascending address and bit (R215): one for each place, a field or a channel, at which a rule is
broken. DESIGN CHOICE (log 19). -/
def entryConflicts (pod lcd : Bool) (v : Nat → Word) (staged : Nat → Bool) : List (Nat × Nat) :=
  let found := (allRules pod lcd v).map (fun f => (findingAddr staged f, f))
  (sortBy (fun x : Nat × Finding => x.1 * 32 + x.2.fd.lo) found).map (fun x => (x.2.code, x.1))

/-- A sealed region that the set's apply would store is exhausted: SR01, SR03, or SR02 for the dated set (Table STG-2). -/
def State.storeEnd (s : State) (dated : Bool) : Bool :=
  s.on (STO_REG_STAT.END 1) || s.on (STO_REG_STAT.END 3) || (dated && s.on (STO_REG_STAT.END 2))

def when (b : Bool) (code : Nat) : List (Nat × Nat) := if b then [(code, 0)] else []

/-- The codes that a sealed set meets at CHECK, at APPLY and at the commit point; `charged` counts the sealed sets already
COMMITTED for the same boundary (R217, R353). `needSession`: the set asks for an open session here. -/
def State.sealedConflicts (s : State) (dated needSession : Bool) (charged : Nat) : List (Nat × Nat) :=
  if (s.stage dated).isSealed then
    when (needSession && !s.on SEA_STAT.SESSION) 0x08 ++ when (decide (999 ≤ s.get SEA_CTR.CTR + charged)) 0x09
    ++ when (decide (2048 ≤ s.logUsed)) 0x0A ++ when (s.storeEnd dated) 0x0B
  else []

def State.stageEntryConflicts (s : State) (dated : Bool) (v : Nat → Word) : List (Nat × Nat) :=
  let es := (s.stage dated).entries
  entryConflicts s.pod (s.on SYS_STRAP.LCDEN) (overlay v es) (fun a => (Sparse.find es a).isSome)

/-- Everything that CHECK or APPLY of a set finds (R209 to R211, R214, R215). -/
def State.conflicts (s : State) (dated apply : Bool) (applyAt : Nat) : List (Nat × Nat) :=
  let t := s.stage dated
  when t.entries.isEmpty 0x05 ++ when (s.on (STG_SET.OVF (setNo dated))) 0x06
  ++ when (dated && decide (applyAt < s.time.rtc.toNat + 1024)) 0x07
  ++ s.sealedConflicts dated (apply || !dated || !t.auth) 0 ++ s.stageEntryConflicts dated s.view

/-- The conflict list is replaced (R215); H_STG_ERR starts again at its first code. -/
def State.setConflicts (s : State) (cs : List (Nat × Nat)) : State :=
  let s := (List.range 64).foldl (fun s i =>
    let c := cs.getD i (0, 0)
    s.wr (STG_CONF.addr i) (BitVec.ofNat 32 (c.1 * 2 ^ 24 + c.2 % 2 ^ 24))) s
  State.put { s with stg := { s.stg with errNext := 0 } } STG_STAT.NCONF (min 255 cs.length)

/-- STG_STAT shows the command that ended: RESULT (Table HST-18). -/
def State.stageResult (s : State) (dated : Bool) (result : Nat) (cs : List (Nat × Nat)) : State :=
  (((s.put STG_STAT.BUSY 0).put STG_STAT.SET (setNo dated)).put STG_STAT.RESULT result).setConflicts cs

/-- Was the latest command the APPLY of this set, and is it still SCHEDULED? -/
def State.latestScheduled (s : State) (dated : Bool) : Bool :=
  s.get STG_STAT.RESULT == 6 && s.get STG_STAT.SET == setNo dated && !s.on STG_STAT.BUSY

/-! ### Boundaries (R162, R210, R211) -/

/-- The first epoch boundary at or after RTC count `r` that lies at least `c` RTC source cycles ahead. -/
def State.boundaryFrom (s : State) (r c : Nat) : Nat :=
  let (n, hold) := match s.fir.cur with
    | none => (s.get FIR_EPOCH.EPLOG, s.fir.notBefore)
    | some e => (s.get FIR_EPOCH.EPLOG, e.notBefore)
  let ahead := max c (hold - s.time.cyc)
  let first := max r ((32 * s.time.rtc.toNat + s.time.presc + ahead + 31) / 32)
  (first + 2 ^ n - 1) / 2 ^ n * 2 ^ n

/-- 1 ms in RTC source cycles. -/
def msCycles : Nat := 33

/-! ### The sealed staging region (R393, Table STO-10) -/

/-- Presence map bits 32k to 32k + 31. -/
def presenceWord (slots : List Nat) (k : Nat) : Word :=
  BitVec.ofNat 32 ((slots.filter (fun x => x / 32 == k)).foldl (fun m x => m ||| 2 ^ (x % 32)) 0)

/-- The slot number of a word in the map: SR01 from 0, SR04 from 2,048. -/
def mapSlot (a : Nat) : Nat := if wordBacked true a then slotOf true a else 2048 + slotOf false a

/-- STC writes SR02: while the dated set is SCHEDULED or COMMITTED its header, map and staged values; else the header state
EMPTY. A store of SR02 is requested. -/
def State.keepDated (s : State) : State :=
  let t := s.stg.dated
  let st := s.stageState true
  let s :=
    if st = 2 ∨ st = 3 then
      let slots := t.entries.map (fun e => mapSlot e.1)
      let s := (t.entries.zip slots).foldl (fun s (e, k) =>
        s.sramSetWord (if k < 2048 then regionWord 2 (256 + k) else regionWord 2 (36 * 64 + (k - 2048))) e.2) s
      let s := s.sramSetWords (regionWord 2 64) ((List.range 120).map (presenceWord slots))
      s.sramSetWords (regionWord 2 0) [BitVec.ofNat 32 (st + 8 * t.auth.toNat + 65536 * t.ver), BitVec.ofNat 32 t.applyAt,
        BitVec.ofNat 32 (t.applyAt / 2 ^ 32), BitVec.ofNat 32 t.entries.length]
    else s.sramSetWord (regionWord 2 0) 0
  s.requestStore 2

/-! ### Commands (R208 to R214) -/

/-- The staged apply instant, whole seconds (Table STG-4). -/
def State.stagedAt (s : State) : Nat := (s.get STG_AT.AT + 2 ^ 22 * s.get STG_AT_H.AT) * 1024

/-- A refused command ends at once with its code as the only conflict (R213, R214). -/
def State.stageRefuse (s : State) (dated : Bool) (code : Nat) : State :=
  (s.stageResult dated 4 [(code, 0)]).raise Ev.STG_REFUSED

/-- CHECK and APPLY begin their check (R209 to R211). DEDUCED (log 9). -/
def State.stageStart (s : State) (dated apply : Bool) : State :=
  let applyAt := if 2 ≤ s.stageState dated then (s.stage dated).applyAt else s.stagedAt
  let c : StageCheck := ⟨dated, apply, applyAt, s.on SEA_STAT.SESSION, s.conflicts dated apply applyAt⟩
  let s := { s with stg := { s.stg with check := some c } }
  ((s.put STG_STAT.BUSY 1).put STG_STAT.SET (setNo dated)).put STG_STAT.RESULT 0 |>.put STG_STAT.NCONF 0

/-- DISCARD (R213). -/
def State.stageDiscard (s : State) (dated : Bool) : State :=
  let n := setNo dated
  let st := s.stageState dated
  if st = 3 then s.stageRefuse dated 0x0C
  else if st = 2 ∧ (s.stage dated).isSealed ∧ !s.on SEA_STAT.SESSION then s.stageRefuse dated 0x08
  else
    let s := s.setStage dated StageSet.empty
    let s := ((s.put (STG_SET.STATE n) 0).put (STG_SET.OVF n) 0).put (STG_SET.OUTCOME n) 3
    let s := ((s.showStage dated).stageResult dated 5 []).raise Ev.STG_DISCARDED
    if dated && st == 2 then s.keepDated else s

/-- A command of STG_CMD or H_STG_CMD: 1 CHECK, 2 APPLY, 3 DISCARD. -/
def State.stageCommand (s : State) (cmd : Nat) (dated : Bool) : State :=
  if cmd = 0 ∨ 3 < cmd then s
  else if s.on STG_STAT.BUSY || !s.meterReady then (s.bump STG_IGN.CMDS).raise Ev.STG_IGNORED
  else
    let s := s.put (STG_SET.STALE (setNo dated)) 0
    if cmd = 3 then s.stageDiscard dated
    else if cmd = 2 ∧ 2 ≤ s.stageState dated then s.stageRefuse dated 0x0E
    else s.stageStart dated (cmd == 2)

/-- CHECK. -/
def execStgCheck (dated : Bool) (s : State) : Out := s.onTwill (fun s => s.stageCommand 1 dated)

/-- APPLY. -/
def execStgApply (dated : Bool) (s : State) : Out := s.onTwill (fun s => s.stageCommand 2 dated)

/-- DISCARD. -/
def execStgDiscard (dated : Bool) (s : State) : Out := s.onTwill (fun s => s.stageCommand 3 dated)

/-- LGC runs its services. -/
def State.lgcRuns (s : State) : Bool := s.twillRuns && s.coreUp 0

/-- CHECK_DONE: the check of a CHECK ends (R209). -/
def execStgCheckDone (s : State) : Out :=
  match s.stg.check with
  | some c =>
    if c.apply || !s.lgcRuns then go s
    else
      let s := { s with stg := { s.stg with check := none } }
      go ((s.stageResult c.dated (if c.found.isEmpty then 1 else 2) c.found).raise Ev.STG_CHECKED)
  | none => go s

/-- APPLY_CHECK_DONE: the check of an APPLY ends (R210, R211). DEDUCED (log 9). -/
def execStgApplyCheckDone (s : State) : Out :=
  match s.stg.check with
  | some c =>
    if !c.apply || !s.lgcRuns then go s
    else
      let s := { s with stg := { s.stg with check := none } }
      if c.found.isEmpty then
        let t := s.stage c.dated
        let b := s.boundaryFrom (if c.dated then c.applyAt else 0) msCycles
        let s := s.setStage c.dated { t with applyAt := if c.dated then c.applyAt else 0, auth := c.dated && c.session,
                                             boundary := b, ver := s.get STG_VER.CFGVER, late := false }
        let s := (s.put (STG_SET.STATE (setNo c.dated)) 2).stageResult c.dated 6 []
        let s := s.raise Ev.STG_SCHEDULED
        go (if c.dated then s.keepDated else s)
      else go ((s.stageResult c.dated 4 c.found).raise Ev.STG_REFUSED)
  | none => go s

/-! ### The commit point (R212, R217, R221, R353) -/

/-- A scheduled set is refused whole (R212, R224): it returns to OPEN with its entries, and the dated set loses its AT. At its commit point, a
dated set with an SL entry is recorded with its first code and AT (Table EVT-4). -/
def State.refuseSet (s : State) (dated atCommit : Bool) (cs : List (Nat × Nat)) : State :=
  let n := setNo dated
  let t := s.stage dated
  let data : List Word := if atCommit && dated && t.isSealed then
    [BitVec.ofNat 32 (cs.headD (0, 0)).1, BitVec.ofNat 32 t.applyAt, BitVec.ofNat 32 (t.applyAt / 2 ^ 32)] else []
  let s := if s.latestScheduled dated then s.put STG_STAT.RESULT 4 else s
  let s := s.setConflicts cs
  let s := s.setStage dated { t with applyAt := 0, auth := false, boundary := 0, late := false }
  let s := ((s.put (STG_SET.STATE n) 1).put (STG_SET.OUTCOME n) 2).raiseWith Ev.STG_REFUSED data
  if dated then s.keepDated else s

/-- Is the dated set COMMITTED for the boundary of the immediate set? -/
def State.datedCommitted (s : State) : Bool := s.stageState true == 3 && s.stg.dated.boundary == s.stg.imm.boundary

/-- What a set meets at its commit point. A dated set whose APPLY was accepted with no session open, since it then held no SL entry, and that gained
one while the APPLY's check ran, is not authorised and needs an open session here. DESIGN CHOICE (log 38). -/
def State.commitConflicts (s : State) (dated : Bool) : List (Nat × Nat) :=
  let t := s.stage dated
  let both := !dated && s.datedCommitted
  let v := if both then overlay s.view s.stg.dated.entries else s.view
  s.sealedConflicts dated (!dated || !t.auth) (both && s.stg.dated.isSealed).toNat ++ s.stageEntryConflicts dated v

def State.commitSet (s : State) (dated : Bool) : State :=
  let cs := s.commitConflicts dated
  if cs.isEmpty then
    let s := s.put (STG_SET.STATE (setNo dated)) 3
    let s := if (s.stage dated).isSealed then
      State.showLegal { s with evt := { s.evt with reserved := s.evt.reserved + 1 } } else s
    if dated then s.keepDated else s
  else s.refuseSet dated true cs

/-- The part applies sets: running, not frozen, past METER_READY, no power failure declared (R111, R222). -/
def State.applying (s : State) : Bool :=
  s.measuring && s.meterReady && (s.pwr.pf == .none || s.pwr.pf == .deglitch)

/-- RTC source cycles until the RTC reads `b`. -/
def State.cyclesTo (s : State) (b : Nat) : Nat := 32 * b - (32 * s.time.rtc.toNat + s.time.presc)

/-- COMMIT_POINT: the sets whose boundary lies 1 ms ahead are checked again, the dated set first (R212, R221). -/
def execCommitPoint (s : State) : Out :=
  if s.applying then
    let due (dated : Bool) : Bool :=
      let left := s.cyclesTo (s.stage dated).boundary
      s.stageState dated == 2 && decide (0 < left) && decide (left ≤ msCycles)
    let d := due true
    let i := due false
    let s := if d then s.commitSet true else s
    go (if i then s.commitSet false else s)
  else go s

/-! ### The change counter (R219, R352, R354) -/

/-- The words of SR03 that hold the two copies of the counter. -/
def counterWord (copy : Nat) : Nat := 64 * copy

/-- The counter takes a value, in its register and in both copies. -/
def State.setCounter (s : State) (v : Nat) : State :=
  let s := s.put SEA_CTR.CTR v
  (s.ownerWord 3 (counterWord 0) (BitVec.ofNat 32 v)).ownerWord 3 (counterWord 1) (BitVec.ofNat 32 v)

/-- SEA_CTR stands at 999 (R354). -/
def State.counterEnd (s : State) : State :=
  if s.on SEA_STAT.CTREND then s else ((s.put SEA_STAT.CTREND 1).raise Ev.CTR_END).legalAlarm 0

/-- A sealed set is charged, once, at B (R219, R351). -/
def State.charge (s : State) (dated : Bool) (sealedEntries : Nat) : State :=
  let v := min 999 (s.get SEA_CTR.CTR + 1)
  let s := s.setCounter v
  let s := s.raiseWith Ev.CTR_CHARGED [BitVec.ofNat 32 (v + 65536 * dated.toNat),
    BitVec.ofNat 32 (s.get STG_VER.CFGVER + 65536 * sealedEntries)]
  if v = 999 then s.counterEnd else s

/-! ### What an apply brings about in other blocks -/

/-- The verifier words are all 0 (R344). -/
def State.showVirgin (s : State) : State :=
  s.putB SEA_STAT.VIRGIN ((List.range 4).all (fun j => s.rd (SEA_VERIFIER.addr j) == 0))

/-- Does word `a` belong to the calendar (R324)? -/
def calendarWord (a : Nat) : Bool :=
  (decide (0x100001 ≤ a) && decide (a ≤ 0x100004)) || (decide (0x100010 ≤ a) && decide (a < 0x100040))
  || (decide (0x100100 ≤ a) && decide (a < 0x100200))

/-- A dated apply that writes a calendar word (R325). -/
def State.activateCalendar (s : State) : State :=
  let s := s.raise Ev.CAL_ACTIVATED
  if s.on BIL_CFG.CLOSEACT then
    ((List.range (mpCount s.pod)).filter (fun i => s.on (BIL_MP_CFG.EN i))).foldl (fun s i =>
      s.setBill i { s.bill i with activate := some s.time.rtc.toNat }) s
  else s

/-- An apply that changes QTY resets the tariff registers at the next processed publication (R318). -/
def State.resetOnQty (s : State) (old : Nat → Word) : State :=
  ((List.range (mpCount s.pod)).filter (fun i => s.get (BIL_MP_CFG.QTY i) != vget old (BIL_MP_CFG.QTY i))).foldl
    (fun s i => s.setBill i { s.bill i with retotal := true }) s

/-- The words whose change clears a path's histories (R283). -/
def historyWords (v : Nat → Word) (p : Nat) : List Word :=
  let (k, b) := pathBurst v p
  [v (FIR_PATH_A.addr p), v (FIR_PATH_B.addr p), v (FIR_PATH_C.addr p), v (ECH_BURST0.addr k b), v (ECH_BURST1.addr k b),
   v (ARV_PATH_M.addr p), v (ARV_PATH_Q.addr p)]

/-- The number of the first epoch of a version that takes effect now: the one that has begun at this instant, else the next one. -/
def State.firstOfVersion (s : State) : Nat :=
  match s.fir.cur with
  | some e => if e.startCyc = s.time.cyc then e.id else s.fir.nextId
  | none => s.fir.nextId

/-- An apply that changes a path's arrival settings clears its histories for the shots of the new version (R283). -/
def State.resetHistories (s : State) (old : Nat → Word) : State :=
  ((List.range (pathCount s.pod)).filter (fun p => historyWords s.view p != historyWords old p)).foldl (fun s p =>
    let s := { s with arv := { s.arv with resets := s.arv.resets.filter (fun (r : Nat × Nat) => r.1 != p) ++ [(p, s.firstOfVersion)] } }
    s.resetPhi (pathRx s.view (unitOf s.pod s.view p) p)) s

/-- The epoch that has begun at this very instant stands for the new version: its schedule and its tag are made anew (R220). -/
def State.retagEpoch (s : State) : State :=
  match s.fir.cur with
  | some e =>
    if e.startCyc = s.time.cyc then
      { s with fir := { s.fir with cur := some { s.newEpoch with id := e.id, first := e.first, notBefore := e.notBefore } } }
    else s
  | none => s

/-! ### Taking effect (R218 to R221) -/

/-- Every staged field of a set goes live in one instant (R218). -/
def State.writeSet (s : State) (es : List (Nat × Word)) : State :=
  es.foldl (fun s e => (s.needPage (slotAddr e.1 / 256)).wrStaged e.1 e.2) s

/-- A set leaves: EMPTY, APPLIED, its cost and its events. -/
def State.setApplied (s : State) (dated : Bool) (t : StageSet) : State :=
  let n := setNo dated
  let s := if s.latestScheduled dated then s.put STG_STAT.RESULT 3 else s
  let s := s.setStage dated StageSet.empty
  let s := ((s.put (STG_SET.STATE n) 0).put (STG_SET.OVF n) 0).put (STG_SET.OUTCOME n) 1
  let s := (s.putB (STG_SET.LATE n) t.late).showStage dated
  let s := (s.bump STG_VER.APPLIES)
  let s := if t.isSealed then s.charge dated t.sealedWords.length else s
  let data : List Word := if t.isSealed then [] else
    [BitVec.ofNat 32 (65536 * dated.toNat), BitVec.ofNat 32 (s.get STG_VER.CFGVER + 65536 * t.entries.length)]
  let s := (s.raiseWith Ev.STG_APPLIED data).raiseIf t.late Ev.STG_LATE
  let s := if dated && t.entries.any (fun e => calendarWord e.1) then s.activateCalendar else s
  if dated then s.keepDated else s

/-- The regions whose pages an apply has dirtied (Table STO-2). -/
def applyRegions (words : List Nat) (isSealed : Bool) : List Nat :=
  (if words.any (wordBacked true) then [1] else []) ++ (if isSealed then [3] else []) ++
  (if words.any (fun a => !wordBacked true a) then [4] else [])

/-- The slots of an apply's words take their new values and the stores are requested; words whose Twill read was refused
twice are retried before the stores are (R392, R421). -/
def State.backApply (s : State) (words : List Nat) (isSealed : Bool) (refused : Nat → Bool) : State :=
  let s := (words.filter (fun a => !refused a)).foldl State.backWord s
  let left := words.filter refused
  let regions := applyRegions words isSealed
  if left.isEmpty then regions.foldl State.requestStore s
  else
    let s := left.foldl (fun s a => (s.refuse 9 1 (busTarget a)).refuse 9 1 (busTarget a)) s
    State.raise { s with sto := { s.sto with work := s.sto.work ++ [⟨0, left, 2, regions⟩] } } Ev.FABRIC_REFUSED

/-- The boundary of a set that waits, under the epoch length and the RTC in force: the dated set's is the first one at or after its AT, the
immediate set's the first one that it can reach (R210, R211). A COMMITTED set keeps its boundary while that stands, and otherwise is SCHEDULED again
and meets its commit check 1 ms before the new one (R222, R223), its reservation of a legal entry given back. -/
def State.rebound (s : State) (dated : Bool) : State :=
  let t := s.stage dated
  let from_ := if dated then t.applyAt else 0
  if s.stageState dated = 2 then s.setStage dated { t with boundary := s.boundaryFrom from_ msCycles }
  else if s.stageState dated = 3 ∧ (t.boundary ≠ s.boundaryFrom from_ 1 ∨ s.time.rtc.toNat < t.boundary - 2) then
    let s := State.put (s.setStage dated { t with boundary := s.boundaryFrom from_ msCycles }) (STG_SET.STATE (setNo dated)) 2
    if t.isSealed then State.showLegal { s with evt := { s.evt with reserved := s.evt.reserved - 1 } } else s
  else s

/-- SET_TAKES_EFFECT: at B every COMMITTED set of that boundary takes effect, the dated set first; CFGVER advances once.
`refused` names the words whose backing read Twill refused twice (R421). -/
def execSetTakesEffect (refused : List (BitVec 24)) (s : State) : Out :=
  let b := s.time.rtc.toNat
  let due (dated : Bool) : Bool := s.stageState dated == 3 && (s.stage dated).boundary == b && s.time.presc == 0
  let ds := [true, false].filter due
  if s.applying && !ds.isEmpty then
    let sets := ds.map (fun d => (d, s.stage d))
    let old := s.view
    let s := sets.foldl (fun s x => s.writeSet x.2.entries) s
    let s := (s.put STG_VER.CFGVER ((s.get STG_VER.CFGVER + 1) % 65536)).put2 STG_LASTB.addr b
    let s := sets.foldl (fun s x => s.setApplied x.1 x.2) s
    let words := sets.foldl (fun ws x => x.2.entries.foldl (fun ws e => addSorted e.1 ws) ws) []
    let s := s.backApply words (sets.any (fun x => x.2.isSealed)) (fun a => refused.any (fun r => r.toNat == a))
    let s := ((s.resetHistories old).resetOnQty old).retagEpoch.showVirgin.showPending
    let s := ((s.bypassApply old).banksApply old).displayRun
    go ((s.rebound true).rebound false)
  else go s

/-! ### Freezes, clock sets, restarts and starts (R222 to R225) -/

/-- Resume of a freeze that the RTC entered at `entry`: a set whose boundary or AT passed during it takes effect at the first boundary after the
resume, LATE, with its commit check 1 ms before that boundary (R222). -/
def State.stageResume (s : State) (entry : Nat) : State :=
  [true, false].foldl (fun s dated =>
    let t := s.stage dated
    if 2 ≤ s.stageState dated then
      let s := s.rebound dated
      let t2 := s.stage dated
      let passed := decide (t.boundary < t2.boundary) || (dated && decide (entry < t.applyAt) && decide (t.applyAt ≤ s.time.rtc.toNat))
      s.setStage dated { t2 with late := t.late || passed }
    else s) s

/-- A clock set from the RTC count `old`: the dated set follows the new RTC; it is LATE where the RTC was set forward past its AT, and no longer where
the RTC is back before its AT (R223). The immediate set takes the next boundary that it can reach. DESIGN CHOICE (log 38). -/
def State.stageClockSet (s : State) (old : Nat) : State :=
  [true, false].foldl (fun s dated =>
    if 2 ≤ s.stageState dated then
      let s := s.rebound dated
      let t := s.stage dated
      let passed := decide (t.applyAt ≤ s.time.rtc.toNat)
      s.setStage dated { t with late := if dated then passed && (t.late || decide (old < t.applyAt)) else t.late }
    else s) s

/-- LGC restarts: a set before its commit point is refused with INTERRUPTED, one whose APPLY check runs among them (R224). -/
def State.stageInterrupt (s : State) : State :=
  let s := match s.stg.check with
    | some c =>
      if c.apply then
        let s := { s with stg := { s.stg with check := none } }
        ((s.stageResult c.dated 4 [(0x0D, 0)]).put (STG_SET.OUTCOME (setNo c.dated)) 2).raise Ev.STG_REFUSED
      else s
    | none => s
  [true, false].foldl (fun s dated => if s.stageState dated = 2 then s.refuseSet dated false [(0x0D, 0)] else s) s

/-- A power failure is declared: no apply goes on, and a reservation is released (R111, R353). -/
def State.stagePowerFail (s : State) : State :=
  State.showLegal { s with evt := { s.evt with reserved := 0 }, stg := { s.stg with check := none } }

/-- The sets as a start leaves them: nothing is staged (R225). -/
def Staging.cleared : Staging := { imm := StageSet.empty, dated := StageSet.empty, check := none, errNext := 0 }

/-- SR02 is recalled: a dated set that was SCHEDULED or COMMITTED returns as SCHEDULED, with its AT and authorisation
(R225). -/
def State.recallDated (s : State) : State :=
  let w (k : Nat) : Word := s.sramWord (regionWord 2 k)
  let h := (w 0).toNat
  let words := backedWords true
  let opens := backedWords false
  let present (k : Nat) : Bool := (w (64 + k / 32)).getLsbD (k % 32)
  let find (ws : List Nat) (slot0 image : Nat) : List (Nat × Word) :=
    ((List.range ws.length).zip ws).filterMap (fun (k, a) =>
      if present (slot0 + k) then some (a, w (image + k) &&& stagedMask a) else none)
  if h % 8 = 2 ∨ h % 8 = 3 then
    let es := (find words 0 256 ++ find opens 2048 (36 * 64)).foldl (fun m e => Sparse.insert m e.1 e.2) []
    let t : StageSet := ⟨es, (w 1).toNat + 2 ^ 32 * (w 2).toNat, h.testBit 3, 0, h / 65536, false⟩
    (s.setStage true t).put (STG_SET.STATE 1) 2 |>.showStage true
  else s

/-- METER_READY: a set lost at the start reads LOST (`lostImm`, `lostDated`: it had entries before), and a dated set that
came back gets its boundary (R225). -/
def State.stageReady (s : State) (lostImm lostDated : Bool) : State :=
  let lose (s : State) (dated : Bool) : State := (s.put (STG_SET.OUTCOME (setNo dated)) 4).raise Ev.STG_LOST
  let s := if lostImm then lose s false else s
  let s := if lostDated && s.stageState true != 2 then lose s true else s
  if s.stageState true = 2 then
    let t := s.stg.dated
    let own := (t.applyAt + 2 ^ s.get FIR_EPOCH.EPLOG - 1) / 2 ^ s.get FIR_EPOCH.EPLOG * 2 ^ s.get FIR_EPOCH.EPLOG
    let b := s.boundaryFrom t.applyAt msCycles
    s.setStage true { t with boundary := b, late := decide (own < b) }
  else s

end Sys2Proof.Machine
end

