-- ==== Sys2Proof/Machine/Sealed.lean ====
section
/-! DEFINITION. The sealed partition's own events (chapter 12): the verification switch, sessions and their lock-out, and patch
images. -/

namespace Sys2Proof.Machine

/-! ### Sessions (R342 to R349) -/

/-- The ASCII block that the credential encrypts (R344). -/
def verifierBlock : List Nat := [0x46, 0x4C, 0x41, 0x53, 0x45, 0x41, 0x4D, 0x2D, 0x48, 0x34, 0x36, 0x33, 0x32, 0x2D, 0x56, 0x53]

/-- The credential in SYS_VS_CRED matches the verifier: every one does while the verifier is 0 (R344). -/
def State.credentialGood (s : State) : Bool :=
  let key := (wordBytes ((List.range 4).map (fun j => s.rd (SYS_VS_CRED.addr j)))).map BitVec.toNat
  let want := (wordBytes ((List.range 4).map (fun j => s.rd (SEA_VERIFIER.addr j)))).map BitVec.toNat
  s.on SEA_STAT.VIRGIN || aesEncrypt key verifierBlock == want

/-- A session lock-out runs (R346). -/
def State.sessionLocked (s : State) : Bool := match s.sea.lockEnd with
  | some t => decide (s.time.aoTick < t)
  | none => false

/-- The ticks of a lock-out of 2^LEVEL minutes, at most 1,440 minutes. -/
def lockTicks (level : Nat) : Nat := min 1440 (2 ^ level) * 61440

/-- A lock-out starts (R346). -/
def State.startSessionLock (s : State) : State :=
  let level := s.get SEA_LOCK.LEVEL
  let s := { s with sea := { s.sea with lockEnd := some (s.time.aoTick + lockTicks level) } }
  (((s.put SEA_LOCK.FAILS 0).put SEA_LOCK.LEVEL (min 11 (level + 1))).put SEA_STAT.LOCKED 1).raise Ev.LOCKOUT

/-- OPEN: LGC takes the request (R342, R343). It is ignored while one is in hand (R345) or while LGC does not run. -/
def State.openSession (s : State) : State :=
  if s.on SYS_VS_STAT.BUSY || s.fab.restarting.contains 0 || !s.boot.steps.testBit 3 then s
  else
    let locked := s.sessionLocked
    let good := s.on SEA_STAT.VSW && !locked && s.credentialGood
    let s := (List.range 4).foldl (fun s j => s.wr (SYS_VS_CRED.addr j) 0) s
    let s := if locked then s else s.countFail SEA_LOCK.FAILS
    State.put { s with sea := { s.sea with opening := some good, openedAt := s.time.runCyc } } SYS_VS_STAT.BUSY 1

/-- The OPEN in hand is refused, and the eighth refusal starts a lock-out. -/
def State.denySession (s : State) : State :=
  let s := { s with sea := { s.sea with opening := none } }
  let s := ((s.put SYS_VS_STAT.BUSY 0).put SYS_VS_STAT.RESULT 2).raise Ev.SESSION_DENIED
  (if 8 ≤ s.get SEA_LOCK.FAILS then s.startSessionLock else s).optOutcome false

/-- A W6 message that waits for BUSY: the credential goes into SYS_VS_CRED, byte 0 first, OPEN into SYS_VS_CMD, and OPT_VS_REQ is
raised (R586). -/
def State.optOpen (s : State) : State :=
  match s.loc.opt.stage with
  | .w6Busy cred =>
    if s.on SYS_VS_STAT.BUSY then s
    else
      let s := (List.range 4).foldl (fun s j => s.wr (SYS_VS_CRED.addr j) (BitVec.ofNat 32 (leNat ((cred.drop (4 * j)).take 4)))) s
      let s := { s with loc := { s.loc with opt := { s.loc.opt with stage := .w6Open } } }
      s.openSession.raise Ev.OPT_VS_REQ
  | _ => s

/-- 4 hours in AO ticks (R348). -/
def sessionTicks : Nat := 4 * 3600 * 1024

/-- OPEN (row of SYS_VS_CMD). -/
def execSessionOpen (s : State) : Out := s.onTwill State.openSession

/-- OPEN_RESULT: 96 µs after the request, counted while LGC's clock runs (R343, R363). -/
def execSessionOpenResult (s : State) : Out :=
  if !(s.coreUp 0 && s.twillRuns && hasCome (s.time.runCyc - s.sea.openedAt) 96) then go s
  else match s.sea.opening with
  | none => go s
  | some false => go s.denySession.optOpen
  | some true =>
    let s := { s with sea := { s.sea with opening := none, sessionEnd := s.time.aoTick + sessionTicks } }
    let s := ((s.put SYS_VS_STAT.BUSY 0).put SYS_VS_STAT.RESULT 1).put SEA_STAT.SESSION 1
    go ((((s.put SEA_LOCK.FAILS 0).put SEA_LOCK.LEVEL 0).raiseWith Ev.SESSION_OPEN [1]).optOutcome true).optOpen

/-- The open session ends, by CLOSE (1), the switch (2) or time (3), or the close deferred by a power failure (4) or a start
(5) is recorded (R348, R349). -/
def State.closeSession (s : State) (cause : Nat) : State :=
  let s := ((s.put SEA_STAT.SESSION 0).put SYS_VS_STAT.RESULT 3).put SYS_VS_STAT.ENDCAUSE cause
  s.raiseWith Ev.SESSION_CLOSE [BitVec.ofNat 32 (2 + 16 * cause)]

/-- CLOSE in SYS_VS_CMD; with no session open it does nothing. -/
def State.closeCommand (s : State) : State := if s.on SEA_STAT.SESSION then s.closeSession 1 else s

def execSessionClose (s : State) : Out := s.onTwill State.closeCommand

/-- SESSION_TIMEOUT: 4 hours on the AO tick after the latest accepted OPEN. -/
def execSessionTimeout (s : State) : Out :=
  if s.on SEA_STAT.SESSION && !s.umb.frozen && decide (s.sea.sessionEnd ≤ s.time.aoTick) then go (s.closeSession 3) else go s

/-- LOCKOUT_END: the lock-out has run out on the AO tick. -/
def execLockoutEnd (s : State) : Out :=
  if s.sea.lockEnd.isSome && !s.umb.frozen && !s.sessionLocked then
    go (State.put { s with sea := { s.sea with lockEnd := none } } SEA_STAT.LOCKED 0)
  else go s

/-- Minutes left of a lock-out that ends at the given tick, rounded up (Tables SEA-9 and STO-8). -/
def lockRemain (now : Nat) (until_ : Option Nat) : Nat := match until_ with
  | some t => (t - now + 61439) / 61440
  | none => 0

/-- VSW_CHANGE: VSW_N has held a new level for 10 ms; `low` is the verification position (R341). The normal position ends an
open session (R348). No clock reaches the block in a freeze. -/
def execVswChange (low : Bool) (s : State) : Out :=
  if s.umb.frozen || s.on SEA_STAT.VSW == low then go s
  else
    let s := ((s.wake Wake.vsw).putB SEA_STAT.VSW low).raise Ev.VSW_CHANGE
    go (if !low && s.on SEA_STAT.SESSION then s.closeSession 2 else s)

/-! ### Patch images (R359 to R362) -/

/-- The first words of the image's touch list: pairs of first and last address. -/
def touchPairs (ws : List Word) : List (Nat × Nat) :=
  (List.range (min 16 (ws.getD 4 0).toNat)).map (fun k => ((ws.getD (5 + 2 * k) 0).toNat, (ws.getD (6 + 2 * k) 0).toNat))

/-- A range of deep-space words touches a sealed part (Table SEA-1) or a word that holds an SL field. -/
def touchesSealed (lo hi : Nat) : Bool :=
  let meets (a b : Nat) : Bool := decide (lo ≤ b) && decide (a ≤ hi)
  meets 0x1B0000 0x1BFFFF || meets 0x400000 0x41FFFF || meets 0x184000 0x187FFF
  || (backedWords true).any (fun a => decide (lo ≤ a) && decide (a ≤ hi))

/-- LEN of an image, in words (Table SEA-4). -/
def patchLen (ws : List Word) : Nat := (ws.getD 1 0).toNat / 65536

/-- Word `k` of the image at word address `a`. -/
def State.imageWord (s : State) (a k : Nat) : Word := Memory.word s.calico (4 * (a - 0x400000 + k))

/-- The tests of Table SEA-5 but the last on an image whose header is `head`. -/
def State.headerCode (s : State) (a : Nat) (head : List Word) : Nat :=
  let len := patchLen head
  let core := (head.getD 1 0).toNat % 256
  let pairs := touchPairs head
  if a < 0x420000 ∨ 0x460000 < a + max 1 len then 1
  else if head.getD 0 0 ≠ 0x50434831 ∨ (head.getD 1 0).toNat / 256 % 256 ≠ 1 ∨ (head.drop 53).any (· != 0) then 2
  else if core ≠ 1 ∧ core ≠ 2 then 3
  else if 4096 < len then 4
  else if head.getD 3 0 ≠ Config.romVersion core then 5
  else if head.getD 2 0 ≤ s.rd (SEA_PATCH_FLOOR.addr (core - 1)) then 6
  else if pairs.any (fun x => decide (x.2 < x.1) || touchesSealed x.1 x.2) then 7
  else 0

/-- LGC reads the image at word address `a` and runs the tests of Table SEA-5 in order: the code of the first that fails, 0 for none, and the
state. A header with a word that cannot be read fails the test of its form, a body with one that of its signature. DESIGN CHOICE (log 10). -/
def State.patchCode (s : State) (a : Nat) : Nat × State :=
  if a < 0x420000 ∨ 0x460000 ≤ a + 1 then (1, s)
  else
    let head := (List.range 64).map (s.imageWord a)
    let len := patchLen head
    let code := s.headerCode a head
    if code = 1 then (1, s)
    else match s.eccSweep 0 (a - 0x400000) 64 with
      | (false, s) => (2, s)
      | (true, s) =>
        if code ≠ 0 then (code, s)
        else match s.eccSweep 0 (a - 0x400000 + 64) (len - 64) with
          | (false, s) => (8, s)
          | (true, s) => (if Config.patchSigned ((List.range len).map (s.imageWord a)) then 0 else 8, s)

/-- The PATCH entry's data (Table EVT-4). -/
def patchData (core code : Nat) (version crc : Word) : List Word :=
  [BitVec.ofNat 32 (core + (if code = 0 then 0 else 4) + 16 * code), version, crc]

/-- The region of a core's patch image. -/
def patchRegion (n : Nat) : Nat := 10 + n

/-- Region words of SR03 that keep the record of core `n`: VER, CRC, AT, FLOOR and whether an image is stored. -/
def patchWord (n w : Nat) : Nat := 64 * 4 + 8 * n + w

/-- INSTALL (R360): ignored while a command runs. -/
def State.installPatch (s : State) : State :=
  if s.on SYS_PATCH_STAT.BUSY then s
  else State.put { s with sea := { s.sea with installing := some (s.get SYS_PATCH_SRC.ADDR) } } SYS_PATCH_STAT.BUSY 1

def execPatchInstall (s : State) : Out := s.onTwill State.installPatch

/-- The image is stored: STC copies it into its region, with its record (R361). `refused` says that Twill refused the copy twice (R421), as
it does a word that cannot be read: the region's pages stay dirty and nothing is recorded. DESIGN CHOICE (log 10). -/
def State.storePatch (s : State) (a : Nat) (refused : Option Denial) : State :=
  let ws := (List.range (min 4096 (patchLen ((List.range 2).map (s.imageWord a))))).map (s.imageWord a)
  let n := (ws.getD 1 0).toNat % 256 - 1
  let r := patchRegion n
  let s := s.recallPages r 0 ((ws.length + 63) / 64)
  let (good, s) := s.eccSweep 9 (a - 0x400000) ws.length
  if refused.isSome || !good then
    let s := if good then (s.denied 9 refused).denied 9 refused else (s.eccSweep 9 (a - 0x400000) ws.length).2
    let s := (List.range ((ws.length + 63) / 64)).foldl (fun s k => s.markDirty (regionFirst r + k)) s
    (s.put STO_LAST.RESULT 5).raise Ev.FABRIC_REFUSED
  else
    let s := s.sramSetWords (regionWord r 0) ws
    let crc := BitVec.ofNat 32 (crc32 (wordBytes ws))
    let version := ws.getD 2 0
    let s := ((s.wr (SEA_PATCH_VER.addr n) (version &&& 0x7FFFFFFF)).wr (SEA_PATCH_CRC.addr n) crc).put2 (SEA_PATCH_AT.addr n)
      s.time.rtc.toNat
    let s := s.wr (SEA_PATCH_FLOOR.addr n) version
    let s := s.ownerWords 3 (patchWord n 0) [version &&& 0x7FFFFFFF, crc, s.rd (SEA_PATCH_AT.addr n),
      s.rd (SEA_PATCH_AT.addr n + 1), version, 1]
    ((s.requestStore r).requestStore 3).raiseWith Ev.PATCH_INSTALLED (patchData (n + 1) 0 version crc)

/-- PATCH_TESTS_DONE: the tests end (R361). -/
def execPatchTestsDone (refused : Option Denial) (s : State) : Out :=
  if !(s.coreUp 0 && s.twillRuns) then go s
  else match s.sea.installing with
  | none => go s
  | some a =>
    let (code, s) := s.patchCode a
    let s := { s with sea := { s.sea with installing := none } }
    let s := (s.put SYS_PATCH_STAT.BUSY 0).put SYS_PATCH_STAT.CODE code
    if code = 0 then go (s.storePatch a refused)
    else
      let word := s.imageWord a
      let known := decide (0x420000 ≤ a) && decide (a + 3 ≤ 0x460000)
      let core := if known then (word 1).toNat % 4 else 0
      go (s.raiseWith Ev.PATCH_REFUSED (patchData core code (if known then word 2 else 0) 0))

/-- REMOVE of a core's image, from the next start; FLOOR is kept (R362). -/
def State.removePatch (s : State) (core : Nat) : State :=
  if s.on SYS_PATCH_STAT.BUSY ∨ (core ≠ 1 ∧ core ≠ 2) then s
  else
    let n := core - 1
    let s := s.ownerWords 3 (patchWord n 0) [0, 0, 0, 0, s.rd (SEA_PATCH_FLOOR.addr n), 0]
    ((s.put SYS_PATCH_STAT.CODE 0).requestStore (patchRegion n)).requestStore 3

def execPatchRemove (core : BitVec 2) (s : State) : Out := s.onTwill (fun s => s.removePatch core.toNat)

end Sys2Proof.Machine
end

