-- ==== Sys2Proof/Machine/Store.lean ====
section
/-! DEFINITION. The shadow store at work (chapter 14): stores and their pages, the legal register set that precedes a store of
SR00, the data port with its access check, lock-outs and transfers, and the retries of refused Twill accesses. -/

namespace Sys2Proof.Machine

/-! ### The legal register set (R160, R399, R648) -/

/-- The words of the legal registers: totals, energies and fault times of the metering points, and LOG_LSKIP (R569). -/
def legalWords : List Nat :=
  (List.range 4).flatMap (fun i =>
    [FLO_VOLF.addr i, FLO_VOLR.addr i, NGE_HEAT.addr i, NGE_COOL.addr i, NGE_VOLB.addr i].flatMap (fun a => [a, a + 1])
    ++ [FLO_FTIME.addr i, FLO_FTIME_H.addr i, NGE_FTIME.addr i, NGE_FTIME_H.addr i]) ++ [LOG_LSKIP.addr]

/-- What a set of the present legal registers holds. -/
def State.legalBody (s : State) : LegalBody :=
  { regs := s.regs.filter (fun e => legalWords.contains e.1), residues := s.flo.residues, queue := s.evt.legalQ,
    seq := s.evt.legalSeq, routed := s.evt.routed, accrual := s.flo.accrual }

/-- The body words of a set: registers, residues, queued entries, then 0. -/
def State.bodyWords (s : State) : List Word :=
  let ws := legalWords.map s.rd ++ s.flo.residues.flatMap (fun e => [BitVec.ofNat 32 e.1, BitVec.ofNat 32 e.2])
    ++ s.evt.legalQ.flatMap (fun e => entryWords e.1 e.2)
  (ws ++ List.replicate 448 0).take 448

/-- First word of a set in SR00. -/
def legalSetWord (k : Nat) : Nat := 512 * k

/-- The generation in a set's header, as the shadow SRAM holds it. -/
def State.legalGen (s : State) (k : Nat) : Nat := (s.sramWord (regionWord 0 (legalSetWord k))).toNat

/-- LGC writes the next legal register set: into the set that does not hold the present one, with a generation above both. -/
def State.writeLegalSet (s : State) : State :=
  let k := 1 - s.sto.legalSet
  let gen := max (s.legalGen 0) (s.legalGen 1) + 1
  let t := s.time.rtc.toNat
  let head : List Word := [BitVec.ofNat 32 gen, BitVec.ofNat 32 t, BitVec.ofNat 32 (t / 2 ^ 32), Config.romVersion 0,
    s.rd UMB_FRZNUM.addr, s.rd UMB_TOTAL.addr, s.rd UMB_TOTAL_H.addr] ++ List.replicate 56 0
  let body := s.bodyWords
  let ws := head ++ [BitVec.ofNat 32 (crc32 (wordBytes (head ++ body)))] ++ body
  let s := s.sramSetWords (regionWord 0 (legalSetWord k)) ws
  { s with sto := { s.sto with legalSet := k, legalBodies := Sparse.insert s.sto.legalBodies gen s.legalBody } }

/-- Each attempt counter's LEVEL (page 6) and the session LEVEL (page 2) go into SR03 before it is stored (R347, R413). -/
def levelWord (c : Nat) : Nat := 64 * 6 + c
def sessionLevelWord : Nat := 64 * 2

def State.keepLevels (s : State) : State :=
  let s := s.ownerWords 3 (levelWord 0) ((List.range 17).map (fun c => BitVec.ofNat 32 (s.get (STO_LOCK.LEVEL c))))
  s.ownerWords 3 sessionLevelWord [BitVec.ofNat 32 (s.get SEA_LOCK.LEVEL)]

/-! ### Stores (R395 to R400, R402, R403) -/

/-- STORE_PERIOD: the RTC is at a whole multiple of the PERIOD of the regions concerned (Table STO-2). -/
def execStorePeriod (s : State) : Out :=
  let due (n : Nat) : Bool :=
    let p := s.get (STO_REG_CFG.PERIOD n)
    p != 0 && s.time.rtc.toNat % (61440 * p) == 0 && s.time.presc == 0
  if s.twillRuns then go (((List.range 16).filter due).foldl State.requestStore s) else go s

/-- A WRITE transfer is open on the region: no store of it starts (R397). -/
def State.writeOpen (s : State) (n : Nat) : Bool := match s.sto.transfer with
  | some t => t.write && t.region == n
  | none => false

/-- The next region whose request is served: SR06 first, then ascending (R397). -/
def State.nextStore (s : State) : Option Nat :=
  let p := s.get STO_STAT.PENDING
  ([6] ++ List.range 16).find? (fun n => p.testBit n && !s.writeOpen n)

/-- The dirty pages of region `n`, ascending. -/
def State.dirtyOf (s : State) (n : Nat) : List Nat := s.sto.dirty.filter (fun p => pageRegion p == n)

/-- The store controller runs: its domains are on and nothing is frozen. -/
def State.storeRuns (s : State) : Bool := s.clocksOn.contains 51

/-- A store begins over the pages `ps`: the journal is opened and the first page buffered (R397, R398). -/
def State.beginStore (s : State) (region : Nat) (ps : List Nat) : State :=
  let s := s.openJournal region ps
  let s := match ps with
    | [] => s
    | p :: _ => s.bufferPage p
  { s with sto := { s.sto with run := some ⟨region, ps, 0, false⟩ } }

/-- STORE_START: the next requested store begins; a store of an exhausted region is refused (R397, R399, R403). -/
def execStoreStart (s : State) : Out :=
  match s.sto.run, s.nextStore with
  | none, some n =>
    if !s.storeRuns || s.shed then go s
    else
      let s := s.put STO_STAT.PENDING ((s.get STO_STAT.PENDING) &&& (65535 - 2 ^ n))
      if s.sto.exhausted.contains n then
        go (((s.put STO_LAST.PAGES 0).put STO_LAST.REGION n).put STO_LAST.RESULT 3)
      else
        let s := if n = 0 ∧ s.boot.legalLoaded then s.writeLegalSet else if n = 3 then s.keepLevels else s
        go (((s.put STO_STAT.STORING 1).put STO_STAT.CURRENT n).beginStore n (s.dirtyOf n))
  | _, _ => go s

/-- A page that the store has programmed is clean unless it was written after its copy (R395, R398). -/
def State.cleanPage (s : State) (p : Nat) : State := if s.sto.copyStale then s else s.markClean p

/-- The page in hand has been stored: the next one is buffered. -/
def State.nextPage (s : State) (r : StoreRun) (p : Nat) : State :=
  let s := ((s.cleanPage p).unbufferPage).showWear (pageRegion p)
  let todo := r.todo.drop 1
  let s := match todo with
    | [] => s
    | q :: _ => s.bufferPage q
  { s with sto := { s.sto with run := some ⟨r.region, todo, r.count + 1, false⟩ } }

/-- The store meets an empty pool: its region is exhausted. A store of one region ends, refused; the power-fail and reset
stores skip the region's pages (R400, R403), and the journal goes on over the pages that are left. -/
def State.storeExhausted (s : State) (r : StoreRun) (p : Nat) : State :=
  let n := pageRegion p
  let s := s.exhaust n
  let w := (s.vaultWord 0x090).toNat
  let s := s.setVaultNat 0x090 (if w / 2 % 2 = 1 then w - 2 else w)
  if r.region = 16 then
    let todo := r.todo.filter (fun q => pageRegion q != n)
    let s := s.openJournal 16 todo
    let s := match todo with
      | [] => s
      | q :: _ => s.bufferPage q
    { s with sto := { s.sto with run := some ⟨16, todo, r.count, false⟩ } }
  else
    let s := ((s.put STO_LAST.PAGES r.count).put STO_LAST.REGION n).put STO_LAST.RESULT 3
    State.put { s.closeJournal with sto := { s.sto with run := none } } STO_STAT.STORING 0

/-- One page of the store under way: programmed and read back; programmed once more after a bad read-back; moved to a spare
after a second one, or at the end of its endurance (R398, R402). -/
def State.storePage (s : State) (good : Bool) : State :=
  match s.sto.run with
  | none => s
  | some r =>
    match r.todo with
    | [] => s
    | p :: _ =>
      let pp := s.physPage p
      let worn := decide (2000000 ≤ (s.pageMeta pp).counter)
      if !worn && good then (s.program pp p true).nextPage r p
      else if !worn && !r.retried then
        let s := (s.program pp p false).raise Ev.PROGRAM_RETRY
        { s with sto := { s.sto with run := some { r with retried := true } } }
      else
        let s := if worn then s else s.program pp p false
        match s.toSpare p with
        | some s => s.nextPage r p
        | none => s.storeExhausted r p

/-- The store under way ends here: its journal is closed if every page is stored, and else left open without a page in flight, so that the
rest counts as cut (R103, R151, R157). A journal that step 2 has still to resolve stays as it is (R165). DEDUCED (log 8). -/
def State.endStore (s : State) : State :=
  let whole := match s.sto.run with
    | some r => r.todo.isEmpty
    | none => true
  let w := (s.vaultWord 0x090).toNat
  let s :=
    if !s.boot.steps.testBit 2 then s
    else if whole then s.closeJournal
    else s.setVaultNat 0x090 (if w / 2 % 2 = 1 then w - 2 else w)
  { s with sto := { s.sto with run := none } }

/-- The store has been told to end, and stands at a page boundary: no further page is stored (R103, R151). -/
def State.storeEnds (s : State) : Bool := s.pwr.storeCut && s.sto.atBoundary

/-- The reset store ends when every page is stored, or at the page boundary after its 10 ms: the internal reset is asserted (R151). -/
def State.endResetStore (s : State) : State :=
  let done := match s.sto.run with
    | some r => r.todo.isEmpty || s.storeEnds
    | none => true
  if s.pwr.pf == .resetStore && done then
    s.endStore.internalReset (if s.pwr.sources.testBit 1 then 2 else 3)
  else s

/-- STORE_PAGE_DONE. -/
def execStorePageDone (good : Bool) (s : State) : Out :=
  if s.storeRuns && !s.storeEnds then go (s.storePage good).endResetStore else go s

/-- STORE_DONE: the store's last page is done (R397). -/
def execStoreDone (s : State) : Out :=
  match s.sto.run with
  | none => go s
  | some r =>
    if r.todo.isEmpty && r.region != 16 && s.storeRuns then
      let s := ((s.put STO_LAST.PAGES r.count).put STO_LAST.REGION r.region).put STO_LAST.RESULT 1
      let s := { s.closeJournal with sto := { s.sto with run := none } }
      go ((s.put STO_STAT.STORING 0).raise (Ev.STORE_DONE r.region))
    else go s

/-! ### The data port (R404 to R416) -/

/-- The owner of a region (Table STO-1): LGC 0, APC 1, NWC 2, STC 9; 14 is none. -/
def regionOwner (n : Nat) : Nat :=
  if n = 0 ∨ n = 3 then 0 else if n = 6 ∨ n = 7 then 2 else if n = 8 ∨ n = 9 then 1 else if n ≤ 11 then 9 else 14

/-- What R408 forbids whoever asks: a READ of SR05, and a READ or WRITE that covers a byte of page 7 of SR03. -/
def portForbidden (cmd region offset len : Nat) : Bool :=
  (cmd == 2 && region == 5) || (region == 3 && decide (cmd ≤ 3) && decide (offset < 2048) && decide (1792 < offset + len))

/-- The offset and length lie inside the region (R406, R410): multiples of 4, the length not 0. SETPWR and SETPWW name none. -/
def portInside (cmd region offset len : Nat) : Bool :=
  decide (3 < cmd) || (len != 0 && len % 4 == 0 && offset % 4 == 0 && decide (offset + len ≤ 256 * regionSize region))

/-- Word of SR03 page 7 that holds a region's password: read (0) or write (1), two words each. DEDUCED (log 8). -/
def passwordWord (region kind : Nat) : Nat := 64 * 7 + 4 * (region - 12) + 2 * kind

/-- Which password a command is checked against (R415). -/
def passwordKind (cmd : Nat) : Nat := if cmd = 2 ∨ cmd = 4 then 0 else 1

/-- The supplied password matches; a password of 0 matches every value, and SR00 to SR11 have none (R410, R414). -/
def State.passwordGood (s : State) (cmd region : Nat) (supplied : List Word) : Bool :=
  if region < 12 then true
  else
    let w := passwordWord region (passwordKind cmd)
    let held := [s.sramWord (regionWord 3 w), s.sramWord (regionWord 3 (w + 1))]
    held == [0, 0] || held == supplied || (decide (3 < cmd) && s.on SEA_STAT.SESSION)

/-- The lock-out of attempt counter `c` runs (R412). -/
def State.portLocked (s : State) (c : Nat) : Bool := match Sparse.find s.sto.lockEnd c with
  | some t => decide (s.time.aoTick < t)
  | none => false

/-- The attempt counter of a region number (R410). -/
def attemptCounter (region : Nat) : Nat := if region < 16 then region else 16

/-- The status of the data port (Table STO-6). -/
def State.portStatus (s : State) (busy open_ write : Bool) (result remain : Nat) : State :=
  ((((s.putB STO_PSTAT.BUSY busy).putB STO_PSTAT.OPEN open_).putB STO_PSTAT.WRITE write).put STO_PSTAT.RESULT result).put
    STO_PSTAT.REMAIN remain

def State.openTransfer (s : State) (cmd region offset len who : Nat) : State :=
  let s := { s with sto := { s.sto with transfer := some ⟨cmd == 3, region, offset, len / 4, who⟩ } }
  s.portStatus false true (cmd == 3) 1 (len / 4)

/-- A transfer closes with a result (R405, R406). -/
def State.closeTransfer (s : State) (result : Nat) : State :=
  let s := { s with sto := { s.sto with transfer := none } }
  let s := s.portStatus false false false result 0
  if result = 1 then s.raise Ev.CMD_DONE else s.raise Ev.TRANSFER_CLOSED

/-- READ (2), WRITE (3), SETPWR (4) or SETPWW (5) by initiator `who` (R405, R410, R411, R415). -/
def State.portCommand (s : State) (cmd region who : Nat) : State :=
  if s.on STO_PSTAT.BUSY || s.on STO_PSTAT.OPEN then s
  else
    let offset := s.get STO_PADDR.OFFSET
    let len := s.get STO_PLEN.LEN
    let supplied := [s.rd (STO_PW.addr 0), s.rd (STO_PW.addr 1)]
    let new := [s.rd (STO_PW.addr 2), s.rd (STO_PW.addr 3)]
    let s := (List.range 4).foldl (fun s j => s.wr (STO_PW.addr j) 0) s
    let owner := decide (cmd ≤ 3) && decide (region < 16) && regionOwner region == who && !portForbidden cmd region offset len
    let inside := decide (region < 16) && portInside cmd region offset len
    if owner && inside then s.openTransfer cmd region offset len who
    else
      let c := attemptCounter region
      let locked := s.portLocked c
      let kindGood := cmd == 2 || decide (12 ≤ region)
      let good := !owner && inside && !portForbidden cmd region offset len && kindGood && !locked
        && s.passwordGood cmd region supplied
      let s := if owner || locked then s else s.countFail (STO_LOCK.FAILS c)
      let s := { s with sto := { s.sto with check := some ⟨cmd, region, offset, len, who, new, owner, locked, good, s.time.runCyc⟩ } }
      s.portStatus true false false (s.get STO_PSTAT.RESULT) 0

/-- STORE with a mask (R409). -/
def State.storeCommand (s : State) (mask : Nat) : State :=
  if s.on STO_PSTAT.BUSY || s.on STO_PSTAT.OPEN then s
  else
    let ns := (List.range 16).filter (fun n => mask.testBit n)
    let ended := ns.any (fun n => s.sto.exhausted.contains n)
    let s := (ns.filter (fun n => !s.sto.exhausted.contains n)).foldl State.requestStore s
    let s := s.portStatus false false false (if ended then 3 else 1) 0
    if ended then s.raise Ev.CMD_REFUSED else s.raise Ev.CMD_DONE

/-- CLOSE (R405). -/
def State.portClose (s : State) : State := if s.sto.transfer.isSome then s.closeTransfer 1 else s

/-- A refused command: DENIED is the only code; the eighth failure starts the counter's lock-out (R411, R412). -/
def State.portDeny (s : State) (k : PortCheck) : State :=
  let c := attemptCounter k.region
  let s := ((s.portStatus false false false 2 0).raise Ev.ACCESS_DENIED).raise Ev.CMD_REFUSED
  if !k.owner && !k.locked && decide (8 ≤ s.get (STO_LOCK.FAILS c)) then
    let level := s.get (STO_LOCK.LEVEL c)
    let s := { s with sto := { s.sto with lockEnd := Sparse.insert s.sto.lockEnd c (s.time.aoTick + lockTicks level) } }
    ((s.put (STO_LOCK.FAILS c) 0).put (STO_LOCK.LEVEL c) (min 11 (level + 1))).raise Ev.LOCKOUT_STO
  else s

/-- ACCESS_CHECK_DONE: 96 µs after a checked command, counted while the store clock runs (R411). A command whose holder has lost the lease opens nothing. -/
def execAccessCheckDone (s : State) : Out :=
  match s.sto.check with
  | none => go s
  | some k =>
    if !(s.storeRuns && hasCome (s.time.runCyc - k.since) 96) then go s
    else
      let s := { s with sto := { s.sto with check := none } }
      if !k.good then go (s.portDeny k)
      else
        let c := attemptCounter k.region
        let s := (s.put (STO_LOCK.FAILS c) 0).put (STO_LOCK.LEVEL c) 0
        if 3 < k.cmd then
          let s := s.ownerWords 3 (passwordWord k.region (passwordKind k.cmd)) k.new
          go (((s.requestStore 3).portStatus false false false 1 0).raise Ev.CMD_DONE)
        else if (s.lease 0).holder = some k.who then go (s.openTransfer k.cmd k.region k.offset k.len k.who)
        else go ((s.portStatus false false false 4 0).raise Ev.TRANSFER_CLOSED)

/-- STO_LOCKOUT_END. -/
def execStoLockoutEnd (c : Fin 17) (s : State) : Out :=
  if (Sparse.find s.sto.lockEnd c).isSome && !s.portLocked c then
    go { s with sto := { s.sto with lockEnd := Sparse.erase s.sto.lockEnd c } }
  else go s

/-- The transfer has moved a word. -/
def State.advanceTransfer (s : State) (t : Transfer) : State :=
  if t.left ≤ 1 then s.closeTransfer 1
  else
    let s := { s with sto := { s.sto with transfer := some { t with offset := t.offset + 4, left := t.left - 1 } } }
    s.put STO_PSTAT.REMAIN (t.left - 1)

/-- A read of STO_PDATA: the word and the state (R406, R407). -/
def State.pdataRead (s : State) : Word × State :=
  match s.sto.transfer with
  | some t =>
    if t.write then (0, s)
    else
      let a := 256 * regionFirst t.region + t.offset
      let s := s.needPage (a / 256)
      (s.sramWord a, s.advanceTransfer t)
  | none => (0, s)

/-- A write of STO_PDATA. -/
def State.pdataWrite (s : State) (v : Word) : State :=
  match s.sto.transfer with
  | some t =>
    if t.write then
      let a := 256 * regionFirst t.region + t.offset
      ((s.needPage (a / 256)).sramSetWord a v).advanceTransfer t
    else s
  | none => s

/-- The STC lease of `who` has ended: its transfer closes with STO_E_LEASE (R406, R598). -/
def State.stcLeaseEnd (s : State) (who : Nat) : State :=
  let s := match s.sto.transfer with
    | some t => if t.who = who then s.closeTransfer 4 else s
    | none => s
  match s.sto.check with
  | some k => if k.who = who then
      (State.portStatus { s with sto := { s.sto with check := none } } false false false 4 0).raise Ev.TRANSFER_CLOSED else s
  | none => s

/-! ### Refused Twill accesses (R421) -/

/-- STC_FABRIC_RETRY: the word or page in hand is tried again; kind 0 backs an apply, kind 2 is a settled recall. -/
def execStcFabricRetry (refused : Option Denial) (s : State) : Out :=
  match s.sto.work with
  | [] => go s
  | w :: rest =>
    if !s.twillRuns then go s
    else if refused.isSome then go { (s.denied 9 refused) with sto := { s.sto with work := { w with refusals := w.refusals + 1 } :: rest } }
    else
      match w.words with
      | [] => go { s with sto := { s.sto with work := rest } }
      | a :: left =>
        let s := if w.kind = 0 then s.backWord a else s.needPage a
        if left.isEmpty then go (w.regions.foldl State.requestStore { s with sto := { s.sto with work := rest } })
        else go { s with sto := { s.sto with work := { w with words := left } :: rest } }

end Sys2Proof.Machine
end

