-- ==== Sys2Proof/Machine/Security.lean ====
section
/-! DEFINITION. Frame security and counters (chapter 17): AES-CCM, key slots, the transmit counters with their reservations, and
the check of a received frame. -/

namespace Sys2Proof.Machine

/-! ### AES-CCM with an 8-byte MIC, a 2-byte length field and a 13-byte nonce (R495) -/

/-- Blocks of 16 bytes, the last filled with 0. -/
def ccmBlocks : Nat → List Nat → List (List Nat)
  | 0, _ => []
  | _, [] => []
  | n + 1, bs => (bs.take 16 ++ List.replicate (16 - (bs.take 16).length) 0) :: ccmBlocks n (bs.drop 16)

/-- The CBC-MAC over the first block, the length-prefixed authenticated data and the payload. PRESUMED (log 32). -/
def ccmMac (keys : List (List Nat)) (nonce aad payload : List Nat) : List Nat :=
  let b0 := (if aad.isEmpty then 0x19 else 0x59) :: nonce ++ [payload.length / 256, payload.length % 256]
  let a := if aad.isEmpty then [] else [aad.length / 256, aad.length % 256] ++ aad
  (b0 :: ccmBlocks a.length a ++ ccmBlocks payload.length payload).foldl (fun x b => aesBlock keys (xorBytes x b)) (List.replicate 16 0)

/-- Key stream block `i`. -/
def ccmStream (keys : List (List Nat)) (nonce : List Nat) (i : Nat) : List Nat :=
  aesBlock keys (1 :: nonce ++ [i / 256, i % 256])

def ccmCrypt (keys : List (List Nat)) (nonce : List Nat) (bs : List Nat) : List Nat :=
  let n := (bs.length + 15) / 16
  xorBytes bs ((List.range n).flatMap (fun i => ccmStream keys nonce (i + 1)))

/-- The encrypted payload with its MIC. -/
def ccmSeal (keys : List (List Nat)) (nonce aad payload : List Nat) : List Nat :=
  ccmCrypt keys nonce payload ++ (xorBytes (ccmMac keys nonce aad payload) (ccmStream keys nonce 0)).take 8

/-- The payload of a sealed one, and whether its MIC matches. -/
def ccmOpen (keys : List (List Nat)) (nonce aad body mic : List Nat) : List Nat × Bool :=
  let payload := ccmCrypt keys nonce body
  (payload, (xorBytes (ccmMac keys nonce aad payload) (ccmStream keys nonce 0)).take 8 == mic)

def byteNats (bs : List Byte) : List Nat := bs.map BitVec.toNat
def natBytes (ns : List Nat) : List Byte := ns.map (BitVec.ofNat 8)

/-- The nonce of Table SEC-1. -/
def secNonce (src ctr slot transport net fc : Nat) : List Nat :=
  byteNats (leBytes 4 src ++ leBytes 4 ctr) ++ [slot, transport + 1] ++ byteNats (leBytes 2 net) ++ [fc]

/-! ### Key slots (R491, Table SEC-3) -/

/-- The key of a slot, as SR05 holds it: 16 or 32 bytes. -/
def State.slotKey (s : State) (n : Nat) : List Nat :=
  byteNats (Memory.bytes s.sto.sram (256 * regionFirst 5 + 32 * n) (if s.on (SEC_KS_CFG.SIZE n) then 32 else 16))

/-- The slot serves the transport. -/
def State.slotServes (s : State) (n transport : Nat) : Bool := (s.get (SEC_KS_CFG.USE n)).testBit transport

/-- Vault word 0x201 + 4n: GEN, STATE and VONLY. -/
def State.slotWord (s : State) (n : Nat) : Word :=
  BitVec.ofNat 32 (s.get (SEC_KS_CFG.GEN n) + 256 * s.get (SEC_KS_CFG.STATE n) + 1024 * s.get (SEC_KS_CFG.VONLY n))

/-- The slot's vault words and their copy in SR06 follow the slot, with `lim` as the limit written last. -/
def State.keepSlot (s : State) (n lim : Nat) : State :=
  let w := s.slotWord n
  let s := (s.setVaultNat (0x200 + 4 * n) lim).setVaultWord (0x201 + 4 * n) w
  s.ownerWords 6 (4 * n) [BitVec.ofNat 32 lim, w]

/-- The limit that the vault holds. -/
def State.vaultLim (s : State) (n : Nat) : Nat := (s.vaultWord (0x200 + 4 * n)).toNat

/-- The end of the counters (R499, R500). -/
def counterLast : Nat := 0xFFFFFC00

/-- NWC writes a reservation (R499): it counts once the store of SR06 has ended, or at once where SR06 is exhausted (R507). -/
def State.reserve (s : State) (n lim : Nat) : State :=
  let lim := min counterLast lim
  if s.sto.exhausted.contains 6 then
    let s := (s.put (SEC_KS_CFG.VONLY n) 1).raise Ev.VAULT_ONLY
    (s.keepSlot n lim).put (SEC_KS_LIM.LIM n) lim
  else
    let s := (s.keepSlot n lim).requestStore 6
    { s with sto := { s.sto with resvPending := true }, sec := { s.sec with pending := Sparse.insert s.sec.pending n lim } }

/-- RESV_STORED: the SR06 store has ended, and the limits written before it are confirmed; where it was refused, they count
by their vault words alone (R418, R499, R507). -/
def State.confirmReservations (s : State) : State :=
  let ended := s.sto.exhausted.contains 6
  let s := s.sec.pending.foldl (fun s (e : Nat × Nat) =>
    let s := s.put (SEC_KS_LIM.LIM e.1) e.2
    if ended then ((s.put (SEC_KS_CFG.VONLY e.1) 1).keepSlot e.1 e.2).raise Ev.VAULT_ONLY else s) s
  let s := { s with sto := { s.sto with resvPending := false }, sec := { s.sec with pending := [] } }
  if ended then s else s.raise Ev.RESV_STORED

/-- The reservation store is over: nothing of pages 0 and 1 of SR06 is dirty, requested or being stored, or SR06 is
exhausted. -/
def State.reservationOver (s : State) : Bool :=
  s.sto.resvPending && (s.sto.exhausted.contains 6 ||
    (!s.sto.dirty.contains (regionFirst 6) && !s.sto.dirty.contains (regionFirst 6 + 1)
      && match s.sto.run with
        | some r => r.region != 6
        | none => true))

/-! ### Sending (R498 to R500) -/

/-- What the frame channel answers: the counter taken, a wait for RESV_STORED, or a refusal. -/
inductive Protect where
  | taken (ctr : Nat)
  | wait
  | refused
  deriving DecidableEq, Repr

/-- The counter has moved from `c` to `c + 1`: the reservation ahead of it, its end and its warning. -/
def State.counterMoved (s : State) (n c : Nat) : State :=
  let s := s.put (SEC_KS_CTR.CTR n) (c + 1)
  let lim := s.get (SEC_KS_LIM.LIM n)
  let s := if c + 1 + 512 = lim ∧ lim < counterLast ∧ (Sparse.find s.sec.pending n).isNone then s.reserve n (lim + 1024) else s
  let s := s.raiseIf (c + 1 == 0xF0000001) Ev.CTR_LOW
  if c + 1 = counterLast then
    ((s.put (SEC_KS_CFG.STATE n) 2).keepSlot n (s.vaultLim n)).raise Ev.SEC_CTR_END
  else s

/-- The channel takes the slot's counter for a frame of the transport. -/
def State.takeCounter (s : State) (n transport : Nat) : Protect × State :=
  let st := s.get (SEC_KS_CFG.STATE n)
  if st ≠ 1 ∨ !s.slotServes n transport then (.refused, if 2 ≤ st then s.bump SEC_CNT1.TXREFUSED else s)
  else
    let c := s.get (SEC_KS_CTR.CTR n)
    if c < s.get (SEC_KS_LIM.LIM n) then (.taken c, s.counterMoved n c)
    else (.wait, (s.bump SEC_CNT1.RESVWAIT).raise Ev.RESV_WAIT)

/-- Where a frame's parts stand: the offset of SECHDR, and the places of the mutable fields as pairs of first byte and count, with
a mask for the ROUTE byte of a directed power-line frame (Table SEC-2). -/
structure FrameShape where
  transport : Nat
  net : Nat
  src : Nat
  sechdr : Nat
  mutables : List (Nat × Nat)
  route : Option Nat
  deriving DecidableEq, Repr

/-- The additional authenticated data: the bytes through SECHDR with every mutable field 0 (R495). -/
def FrameShape.aad (f : FrameShape) (bytes : List Nat) : List Nat :=
  (List.range (f.sechdr + 5)).map (fun k =>
    if f.mutables.any (fun m => decide (m.1 ≤ k) && decide (k < m.1 + m.2)) then 0
    else if f.route = some k then (bytes.getD k 0) % 16 + (bytes.getD k 0) / 128 * 128
    else bytes.getD k 0)

/-- A frame protected under slot `n` with counter `ctr`, its CRC left out: header, SECHDR, encrypted payload, MIC. `plain` is the
frame from byte 0, with 5 bytes for SECHDR, to the end of its payload. -/
def State.protect (s : State) (f : FrameShape) (n ctr : Nat) (plain : List Byte) : List Byte :=
  let bs := byteNats plain
  let bs := bs.take f.sechdr ++ [n] ++ byteNats (leBytes 4 ctr) ++ bs.drop (f.sechdr + 5)
  let nonce := secNonce f.src ctr n f.transport f.net (bs.headD 0)
  natBytes (bs.take (f.sechdr + 5) ++ ccmSeal (aesKeys (s.slotKey n)) nonce (f.aad bs) (bs.drop (f.sechdr + 5)))

/-! ### Receiving (R501 to R505) -/

/-- What the security check finds. -/
inductive Checked where
  | pass (payload : List Byte)
  | copy (payload : List Byte)
  | replay
  | forgery
  deriving DecidableEq, Repr

/-- Stages 1 and 2 and the comparison with the entry's counter `h`. `bytes` is the frame without its CRC; `h` gives the entry of
SRC and a slot. DEDUCED (log 11). -/
def State.checkFrame (s : State) (f : FrameShape) (sec : Bool) (h : Nat → Option Nat) (bytes : List Byte) : Checked :=
  if !sec then
    if (s.get SEC_CFG.REQUIRE).testBit f.transport then .forgery else .pass (bytes.drop f.sechdr)
  else
    let bs := byteNats bytes
    let b0 := bs.getD f.sechdr 0
    let n := b0 % 32
    let ctr := leNat ((bytes.drop (f.sechdr + 1)).take 4)
    let rest := bs.drop (f.sechdr + 5)
    let body := rest.take (rest.length - 8)
    let st := s.get (SEC_KS_CFG.STATE n)
    let nonce := secNonce f.src ctr b0 f.transport f.net (bs.headD 0)
    let (payload, good) := ccmOpen (aesKeys (s.slotKey n)) nonce (f.aad bs) body (rest.drop (rest.length - 8))
    if st = 0 ∨ !s.slotServes n f.transport ∨ 32 ≤ b0 ∨ rest.length < 8 ∨ !good then .forgery
    else match h n with
      | none => .pass (natBytes payload)
      | some h => if h < ctr then .pass (natBytes payload) else if h = ctr then .copy (natBytes payload) else .replay

/-- An event under the limiter of R504: its count has grown. -/
def RaiseLimit.grow (l : RaiseLimit) (now : Nat) : RaiseLimit × Bool :=
  match l.tick with
  | none => (RaiseLimit.mk (some now) false, true)
  | some t => if t + 61440 ≤ now then (RaiseLimit.mk (some now) false, true) else (RaiseLimit.mk l.tick true, false)

/-- A forgery is counted. -/
def State.countForgery (s : State) : State :=
  let (l, up) := s.sec.auth.grow s.time.aoTick
  (State.bump { s with sec := { s.sec with auth := l } } SEC_CNT0.AUTHFAIL).raiseIf up Ev.AUTH_FAIL

/-- A replay is counted. -/
def State.countReplay (s : State) : State :=
  let (l, up) := s.sec.replay.grow s.time.aoTick
  (State.bump { s with sec := { s.sec with replay := l } } SEC_CNT0.REPLAY).raiseIf up Ev.REPLAY

/-- 60 s have passed since the latest raise, and the count has grown. -/
def RaiseLimit.due (l : RaiseLimit) (now : Nat) : Bool :=
  match l.tick with
  | some t => l.grown && decide (t + 61440 ≤ now)
  | none => false

/-- SEC_RAISE_LIMIT: 60 s after the latest raise, an event whose count has grown is raised again (R504). -/
def execSecRaiseLimit (s : State) : Out :=
  if !s.twillRuns then go s
  else
  let now := s.time.aoTick
  let fresh := RaiseLimit.mk (some now) false
  let s := if s.sec.auth.due now then State.raise { s with sec := { s.sec with auth := fresh } } Ev.AUTH_FAIL else s
  go (if s.sec.replay.due now then State.raise { s with sec := { s.sec with replay := fresh } } Ev.REPLAY else s)

/-- The receive table's entry for an originator and slot. -/
def State.rxFind (s : State) (src slot : Nat) : Option Nat :=
  (s.sec.rx.find? (fun e => e.src == src && e.slot == slot)).map (·.ctr)

/-- The table is kept in SR06 pages 2 to 7, 12 bytes an entry: SRC, the slot with bit 8 set, the counter; least recently accepted
first. -/
def State.keepRx (s : State) : State :=
  let ws := s.sec.rx.flatMap (fun e => [BitVec.ofNat 32 e.src, BitVec.ofNat 32 (256 + e.slot), BitVec.ofNat 32 e.ctr])
  (s.ownerWords 6 128 (ws ++ List.replicate (384 - ws.length) 0)).put SEC_RXTAB.USED s.sec.rx.length

/-- A counter is accepted: the entry is written and is the most recent; a full table loses the least recent one (R503). -/
def State.rxAccept (s : State) (src slot ctr : Nat) : State :=
  let rest := s.sec.rx.filter (fun e => !(e.src == src && e.slot == slot))
  let full := rest.length == 128
  let rest := if full then rest.drop 1 else rest
  let s := { s with sec := { s.sec with rx := rest ++ [RxEntry.mk src slot ctr] } }
  let s := if full then (s.bump SEC_CNT1.RXEVICT).raise Ev.RXTAB_EVICT else s
  s.keepRx

/-! ### Key commands (R492 to R494) -/

/-- UPDATE, without what the transports do with frames protected under the old key (R506). -/
def State.updateKey (s : State) (n : Nat) (size : Bool) (use : Nat) : State :=
  if 8 ≤ use ∧ (use ≠ 8 ∨ size) then s.put SEC_CMD.RESULT 2
  else
    let ws := (List.range 8).map (fun j => if size || decide (j < 4) then s.rd (SEC_KEYW.addr j) else 0)
    let s := (s.needPage (regionFirst 5 + n / 8)).sramSetWords (regionWord 5 (8 * n)) ws
    let s := (List.range 8).foldl (fun s j => s.wr (SEC_KEYW.addr j) 0) s
    let gen := (s.get (SEC_KS_CFG.GEN n) + 1) % 256
    let s := s.wr (SEC_KS_CFG.addr n) (BitVec.ofNat 32 (1 + 4 * size.toNat + 8 * use + 256 * gen))
    let s := (s.put (SEC_KS_CTR.CTR n) 0).put (SEC_KS_LIM.LIM n) 0
    let s := State.keepRx { s with sec := { s.sec with rx := s.sec.rx.filter (fun e => e.slot != n),
                                                       pending := Sparse.erase s.sec.pending n } }
    ((((s.reserve n 1024).requestStore 5).raise Ev.KEY_UPDATED).put SEC_CMD.RESULT 1)

/-- ERASE. -/
def State.eraseKey (s : State) (n : Nat) : State :=
  let s := (s.needPage (regionFirst 5 + n / 8)).sramSetWords (regionWord 5 (8 * n)) (List.replicate 8 0)
  let s := (s.put (SEC_KS_CFG.STATE n) 0).keepSlot n (s.vaultLim n)
  (s.requestStore 5).put SEC_CMD.RESULT 1

/-! ### Starts and restarts (R508, Table FLT-3) -/

/-- The counters at a start: CTR takes the larger of the vault's and SR06's LIM; after a vault loss a slot whose reservation
stood in the vault alone, or whose SR06 page is LOST or EMPTY, is LOST. -/
def State.startKeys (s : State) (vlost : Bool) : State :=
  let s := (List.range 32).foldl (fun s n =>
    let copy := s.sramWord (regionWord 6 (4 * n))
    let w := s.sramWord (regionWord 6 (4 * n + 1))
    let pageGone := [5, 6].contains (s.pageOutcome (regionFirst 6 + n / 16))
    let c := max (s.vaultLim n) copy.toNat
    let st := s.get (SEC_KS_CFG.STATE n)
    let lost := vlost && st != 0 && (pageGone || w.getLsbD 10)
    let s := (s.put (SEC_KS_CTR.CTR n) c).put (SEC_KS_LIM.LIM n) c
    if lost then ((s.put (SEC_KS_CFG.STATE n) 3).keepSlot n c).raise Ev.CTR_LOST else s.keepSlot n c) s
  let rx := (List.range 128).filterMap (fun k =>
    let w (j : Nat) : Word := s.sramWord (regionWord 6 (128 + 3 * k + j))
    if (w 1).getLsbD 8 then some (RxEntry.mk (w 0).toNat ((w 1).toNat % 32) (w 2).toNat) else none)
  State.put { s with sec := { s.sec with rx := rx, pending := [] } } SEC_RXTAB.USED rx.length

/-- NWC's new reservation for each ACTIVE slot: LIM + 1,024 at step 6 of a start (R508), or CTR rounded down to a multiple of
1,024 plus 2,048 at a restart of NWC (Table FLT-3). -/
def State.reserveAll (s : State) (restart : Bool) : State :=
  (List.range 32).foldl (fun s n =>
    if s.get (SEC_KS_CFG.STATE n) = 1 then
      let lim := if restart then s.get (SEC_KS_CTR.CTR n) / 1024 * 1024 + 2048 else s.get (SEC_KS_LIM.LIM n) + 1024
      s.reserve n lim
    else s) s

end Sys2Proof.Machine
end

