-- ==== Sys2Proof/Machine/ConCore.lean ====
section
/-! DEFINITION. The concentrator's parts that the transports use (chapter 19): messages, the pod table, the reading store, which
transport a message takes, and what becomes of a message that is delivered or handed back. -/

namespace Sys2Proof.Machine

/-! ### Messages (R534) -/

/-- A concentrator message (Table CON-1). -/
def conMessage (ctype : Nat) (more : Bool) (pod : Nat) (body : List Byte) : List Byte :=
  BitVec.ofNat 8 ctype :: BitVec.ofNat 8 more.toNat :: leBytes 4 pod ++ body

/-- The CTYPE values of Table CON-2. -/
def conTypes : List Nat := [0x01, 0x02, 0x03, 0x10, 0x11, 0x12, 0x13, 0x14, 0x15, 0x20]

/-- READING, ALARM, STATUS and WMB_FWD (R548). -/
def transitTypes : List Nat := [0x10, 0x11, 0x15, 0x20]

def byteAt (bs : List Byte) (k : Nat) : Nat := (bs.getD k 0).toNat
def leAt (bs : List Byte) (k n : Nat) : Nat := leNat ((bs.drop k).take n)

/-- CTYPE, POD and BODY of a message. -/
def msgType (m : List Byte) : Nat := byteAt m 0
def msgPod (m : List Byte) : Nat := leAt m 2 4
def msgBody (m : List Byte) : List Byte := m.drop 6

/-! ### The pod table (R540, R541) -/

def State.podFind (s : State) (addr : Nat) : Option Nat :=
  (List.range 250).find? (fun n => s.get (CON_POD_ST.STATE n) != 0 && s.get (CON_POD_ADDR.ADDR n) == addr)

def State.podJoined (s : State) (addr : Nat) : Bool := !s.pod && (s.podFind addr).isSome

/-- PODS: the entries in use. -/
def State.showPods (s : State) : State :=
  s.put CON_STAT.PODS ((List.range 250).filter (fun n => s.get (CON_POD_ST.STATE n) != 0)).length

/-- A good frame of a pod: when it was heard, and a SILENT pod is JOINED again (R541). -/
def State.podHeard (s : State) (n : Nat) : State :=
  let s := (s.putTable (CON_POD_LAST.T_LO n) s.time.rtc.toNat).putTable (CON_POD_LAST_H.T_HI n) (s.time.rtc.toNat / 2 ^ 32)
  if s.get (CON_POD_ST.STATE n) = 2 then s.putTable (CON_POD_ST.STATE n) 1 else s

/-- The counter that a frame of `src` under a slot is compared with: that of the pod table for a pod that has joined with that
slot, that of the receive table otherwise (R503). -/
def State.counterOf (s : State) (src slot : Nat) : Option Nat :=
  match if s.pod then none else s.podFind src with
  | some n => if s.get (CON_POD_ST.SLOT n) = slot then some (s.get (CON_POD_H.H n)) else s.rxFind src slot
  | none => s.rxFind src slot

/-- The counter is accepted. -/
def State.acceptCounter (s : State) (src slot ctr : Nat) : State :=
  match if s.pod then none else s.podFind src with
  | some n =>
    if s.get (CON_POD_ST.SLOT n) = slot then s.putTable (CON_POD_H.H n) ctr else s.rxAccept src slot ctr
  | none => s.rxAccept src slot ctr

/-! ### The reading store (R542, R543) -/

/-- The Calico byte of record place `p` of entry `n`, in banks CB4 and CB5. -/
def recordByte (n p : Nat) : Nat := 0x100000 + 1920 * n + 20 * p

def State.records (s : State) (n : Nat) : List StoredRec := Sparse.get (fun _ => []) s.con.records n

/-- The bytes of a stored record. -/
def State.recordBytes (s : State) (n : Nat) (r : StoredRec) : List Byte := Memory.bytes s.calico (recordByte n r.place) 20

/-- The records of entry `n`, with COUNT and UNFWD. -/
def State.setRecords (s : State) (n : Nat) (rs : List StoredRec) : State :=
  let s := { s with con := { s.con with records := Sparse.set (fun _ => []) s.con.records n rs } }
  let un := s.con.records.foldl (fun k (e : Nat × List StoredRec) => k + (e.2.filter (fun r => r.stage != .forwarded)).length) 0
  (s.put (CON_POD_ST.COUNT n) rs.length).put CON_STAT.UNFWD (min 65535 un)

/-- The records of entry `n` with the RSEQs given come to stand at `g`, those already forwarded excepted. -/
def State.stageRecords (s : State) (n : Nat) (rseqs : List Nat) (g : RecStage) : State :=
  s.setRecords n ((s.records n).map (fun r => if rseqs.contains r.rseq && r.stage != .forwarded then { r with stage := g } else r))

/-! ### Which transport (R544 to R547) -/

/-- Places of CON_FWD: 0 none, 1 PLS, 2 LOOP, 3 RADIO, 4 MBOX. -/
def State.forwardList (s : State) : List Nat :=
  [s.get CON_FWD.ORDER0, s.get CON_FWD.ORDER1, s.get CON_FWD.ORDER2, s.get CON_FWD.ORDER3]

/-- The timing-phase tracker is locked (R136). -/
def State.plsLocked (s : State) : Bool := s.on (CLK_ZC.LOCK (s.get PLS_CFG.PHASE))

/-- The route entry of a destination that is valid and not broken (R455). -/
def State.routeOf (s : State) (dst : Nat) : Option Nat :=
  (List.range 128).find? (fun n => s.on (PLS_RT_C.VALID n) && !s.on (PLS_RT_C.BROKEN n) && s.get (PLS_RT_A.DEST n) == dst)

def State.available (s : State) (w : Nat) : Bool :=
  match w with
  | 1 => s.on PLS_CFG.EN && s.plsLocked && (!s.on PLS_CFG.NETMODE || (s.routeOf (s.get (CON_HEAD.ADDR 0))).isSome)
  | 2 => !s.on LOP_CFG.ROLE && s.get LOP_STAT.STATION != 0
  | 3 => s.on RAD_CFG.EN && s.get RAD_CFG.RXMODE == 0 && !s.on RAD_STAT.DEFER
  | 4 => s.get H_WDG.PERIOD != 0 && !s.on H_STAT.HOSTLOST
  | _ => false

/-- The largest BODY (R546). -/
def State.bodyLimit (s : State) (w : Nat) : Nat :=
  match w with
  | 1 => if s.on PLS_CFG.NETMODE then 148 else 131
  | 2 => min 128 (s.get LOP_MAC.RSLOT) - 32
  | 3 => 209
  | _ => 120

def Service.isForward : Service → Bool
  | .forward _ => true
  | _ => false

/-- The concentrator's messages in the own queue of a transport (R547). -/
def State.conQueued (s : State) (w : Nat) : Nat :=
  let fs (xs : List OutFrame) : Nat := (xs.filter (fun f => f.service.isForward)).length
  let loads (t : Nat) : Nat := (s.con.toLoad.filter (fun o => o.transport == t && o.service.isForward)).length
  match w with
  | 1 =>
    let train (t : Option Train) : Nat := match t with
      | some t => fs t.frames
      | none => 0
    loads 0 + fs s.pls.own + train s.pls.train + train s.pls.held
  | 2 => loads 2 + fs s.lop.own
  | 3 => loads 1 + fs (s.rad.own.map (·.f))
  | _ => (s.mbx.queue.filter (fun m => m.con.isSome)).length

/-- The first place of the forward list that a message of `len` bytes of BODY may take, from place `after` on, other than
the transport by which it came. -/
def State.placeFor (s : State) (after arrived len : Nat) : Option (Nat × Nat) :=
  ((List.range 4).zip s.forwardList).find? (fun x =>
    decide (after ≤ x.1) && x.2 != 0 && x.2 != arrived && s.available x.2 && decide (len ≤ s.bodyLimit x.2))

/-- The key slot that protects a message of NWC's services on a transport: the lowest ACTIVE one that serves it, none where there is
none. DEDUCED (log 11). -/
def State.serviceSlot (s : State) (t : Nat) : Option Nat :=
  (List.range 32).find? (fun n => s.get (SEC_KS_CFG.STATE n) == 1 && s.slotServes n t && !(s.get (SEC_KS_CFG.USE n)).testBit 3)

/-- A message handed to NWC for a transport. DESIGN CHOICE (log 17). -/
def State.handToNwc (s : State) (o : Outgoing) : State := { s with con := { s.con with toLoad := s.con.toLoad ++ [o] } }

/-! ### The mailbox towards the host (R197, R198) -/

/-- The 16-bit words that carry a message: a header with CTYPE and the count, then the bytes, low byte first. -/
def mailWords : List Byte → List (BitVec 16)
  | [] => []
  | [a] => [BitVec.ofNat 16 a.toNat]
  | a :: b :: bs => BitVec.ofNat 16 (a.toNat + 256 * b.toNat) :: mailWords bs

def mailMessage (m : List Byte) : List (BitVec 16) :=
  let ws := mailWords m
  BitVec.ofNat 16 (256 * msgType m + ws.length) :: ws

/-- RXCNT, TXFREE and RXMSG follow the FIFOs: RXMSG is 1 while a whole message is in the receive FIFO. -/
def State.showMail (s : State) : State :=
  let rx := s.mbx.rx.length
  let whole := decide (s.mbx.part < rx)
  let rose := whole && !s.on H_MBOX_STAT.RXMSG
  let s := ((s.put H_MBOX_STAT.RXCNT rx).put H_MBOX_STAT.TXFREE (64 - s.mbx.tx.length)).putB H_MBOX_STAT.RXMSG whole
  ((s.putB H_STAT.MBRX whole).putB H_STAT.MBTXF (s.mbx.tx.length == 64)).raiseIf rose Ev.MBOX_RX

/-- A message for the host joins the queue of 16; the oldest is dropped for a 17th (R198). -/
def State.mailQueue (s : State) (m : MailOut) : State :=
  let full := s.mbx.queue.length == 16
  let q := if full then s.mbx.queue.drop 1 else s.mbx.queue
  let s := { s with mbx := { s.mbx with queue := q ++ [m] } }
  if full then (s.put H_MBOX_STAT.LOST 1).raise Ev.MBOX_DROP else s

/-! ### Forwarding (R545, R547) -/

/-- A message takes transport `w`: a message handed to NWC, or one of the mailbox queue. -/
def State.sendBy (s : State) (w : Nat) (m : ConMsg) : State :=
  let out (t : Nat) (head : Nat) : State :=
    s.handToNwc ⟨t, head, m.bytes, s.serviceSlot t, true, false, false, false, .forward m⟩
  match w with
  | 1 => out 0 (s.get (CON_HEAD.ADDR 0))
  | 2 => out 2 (s.get (CON_HEAD.ADDR 1))
  | 3 => out 1 (s.get (CON_HEAD.ADDR 2))
  | _ => s.mailQueue ⟨mailMessage m.bytes, some m⟩

/-- A waiting message is tried: sent where its transport has room for it, else it waits and is counted once as delayed. -/
def State.tryMessage (s : State) (m : ConMsg) : Option ConMsg × State :=
  match s.placeFor m.after m.arrived (m.bytes.length - 6) with
  | none => (some m, s)
  | some (k, w) =>
    if s.conQueued w < 2 then (none, s.sendBy w { m with after := k })
    else if m.delayed then (some m, s) else (some { m with delayed := true }, s.bump CON_CNT1.DELAYED)

/-- The waiting messages of a class are tried in arrival order. -/
def State.tryClass (s : State) (cls : Nat) : State :=
  let (left, s) := s.con.waiting.foldl (fun (x : List ConMsg × State) m =>
    if m.cls = cls then
      match x.2.tryMessage m with
      | (some m, t) => (x.1 ++ [m], t)
      | (none, t) => (x.1, t)
    else (x.1 ++ [m], x.2)) ([], s)
  { s with con := { s.con with waiting := left } }

/-- The next entry after `n`, round the table, that has a record to forward. -/
def State.nextPod (s : State) (n : Nat) : Option Nat :=
  ((List.range 250).map (fun k => (n + 1 + k) % 250)).find? (fun k =>
    s.get (CON_POD_ST.STATE k) != 0 && (s.records k).any (fun r => r.stage == .fresh))

/-- Class 2: a READING with as many whole records of the next pod as fit, and MORE where further ones stay (R546). -/
def State.tryReading (s : State) : State :=
  match s.nextPod s.con.turn with
  | none => s
  | some n =>
    match s.placeFor 0 0 20 with
    | none => s
    | some (k, w) =>
      if s.conQueued w < 2 then
        let rs := (s.records n).filter (fun r => r.stage == .fresh)
        let now := rs.take (s.bodyLimit w / 20)
        let bytes := now.flatMap (s.recordBytes n)
        let addr := s.get (CON_POD_ADDR.ADDR n)
        let m : ConMsg := ⟨2, conMessage 0x10 (decide (now.length < rs.length)) addr bytes, addr, now.map (·.rseq), 0, k, false⟩
        let s := s.stageRecords n m.recs .sent
        State.sendBy { s with con := { s.con with turn := n } } w m
      else s

/-- The waiting messages go on where they can, in the classes of Table CON-4. -/
def State.pump (s : State) : State :=
  if s.on CON_CFG.EN && !s.pod then
    let s := ((s.tryClass 0).tryClass 1).tryClass 2
    let s := (List.range 2).foldl (fun s _ => s.tryReading) s
    s.tryClass 3
  else s

/-- A message joins the waiting list; a queue of 16 of class 1 or 3 loses its oldest (Table CON-4). -/
def State.enqueueMsg (s : State) (m : ConMsg) : State :=
  let same := s.con.waiting.filter (fun x => x.cls == m.cls)
  let full := (m.cls == 1 || m.cls == 3) && same.length == 16
  let rest := if full then eraseFirst (fun x => x.cls == m.cls) s.con.waiting else s.con.waiting
  let s := { s with con := { s.con with waiting := rest ++ [m] } }
  let s := if full && m.cls == 1 then (s.bump CON_CNT1.TRANSITDROP).raise Ev.TRANSIT_DROP
    else if full then s.bump CON_CNT2.WMBDROP else s
  s.pump

/-- The records of pod `addr` come to stand at `g`. -/
def State.stagePod (s : State) (addr : Nat) (rseqs : List Nat) (g : RecStage) : State :=
  match s.podFind addr with
  | none => s
  | some n => s.stageRecords n rseqs g

/-- A forwarded message is delivered: its records are marked, FWD advances (R545). DEDUCED (log 16). -/
def State.messageDelivered (s : State) (m : ConMsg) : State :=
  let s := s.raise Ev.FWD_DONE
  let s := match s.podFind m.pod with
    | none => s
    | some n =>
      let s := s.stageRecords n m.recs .forwarded
      match m.recs.getLast? with
      | some r => s.putTable (CON_POD_SEQ.FWD n) r
      | none => s
  s.pump

/-- A message handed back with NO_ACK or NO_STATION moves to the next available transport of the list, a READING in pieces that fit
there; where none remains it is discarded, its records stay unforwarded, and an ALARM waits for the forwarding cycle
(R545). -/
def State.messageBack (s : State) (m : ConMsg) : State :=
  let after := m.after + 1
  let len := if m.cls = 2 then 20 else m.bytes.length - 6
  match s.placeFor after m.arrived len with
  | none =>
    let s := s.stagePod m.pod m.recs .failed
    let keep := m.cls == 0 && msgType m.bytes == 0x11
    State.pump { s with con := { s.con with waiting := if keep then s.con.waiting ++ [{ m with after := 4 }] else s.con.waiting } }
  | some (k, w) =>
    let s := (s.bump CON_CNT1.FWDFAIL).raise Ev.FWD_FAILOVER
    if m.bytes.length - 6 ≤ s.bodyLimit w then
      State.pump { s with con := { s.con with waiting := { m with after := k, delayed := false } :: s.con.waiting } }
    else
      let n := s.bodyLimit w / 20
      let part (rs : List Nat) (body : List Byte) (more : Bool) : ConMsg :=
        ⟨2, conMessage 0x10 (more || byteAt m.bytes 1 % 2 == 1) m.pod body, m.pod, rs, 0, k, false⟩
      let body := msgBody m.bytes
      let parts := (List.range ((m.recs.length + n - 1) / n)).map (fun j =>
        part ((m.recs.drop (j * n)).take n) ((body.drop (20 * j * n)).take (20 * n)) (decide ((j + 1) * n < m.recs.length)))
      State.pump { s with con := { s.con with waiting := parts ++ s.con.waiting } }

/-- STATUS for a message that the hub has answered (Table CON-2). -/
def State.answerStatus (s : State) (code ctype pod : Nat) : State :=
  s.enqueueMsg ⟨0, conMessage 0x15 false pod [BitVec.ofNat 8 code, BitVec.ofNat 8 ctype], 0, [], 0, 0, false⟩

/-! ### Reading records (R535) -/

/-- The two-word total that QTY names at metering point 0. -/
def State.reportTotal (s : State) : Nat :=
  match s.get CON_PCFG.QTY with
  | 0 => s.get2 (FLO_VOLF.addr 0)
  | 1 => s.get2 (NGE_HEAT.addr 0)
  | 2 => s.get2 (NGE_COOL.addr 0)
  | _ => s.get2 (NGE_VOLB.addr 0)

/-- FLAGS bits 0, 1 and 4 as they stand: legal alarm, BATLOW, H2HIGH. -/
def State.standingFlags (s : State) : Nat :=
  (s.on SEA_STAT.ALARM).toNat + 2 * (s.on PWR_STAT.BATLOW).toNat + 16 * (s.on (MED_MP1.H2HIGH 0)).toNat

/-- A reading record from the publication of the latest epoch (Table CON-3). -/
def State.readingRecord (s : State) (rseq : Nat) : List Byte :=
  leBytes 6 s.con.lastEnd ++ leBytes 2 rseq ++ [BitVec.ofNat 8 (s.get CON_PCFG.QTY), BitVec.ofNat 8 (s.standingFlags ||| s.con.since)]
  ++ leBytes 8 s.reportTotal ++ leBytes 2 (s.get PWR_VBAT.MV)

/-! ### The pod's reports (R536) -/

def State.showUnacked (s : State) : State := s.put CON_PSTAT.UNACK s.con.unacked.length

/-- A frame that a service sent has been acknowledged. -/
def State.serviceDone (s : State) : Service → State
  | .plain => s
  | .join => { s with con := { s.con with noAcks := 0 } }
  | .report rs => State.showUnacked { s with con := { s.con with unacked := s.con.unacked.filter (fun e => !rs.contains e.1), noAcks := 0 } }
  | .podDown pod => s.answerStatus 0 0x12 pod
  | .forward m => s.messageDelivered m

/-- A frame that a service sent has been given up. After 8 reports in a row with NO_ACK the pod loses its hub. -/
def State.serviceBack (s : State) : Service → State
  | .forward m => s.messageBack m
  | .report _ =>
    let n := s.con.noAcks + 1
    if n = 8 then State.raise (({ s with con := { s.con with noAcks := 0 } } : State).put CON_PSTAT.JOINED 0) Ev.HUB_LOST
    else { s with con := { s.con with noAcks := n } }
  | _ => s

/-! ### Delivery to NWC -/

/-- The concentrator runs in a hub with EN 1, once APC runs. -/
def State.conRuns (s : State) : Bool := !s.pod && s.on CON_CFG.EN && s.boot.steps.testBit 5 && s.mode == .run && !s.umb.frozen && !s.shed && s.coreUp 1

/-- A delivered message waits for its service; in a hub a message of a CTYPE that Table CON-2 does not list is dropped and
counted (R534), a message in transit that is not for this node's own address goes no further (R548), and a pod that is heard by
radio is marked (R541). -/
def State.deliver (s : State) (own : Bool) (d : Delivery) : State :=
  if s.pod then { s with inbox := s.inbox ++ [d] }
  else
    let s := match s.podFind d.src with
      | some n => if d.transport = 1 then s.podHeard n else s
      | none => s
    if !(conTypes.contains (msgType d.payload) && decide (6 ≤ d.payload.length)) then s.bump CON_CNT2.BADTYPE
    else if own || !transitTypes.contains (msgType d.payload) then { s with inbox := s.inbox ++ [d] }
    else s

/-- The oldest delivered message that satisfies `p`, taken. -/
def State.takeMessage (s : State) (p : Delivery → Bool) : Option (Delivery × State) :=
  (s.inbox.find? p).map (fun d => (d, { s with inbox := eraseFirst (fun x => x == d) s.inbox }))

end Sys2Proof.Machine
end

