-- ==== Sys2Proof/Machine/PlsCore.lean ====
section
/-! DEFINITION. Power-line signalling (chapter 15): pulses and symbols, the code, the interleaver, frames and their fields, link
figures, routes, and trains. -/

namespace Sys2Proof.Machine

/-! ### Code and interleaver (R430 to R434) -/

def parity (n : Nat) : Nat := (List.range 8).foldl (fun p k => (p + n / 2 ^ k) % 2) 0

/-- Slot of a pair of coded bits, the first on the left (Table PLS-1). -/
def pairSlot (a b : Nat) : Nat := if a = 0 then b else 3 - b

/-- The encoder's pair for input bit `x` in state `st`, whose bit 5 is the latest input: 171 and 133 in octal. -/
def codedSlot (st x : Nat) : Nat := pairSlot (parity ((x * 64 + st) &&& 0o171)) (parity ((x * 64 + st) &&& 0o133))

def nextState (st x : Nat) : Nat := (x * 64 + st) / 2

def encodeBits : Nat → List Nat → List Nat
  | _, [] => []
  | st, x :: xs => codedSlot st x :: encodeBits (nextState st x) xs

/-- The symbols of a frame: its bytes, each least significant bit first, and six 0 bits (R430). -/
def frameSymbols (bytes : List Byte) : List Nat :=
  encodeBits 0 (bytes.flatMap (fun b => (List.range 8).map (fun k => b.toNat / 2 ^ k % 2)) ++ List.replicate 6 0)

/-- The symbol on the line in half-cycle `k` after the preamble: input i leaves at i + (i mod 8) · 8M, and every cell holds slot
0 at the start of a train (R432). -/
def lineSymbol (symbols : List Nat) (r span k : Nat) : Nat :=
  let d := k % 8 * 8 * span
  if k < d then 0 else symbols.getD ((k - d) / r) 0

/-- The line index of interleaver input `i` (R432). -/
def lineIndex (span i : Nat) : Nat := i + i % 8 * 8 * span

/-- R by its code: 1 ×1, 2 ×4, 3 ×6. -/
def repeatOf (code : Nat) : Nat := if code = 1 then 1 else if code = 2 then 4 else 6
def codeOf (r : Nat) : Nat := if r = 1 then 1 else if r = 4 then 2 else 3

/-- The start words of Table PLS-3. -/
def startWord (r : Nat) : List Nat :=
  if r = 1 then [1, 2, 2, 1, 3, 0, 0, 3] else if r = 4 then [2, 1, 1, 2, 0, 3, 3, 0] else [3, 0, 2, 1, 1, 2, 0, 3]

/-- The slot of preamble half-cycle `k`: 24 symbols 00 and 10 in turn and the start word, each R times (R434). -/
def preambleSlot (r k : Nat) : Nat :=
  let i := k / r
  if i < 24 then (if i % 2 = 0 then 0 else 3) else (startWord r).getD (i - 24) 0

/-- A pulse in slot `k`, from the predicted crossing, in µs: PZD rises and falls half a pulse width on either side of the slot's centre (R425,
Table PLS-1). `pw` is PW in 10 µs units. -/
def pulseEdges (pw k : Nat) : Int × Int :=
  let c : Int := (2 * (k : Int) - 3) * 300
  (c - 5 * (pw : Int), c + 5 * (pw : Int))

/-- PW, DETMIN and ITXMIN of the word PLS_PHY that governs a train or a reception (R457). -/
def phyPw (w : Word) : Nat := PLS_PHY.PW.of w
def phyDetmin (w : Word) : Nat := PLS_PHY.DETMIN.of w
def phyItxmin (w : Word) : Nat := PLS_PHY.ITXMIN.of w

/-- The slot that a train sends in half-cycle `pos`. -/
def Train.slot (t : Train) (pos : Nat) : Nat :=
  if pos < 32 * t.r then preambleSlot t.r pos else lineSymbol t.symbols t.r t.span (pos - 32 * t.r)

/-- The length of a train: preamble, data, flush. -/
def trainLength (r span symbols : Nat) : Nat := 32 * r + symbols * r + 56 * span

def Train.length (t : Train) : Nat := trainLength t.r t.span t.symbols.length

/-! ### Deciding symbols (R429, R431) -/

/-- The slot with the largest energy, or an erasure: none above the threshold, or the second above half the largest. -/
def decideSlot (detmin : Nat) (es : List Nat) : Option Nat :=
  let top := es.foldl max 0
  match es.findIdx? (· == top) with
  | none => none
  | some k =>
    let second := (es.eraseIdx k).foldl max 0
    if top < detmin ∨ top < 2 * second then none else some k

def addLists (a b : List Nat) : List Nat := List.zipWith (· + ·) a b

/-- The energies of the copies of symbol `i` that were not erased, summed (R431). -/
def copiesSum (line : List (Option (List Nat))) (r span i : Nat) : Option (List Nat) :=
  (List.range r).foldl (fun acc c =>
    match line.getD (lineIndex span (r * i + c)) none, acc with
    | some es, some sum => some (addLists sum es)
    | some es, none => some es
    | none, acc => acc) none

def decidedSymbol (detmin : Nat) (line : List (Option (List Nat))) (r span i : Nat) : Option Nat :=
  match copiesSum line r span i with
  | some es => decideSlot detmin es
  | none => none

/-- Coded bits in which two slots differ. -/
def slotDistance (a b : Nat) : Nat :=
  let bits (k : Nat) : Nat := if k = 2 then 3 else if k = 3 then 2 else k
  parity (Nat.xor (bits a) (bits b) % 2) + Nat.xor (bits a) (bits b) / 2

def obsDistance (o : Option Nat) (slot : Nat) : Nat :=
  match o with
  | none => 0
  | some k => slotDistance k slot

def minOpt : Option Nat → Option Nat → Option Nat
  | none, b => b
  | a, none => a
  | some a, some b => some (min a b)

/-- The least distance from the decided symbols of any path from state 0 to each state: the Viterbi decoder's metrics, an
erased symbol with metric 0. PRESUMED (log 13). -/
def viterbi (obs : List (Option Nat)) : List (Option Nat) :=
  obs.foldl (fun ms o => (List.range 64).map (fun t =>
    let x := t / 32
    let from' (st : Nat) : Option Nat := (ms.getD st none).map (· + obsDistance o (codedSlot st x))
    minOpt (from' (t % 32 * 2)) (from' (t % 32 * 2 + 1))))
    ((List.range 64).map (fun t => if t = 0 then some 0 else none))

/-- `bytes` is a most likely content of the decided symbols: a tie leaves the choice open. -/
def decodes (obs : List (Option Nat)) (bytes : List Byte) : Bool :=
  let mine := (List.zipWith obsDistance obs (frameSymbols bytes)).foldl (· + ·) 0
  (viterbi obs).getD 0 none == some mine

/-! ### Frames (R435, Table PLS-4) -/

def putBytes (bs : List Byte) (k : Nat) (new : List Byte) : List Byte := bs.take k ++ new ++ bs.drop (k + new.length)

/-- The CRC appended, high byte first. -/
def withCrc (bs : List Byte) : List Byte :=
  let c := crc16 bs
  bs ++ [BitVec.ofNat 8 (c / 256), BitVec.ofNat 8 c]

def crcGood (bs : List Byte) : Bool := decide (2 ≤ bs.length) && withCrc (bs.take (bs.length - 2)) == bs

/-- HCS over bytes 0 and 1. -/
def plsHcs (bs : List Byte) : List Byte := putBytes bs 2 [BitVec.ofNat 8 (crc8 (bs.take 2))]

structure PlsHeader where
  type : Nat
  sec : Bool
  more : Bool
  routing : Nat
  ackreq : Bool
  net : Nat
  dst : Nat
  src : Nat
  prev : Nat
  next : Nat
  ttl : Nat
  hops : Nat
  seq : Nat
  rcnt : Nat
  up : Bool
  ridx : Nat
  /-- Where SECHDR or the payload begins. -/
  body : Nat
  deriving DecidableEq, Repr

def plsHeader (bs : List Byte) : PlsHeader :=
  let fc := byteAt bs 0
  let routing := fc / 16 % 4
  let rt := byteAt bs 23
  { type := fc % 4, sec := fc.testBit 2, more := fc.testBit 3, routing, ackreq := fc.testBit 6, net := leAt bs 3 2,
    dst := leAt bs 5 4, src := leAt bs 9 4, prev := leAt bs 13 4, next := leAt bs 17 4, ttl := byteAt bs 21 % 16,
    hops := byteAt bs 21 / 16, seq := byteAt bs 22, rcnt := if routing = 1 then rt % 8 else 0, up := rt.testBit 3,
    ridx := rt / 16 % 8, body := if routing = 1 then 24 + 4 * (rt % 8) else 23 }

/-- Repeater `k` of a directed frame. -/
def plsRepeater (bs : List Byte) (k : Nat) : Nat := leAt bs (24 + 4 * k) 4

/-- The shape for the security scheme (Table SEC-2). -/
def plsShape (bs : List Byte) : FrameShape :=
  let h := plsHeader bs
  ⟨0, h.net, h.src, h.body, [(13, 4), (17, 4), (21, 1), (22, 1)], if h.routing = 1 then some 23 else none⟩

/-- A frame of this node before protection and CRC: 5 bytes stand for SECHDR where it is to be protected. -/
def State.plsPlain (s : State) (type routing : Nat) (sec ackreq : Bool) (dst next : Nat) (route payload : List Byte) : List Byte :=
  let len := 23 + route.length + payload.length + 2 + (if sec then 13 else 0)
  let fc := type + 4 * sec.toNat + 16 * routing + 64 * ackreq.toNat
  plsHcs ([BitVec.ofNat 8 fc, BitVec.ofNat 8 len, 0] ++ leBytes 2 (s.get PLS_CFG.NETID) ++ leBytes 4 dst
    ++ leBytes 4 (s.get PLS_ADDR.ADDR) ++ leBytes 4 (s.get PLS_ADDR.ADDR) ++ leBytes 4 next
    ++ [BitVec.ofNat 8 (s.get PLS_CFG.TTL), BitVec.ofNat 8 s.pls.seq] ++ route
    ++ (if sec then List.replicate 5 0 else []) ++ payload)

def broadcast : Nat := 0xFFFFFFFF

/-! ### Neighbours (R442, R452, R453) -/

def State.nbrFind (s : State) (addr : Nat) : Option Nat :=
  if addr = 0 then none else (List.range 32).find? (fun n => s.get (PLS_NBR_A.ADDR n) == addr)

def PlsNbr.blank (_ : Nat) : PlsNbr := ⟨0, 0, 0, false⟩
def State.plsNbr (s : State) (n : Nat) : PlsNbr := Sparse.get PlsNbr.blank s.pls.nbrs n
def State.setPlsNbr (s : State) (n : Nat) (x : PlsNbr) : State :=
  { s with pls := { s.pls with nbrs := Sparse.set PlsNbr.blank s.pls.nbrs n x } }

/-- LC of a neighbour follows f, d and R (R453). -/
def State.showLc (s : State) (n : Nat) : State :=
  let r := repeatOf (s.get (PLS_NBR_B.R n))
  let lc := r * (32 + s.get (PLS_NBR_B.F n)) * 256 / max (s.get (PLS_NBR_B.D n)) 16
  s.putTable (PLS_NBR_B.LC n) (min 4095 lc)

/-- A frame heard from `prev`: a new neighbour takes the lowest free place (R452). -/
def State.hearNeighbour (s : State) (prev : Nat) : State :=
  let s := s.needRegion 7
  match s.nbrFind prev with
  | some n => s.setPlsNbr n { s.plsNbr n with heard := s.time.aoTick }
  | none =>
    match (List.range 32).find? (fun n => s.get (PLS_NBR_A.ADDR n) == 0) with
    | none => s
    | some n =>
      let s := (s.putTable (PLS_NBR_A.ADDR n) prev).wrTable (PLS_NBR_B.addr n) (fun _ => 0)
      let s := ((s.putTable (PLS_NBR_B.D n) 128).putTable (PLS_NBR_B.R n) 1).showLc n
      (s.setPlsNbr n ⟨0, 0, s.time.aoTick, true⟩).raiseIf (s.on PLS_CFG.NETMODE) Ev.PLS_NBR_NEW

/-- f takes the share of one taken frame's half-cycles that were erased or wrong; the first one sets it. -/
def State.updateF (s : State) (prev wrong total : Nat) : State :=
  match s.nbrFind prev with
  | none => s
  | some n =>
    let ff : Int := ((256 * wrong / max total 1 : Nat) : Int)
    let f : Int := s.get (PLS_NBR_B.F n)
    let x := s.plsNbr n
    let f := if x.fresh then ff else f + (ff - f) / 8
    (State.putTable (s.setPlsNbr n { x with fresh := false }) (PLS_NBR_B.F n) (clampI 0 255 f).toNat).showLc n

/-- A train to `next` has ended: d, and R in automatic mode (R442, R453). -/
def State.trainOutcome (s : State) (next : Nat) (acked : Bool) : State :=
  match s.nbrFind next with
  | none => s
  | some n =>
    let d : Int := s.get (PLS_NBR_B.D n)
    let d := d + ((256 * acked.toNat : Nat) - d) / 8
    let s := (s.putTable (PLS_NBR_B.D n) (clampI 0 255 d).toNat).showLc n
    let x := s.plsNbr n
    let code := s.get (PLS_NBR_B.R n)
    if s.get PLS_PHY.RMODE ≠ 0 then s
    else if acked then
      if x.oks + 1 = 16 ∧ 1 < code then
        (((s.putTable (PLS_NBR_B.R n) (code - 1)).showLc n).setPlsNbr n { x with fails := 0, oks := 0 }).raise Ev.RATE_DOWN
      else s.setPlsNbr n { x with fails := 0, oks := min 16 (x.oks + 1) % 16 }
    else if x.fails + 1 = 2 ∧ code < 3 then
      (((s.putTable (PLS_NBR_B.R n) (code + 1)).showLc n).setPlsNbr n { x with fails := 0, oks := 0 }).raise Ev.RATE_UP
    else s.setPlsNbr n { x with fails := (x.fails + 1) % 2, oks := 0 }

/-- R for a train to `next` (R442). -/
def State.repetition (s : State) (next : Nat) : Nat :=
  if s.get PLS_PHY.RMODE ≠ 0 then repeatOf (s.get PLS_PHY.RMODE)
  else if next = broadcast then 6
  else match s.nbrFind next with
    | some n => repeatOf (s.get (PLS_NBR_B.R n))
    | none => 1

/-! ### Routes (R454, R455) -/

/-- Every route through `via` is marked broken, its sequence raised to an odd value. -/
def State.breakRoutes (s : State) (via : Nat) : State :=
  (List.range 128).foldl (fun s n =>
    if s.on (PLS_RT_C.VALID n) && !s.on (PLS_RT_C.BROKEN n) && s.get (PLS_RT_B.NEXT n) == via then
      let q := s.get (PLS_RT_C.SEQ n)
      let s := { s with pls := { s.pls with costMoved := true } }
      (s.putTable (PLS_RT_C.BROKEN n) 1).putTable (PLS_RT_C.SEQ n) ((q + 1 - q % 2) % 256)
    else s) s

/-- A route's cost changes from `old` to `new`: by more than one eighth it is advertised within a minute (R454). -/
def State.noteCost (s : State) (old new : Nat) : State :=
  let d := if old ≤ new then new - old else old - new
  if old < 8 * d then { s with pls := { s.pls with costMoved := true } } else s

/-- A route is stored. HOPS, which no advertisement carries, is an open value (log 36). -/
def State.setRoute (s : State) (n dest via cost seq : Nat) : State :=
  let s := s.noteCost (if s.on (PLS_RT_C.VALID n) then s.get (PLS_RT_C.COST n) else 0) cost
  let (hops, s) := s.fresh
  let s := (s.putTable (PLS_RT_A.DEST n) dest).putTable (PLS_RT_B.NEXT n) via
  s.wrTable (PLS_RT_C.addr n) (fun _ => BitVec.ofNat 32 (cost + 65536 * seq + 2 ^ 24 * (hops.toNat % 16) + 2 ^ 28))

/-- One entry of a route advertisement from the neighbour `via`, by the procedure of R454. -/
def State.takeRoute (s : State) (via lc : Nat) (entry : List Byte) : State :=
  let dest := leAt entry 0 4
  let c := min 65535 (leAt entry 4 2 + lc)
  let seq := byteAt entry 6
  match (List.range 128).find? (fun n => s.on (PLS_RT_C.VALID n) && s.get (PLS_RT_A.DEST n) == dest) with
  | none =>
    let free := (List.range 128).find? (fun n => !s.on (PLS_RT_C.VALID n))
    let worst := (List.range 128).foldl (fun m n => if s.get (PLS_RT_C.COST m) < s.get (PLS_RT_C.COST n) then n else m) 0
    match free with
    | some n => (s.setRoute n dest via c seq).raise Ev.ROUTE_CHANGE
    | none =>
      if c < s.get (PLS_RT_C.COST worst) then (s.setRoute worst dest via c seq).raise Ev.ROUTE_CHANGE else s.raise Ev.ROUTE_FULL
  | some n =>
    let eseq := s.get (PLS_RT_C.SEQ n)
    let δ := (seq + 256 - eseq) % 256
    if 1 ≤ δ ∧ δ ≤ 127 then (s.setRoute n dest via c seq).raise Ev.ROUTE_CHANGE
    else if δ = 0 ∧ (via = s.get (PLS_RT_B.NEXT n) ∨ c + c / 8 < s.get (PLS_RT_C.COST n)) then
      ((s.noteCost (s.get (PLS_RT_C.COST n)) c).putTable (PLS_RT_B.NEXT n) via).putTable (PLS_RT_C.COST n) c
    else s

/-- Pieces of `n` bytes. -/
def piecesOf (n : Nat) : Nat → List Byte → List (List Byte)
  | 0, _ => []
  | k + 1, bs => if bs.isEmpty then [] else bs.take n :: piecesOf n k (bs.drop n)

/-- The next hop of a destination in mesh mode: a valid route below the cost that means unreachable. -/
def State.meshHop (s : State) (dst : Nat) : Option Nat :=
  if dst = broadcast then some broadcast
  else match s.routeOf dst with
    | some n => if s.get (PLS_RT_C.COST n) < 65535 then some (s.get (PLS_RT_B.NEXT n)) else none
    | none => none

/-! ### Candidates (R449, R451) -/

def State.candFind (s : State) (dst : Nat) : Option Nat :=
  if dst = 0 then none else (List.range 64).find? (fun d => s.get (PLS_CAND_DEST.DEST d) == dst)

/-- The candidate of destination `d` with the lowest score; one whose score is 0 has not been written. -/
def State.bestCand (s : State) (d : Nat) : Option Nat :=
  minBy (fun r => s.get (PLS_CAND_S.SCORE d r)) ((List.range 4).filter (fun r => s.get (PLS_CAND_S.SCORE d r) != 0))

def State.candReps (s : State) (d r : Nat) : List Nat :=
  ([s.get (PLS_CAND_REP0.REP d r), s.get (PLS_CAND_REP1.REP d r), s.get (PLS_CAND_REP2.REP d r),
    s.get (PLS_CAND_REP3.REP d r)]).take (s.get (PLS_CAND_S.RCNT d r))

/-- A score changes; CAND_SWITCH where the lowest-scored candidate changes with it. -/
def State.setScore (s : State) (d r v : Nat) : State :=
  let t := s.putTable (PLS_CAND_S.SCORE d r) (min 65535 v)
  t.raiseIf (t.bestCand d != s.bestCand d) Ev.CAND_SWITCH

/-- The head-end's frame by candidate `r` of destination `d` is acknowledged end to end, or has failed (R451). DEDUCED (log 36). -/
def State.scoreGood (s : State) (d r : Nat) : State :=
  let v := s.get (PLS_CAND_S.SCORE d r)
  s.setScore d r (max (32 * (s.get (PLS_CAND_S.RCNT d r) + 1)) (v - v / 8))

def State.scoreBad (s : State) (d r : Nat) : State :=
  let v := s.get (PLS_CAND_S.SCORE d r)
  s.setScore d r (v + v / 2)

/-- The ROUTE field. -/
def routeBytes (up : Bool) (reps : List Nat) : List Byte :=
  BitVec.ofNat 8 (reps.length + 8 * up.toNat) :: reps.flatMap (leBytes 4)

/-- ROUTING, ROUTE and NEXT of an own frame to `dst`: none where a mesh frame has no valid route (R449, R450, R455). -/
def State.routeFor (s : State) (dst : Nat) : Option (Nat × List Byte × Nat) :=
  if dst = broadcast then some (0, [], broadcast)
  else if s.on PLS_CFG.NETMODE then (s.meshHop dst).map (fun n => (2, [], n))
  else if s.on PLS_CFG.ROLE then
    match s.candFind dst with
    | none => some (0, [], dst)
    | some d =>
      match s.bestCand d with
      | none => some (0, [], dst)
      | some r => some (1, routeBytes false (s.candReps d r), (s.candReps d r).headD dst)
  else match s.pls.upRoute with
    | some (head, reps) => if head = dst then some (1, routeBytes true reps, reps.headD dst) else some (0, [], dst)
    | none => some (0, [], dst)

/-! ### Trains -/

def State.showPls (s : State) : State :=
  let active := match s.pls.train with
    | some t => t.stage == .sending
    | none => false
  let r := match s.pls.train with
    | some t => if t.stage == .sending then codeOf t.r else 0
    | none => 0
  let count (t : Option Train) : Nat := match t with
    | some t => (t.frames.filter (fun f => !f.relay)).length
    | none => 0
  let own := s.pls.own.length + count s.pls.train + count s.pls.held
  let s := ((s.putB PLS_STAT.TXACT active).putB PLS_STAT.RXACT s.pls.rx.isSome).put PLS_STAT.RCUR r
  (s.put PLS_STAT.QOWN (min 255 own)).put PLS_STAT.QRELAY s.pls.relays.length

/-- A frame that was not acknowledged is handed back to NWC: sent again up to RETRY times, then counted, its routes broken in
mesh mode, its candidate's score worsened at the head-end, and returned to its service (R441, R451, R455). -/
def State.plsBack (s : State) (f : OutFrame) : State :=
  if f.tries < s.get PLS_MAC.RETRY then
    let f := { f with tries := f.tries + 1 }
    if f.relay then { s with pls := { s.pls with relays := f :: s.pls.relays } }
    else { s with pls := { s.pls with own := f :: s.pls.own } }
  else
    let s := (s.bump PLS_CNT2.NOACK).raise Ev.PLS_NO_ACK
    let s := if s.on PLS_CFG.NETMODE then ((s.needRegion 7).breakRoutes f.next).raise Ev.ROUTE_BROKEN
      else if s.on PLS_CFG.ROLE && !f.relay then
        let dst := (plsHeader f.plain).dst
        match s.candFind dst, Sparse.find s.pls.awaited dst with
        | some d, some r => State.scoreBad { s with pls := { s.pls with awaited := Sparse.erase s.pls.awaited dst } } d r
        | _, _ => s
      else s
    s.serviceBack f.service

/-- The frames of a train handed back, so that they keep their order. -/
def State.plsBackAll (s : State) (fs : List OutFrame) : State := fs.reverse.foldl State.plsBack s

/-- The train being sent is abandoned and counted, and its frames return to NWC, as do those of a train that awaits its
acknowledgement; the own train that an acknowledgement train held back stands again (R428, R446, R448). -/
def State.abandonTrain (s : State) : State :=
  match s.pls.train with
  | some t =>
    if t.stage = .backoff then s
    else
      let s := { s with pls := { s.pls with train := if t.ack then s.pls.held else none, held := if t.ack then none else s.pls.held,
                                            gap := 0, pulse := none } }
      let s := (if t.stage = .sending then s.bump PLS_CNT0.ABANDONED else s).put PLS_STAT.PAUSED 0
      (if t.ack then s else s.plsBackAll t.frames).showPls
  | none => s

/-- Freeze, power-fail declaration and VIO_L loss: every train being sent or received is abandoned, and PZD go low (R448). -/
def State.plsStop (s : State) : State :=
  let s := s.abandonTrain.abandonTrain
  State.showPls { s with pls := { s.pls with rx := none, ackDue := none, pulse := none, recent := 0, quiet := 0, idle := 0,
                                             counted := 0, holdBusy := false } }

/-- Power-line signalling is enabled, on a chip that runs. -/
def State.plsEnabled (s : State) : Bool := s.netRunning && !s.pod && s.on PLS_CFG.EN

/-- The phase samplers and the symbol engine run (CD36 to CD39, R139). -/
def State.plsRunning (s : State) : Bool := s.plsEnabled && !s.on CLK_STAT.SYSSRC

/-- The medium is busy (R438). -/
def State.mediumBusy (s : State) : Bool :=
  s.pls.rx.isSome || s.pls.holdBusy || decide (4 ≤ (List.range 8).foldl (fun n k => n + s.pls.recent / 2 ^ k % 2) 0)

/-- A relay frame joins its queue of 8; the oldest is dropped for a ninth (R444). -/
def State.plsRelay (s : State) (f : OutFrame) : State :=
  let full := s.pls.relays.length == 8
  let q := if full then s.pls.relays.drop 1 else s.pls.relays
  let s := { s with pls := { s.pls with relays := q ++ [f] } }
  if full then (s.bump PLS_CNT3.RELAYDROP).raise Ev.PLS_RELAY_DROP else s

/-- The next link sequence. -/
def State.nextSeq (s : State) : State := { s with pls := { s.pls with seq := (s.pls.seq + 1) % 256 } }

/-- A lease that `i` holds is released by it (R34). -/
def State.giveUpLease (s : State) (i k : Nat) : State :=
  if (s.lease k).holder = some i then (s.passLease k).setLeaseResult i 5 else s

end Sys2Proof.Machine
end

