-- ==== Sys2Proof/Machine/RadCore.lean ====
section
/-! DEFINITION. The radio (chapter 16): frames, sequence numbers and windows, the neighbour table, the seen-cache, the duty budget,
and the frame in hand. -/

namespace Sys2Proof.Machine

/-! ### Frames (R465 to R467) -/

structure GauzeHeader where
  type : Nat
  sec : Bool
  ackreq : Bool
  rsd : Bool
  net : Nat
  src : Nat
  dst : Nat
  prev : Nat
  next : Nat
  seq : Nat
  oseq : Nat
  ttl : Nat
  hops : Nat
  deriving DecidableEq, Repr

def gauzeHeader (bs : List Byte) : GauzeHeader :=
  let fc := byteAt bs 0
  { type := fc % 4, sec := fc.testBit 2, ackreq := fc.testBit 3, rsd := fc.testBit 4, net := leAt bs 2 2, src := leAt bs 4 4,
    dst := leAt bs 8 4, prev := leAt bs 12 4, next := leAt bs 16 4, seq := leAt bs 20 2, oseq := leAt bs 22 2,
    ttl := byteAt bs 24 % 16, hops := byteAt bs 24 / 16 }

def gauzeShape (bs : List Byte) : FrameShape :=
  ⟨1, leAt bs 2 2, leAt bs 4 4, 25, [(12, 4), (16, 4), (20, 2), (24, 1)], none⟩

/-- Airtime of a frame of `len` bytes, µs (R461). -/
def gauzeAir (len : Nat) : Nat := (8 + len) * 160

/-- Airtime of an acknowledgement of 9 bytes and of a Glint pattern of 80 bits, µs (R466, R479). -/
def ackAir : Nat := gauzeAir 9
def glintAir : Nat := 156250

/-! ### On the air (R460, R461, R466, R479) -/

/-- The centre of channel `k` in kHz (Table RAD-1). -/
def channelKhz (band k : Nat) : Nat := if band = 0 then 863125 + 250 * k else 902250 + 500 * k

/-- Bits of the PN9 sequence of x^9 + x^5 + 1 from a register state, which R461 seeds with 0x1FF. DEDUCED (log 14): the output is the register's low
bit, and the sequence's bits meet the frame's in the order in which these are sent. -/
def pn9 : Nat → Nat → List Nat
  | 0, _ => []
  | n + 1, st => st % 2 :: pn9 n (st / 2 + 256 * ((st + st / 32) % 2))

/-- Bytes from bits, most significant first. -/
def bitsByte (bs : List Nat) : Byte := BitVec.ofNat 8 (bs.foldl (fun n b => 2 * n + b) 0)

/-- The frame bytes whitened. -/
def whiten (bs : List Byte) : List Byte :=
  let seq := pn9 (8 * bs.length) 0x1FF
  ((List.range bs.length).zip bs).map (fun (k, b) => b ^^^ bitsByte ((seq.drop (8 * k)).take 8))

/-- A Gauze frame on the air: preamble, sync word, whitened frame (R461). -/
def gauzeOnAir (frame : List Byte) : List Byte := [0x55, 0x55, 0x55, 0x55, 0x93, 0x0B, 0x51, 0xDE] ++ whiten frame

/-- The Glint pattern of an address: 80 bits, most significant first (R479). -/
def glintPattern (net addr : Nat) : List Byte :=
  let body := BitVec.ofNat 8 net :: (leBytes 4 addr).reverse
  [0xAA, 0xAA, 0x9E, 0x4B] ++ body ++ [BitVec.ofNat 8 (crc8 body)]

/-- The next TXSEQ or OSEQ, from vault word 0x280; a value taken is never used again (R467, Table SEC-3). -/
def State.takeTxSeq (s : State) : Nat × State :=
  let w := (s.vaultWord 0x280).toNat
  (w % 65536, s.setVaultNat 0x280 (w / 65536 * 65536 + (w + 1) % 65536))

def State.takeOSeq (s : State) : Nat × State :=
  let w := (s.vaultWord 0x280).toNat
  (w / 65536, s.setVaultNat 0x280 ((w / 65536 + 1) % 65536 * 65536 + w % 65536))

/-! ### What runs -/

/-- The radio runs: step 6, EN, and HFXO and SPLL good (R486, R487). -/
def State.radioRunning (s : State) : Bool := s.netRunning && s.on RAD_CFG.EN && !s.on CLK_STAT.SYSSRC

def State.radioSending (s : State) : Bool :=
  (match s.rad.active with
   | some (_, .glint) => true
   | some (_, .sending) => true
   | _ => false) || (match s.rad.ack with
   | some a => a.sending
   | none => false)

/-- The receiver is open: in a hub whenever it does not send, in a pod in its windows (R481). -/
def State.radioOpen (s : State) : Bool :=
  s.radioRunning && !s.radioSending && (!s.pod || s.rad.window || s.rad.wmbWindow || (match s.rad.active with
    | some (_, .ackWait) => true
    | _ => false))

def State.seenLife (s : State) : Nat := s.get MSH_CFG.SEENLIFE * 1024

/-- The cache entries that are not free (R483). -/
def State.seenNow (s : State) : List SeenEntry :=
  s.rad.seen.filter (fun e => decide (s.time.aoTick ≤ e.tick + s.seenLife))

def State.showRadio (s : State) : State :=
  let s := (s.putB RAD_STAT.TXACT s.radioSending).putB RAD_STAT.RXACT s.radioOpen
  let s := s.putB RAD_STAT.DEFER ((s.rad.own ++ s.rad.relays).any (fun f => f.deferred.isSome))
  ((s.put MSH_STAT.QOWN s.rad.own.length).put MSH_STAT.QRELAY s.rad.relays.length).put MSH_STAT.SEEN s.seenNow.length

/-! ### Duty budget (R477) -/

/-- Transmit time of the last 3,600 s, µs. -/
def State.dutyUsed (s : State) : Nat :=
  s.rad.duty.foldl (fun n (e : Nat × Nat) => if s.time.aoTick < e.1 + 3686400 then n + e.2 else n) 0

/-- A transmission of `us` µs counts. -/
def State.dutyAdd (s : State) (us : Nat) : State :=
  let keep := s.rad.duty.filter (fun e => decide (s.time.aoTick < e.1 + 3686400))
  let s := { s with rad := { s.rad with duty := keep ++ [(s.time.aoTick, us)] } }
  s.put RAD_DUTY.USED (min 65535 (s.dutyUsed / 100000))

def State.dutyFits (s : State) (us : Nat) : Bool :=
  s.get RAD_DUTY.BUDGET == 0 || decide (s.dutyUsed + us ≤ s.get RAD_DUTY.BUDGET * 100000)

/-! ### The queues (R473, R485) -/

def State.radFrame (s : State) (id : Nat) : Option RadFrame := (s.rad.own ++ s.rad.relays).find? (fun f => f.id == id)

/-- The frame of that number, changed. -/
def State.setRadFrame (s : State) (g : RadFrame) : State :=
  let set (q : List RadFrame) : List RadFrame := q.map (fun f => if f.id == g.id then g else f)
  { s with rad := { s.rad with own := set s.rad.own, relays := set s.rad.relays } }

def State.dropRadFrame (s : State) (id : Nat) : State :=
  { s with rad := { s.rad with own := s.rad.own.filter (fun f => f.id != id), relays := s.rad.relays.filter (fun f => f.id != id) } }

/-- The frames that may start, by rank: replies, WAKE frames, other own frames, relays whose delay has run out (R473). -/
def State.radCandidates (s : State) : List RadFrame :=
  let own := s.rad.own.filter (fun f => f.held.isNone && !f.f.bytes.isEmpty && f.deferred.isNone)
  own.filter (fun f => f.reply) ++ own.filter (fun f => f.wake && !f.reply) ++ own.filter (fun f => !f.wake && !f.reply)
    ++ s.rad.relays.filter (fun f => !f.delay && f.deferred.isNone)

/-- Frame `id` enters a stage now. -/
def State.radStage (s : State) (id : Nat) (st : RadStage) : State :=
  { s with rad := { s.rad with active := some (id, st), stageAt := s.time.runCyc } }

/-- So many µs of the Twill clock have passed since the Run cycle `from_`. -/
def State.passed (s : State) (from_ us : Nat) : Bool := hasCome (s.time.runCyc - from_) us

/-- BE of a first assessment of a try (R474). -/
def State.firstBe (s : State) (tries : Nat) : Nat := min (s.get RAD_CCA.BEMAX) (s.get RAD_CCA.BEMIN + tries)

/-- A frame that will not be sent again: an own frame returns to NWC with NO_ACK, a relay is dropped (R476). -/
def State.radGiveUp (s : State) (f : RadFrame) : State :=
  let s := s.dropRadFrame f.id
  if f.f.relay then s else ((s.bump RAD_CNT2.NOACK).raise Ev.RAD_NO_ACK).serviceBack f.f.service

/-- A try has failed: another one, up to RETRY further ones (R476). -/
def State.radTryFailed (s : State) (f : RadFrame) : State :=
  let s := { s with rad := { s.rad with active := none } }
  if f.f.tries < s.get RAD_CCA.RETRY then
    s.setRadFrame { f with f := { f.f with tries := f.f.tries + 1 }, be := s.firstBe (f.f.tries + 1), busy := 0 }
  else s.radGiveUp f

/-- A relay joins its queue of 24; the oldest is dropped for a 25th (R485). -/
def State.radRelay (s : State) (f : RadFrame) : State :=
  let full := s.rad.relays.length == 24
  let q := if full then s.rad.relays.drop 1 else s.rad.relays
  let s := { s with rad := { s.rad with relays := q ++ [f] } }
  (if full then (s.bump MSH_CNT0.RELAYDROP).raise Ev.RELAY_DROP else s).raise Ev.RELAY_QUEUED

/-- Relays that wait while an own frame is sent ahead of them are counted once (R485). -/
def State.countRelayDelay (s : State) : State :=
  let late := (s.rad.relays.filter (fun f => !f.f.delayed)).length
  let s := { s with rad := { s.rad with relays := s.rad.relays.map (fun (g : RadFrame) => { g with f := { g.f with delayed := true } }) } }
  (s.bumpBy MSH_CNT0.RELAYDELAY late).raiseIf (late != 0) Ev.RELAY_DELAY

/-! ### EN 13757-4 (R463). PRESUMED (log 41): the CRC and the blocks of frame formats A and B are the standard's -/

/-- CRC-16 of the data link layer, sent high byte first. -/
def enCrc (bs : List Byte) : List Byte :=
  let c := Nat.xor (bs.foldl (fun c b => crcStepMsb 16 0x3D65 8 (Nat.xor c (b.toNat * 256))) 0) 0xFFFF
  [BitVec.ofNat 8 (c / 256), BitVec.ofNat 8 c]

/-- Blocks of 16 bytes, each with its CRC. -/
def enBlocks : Nat → List Byte → List Byte
  | 0, _ => []
  | _, [] => []
  | n + 1, bs => bs.take 16 ++ enCrc (bs.take 16) ++ enBlocks n (bs.drop 16)

/-- A telegram from its L field with its CRC blocks: format A, a block of 10 bytes and blocks of 16; format B, one CRC over all, which L counts. -/
def enTelegram (formatB : Bool) (bs : List Byte) : List Byte :=
  if formatB then
    let bs := BitVec.ofNat 8 (byteAt bs 0 + 2) :: bs.drop 1
    bs ++ enCrc bs
  else bs.take 10 ++ enCrc (bs.take 10) ++ enBlocks bs.length (bs.drop 10)

/-- Format B: MODE C1 or C2 with FMT 1 (Table RAD-2). -/
def State.formatB (s : State) : Bool := [6, 7].contains (s.get RAD_WMB.MODE) && s.on RAD_WMB.FMT

/-! ### Protection (R498, R499, R506) -/

/-- AES in CBC mode through the general port (R497). -/
def cbcEncrypt (keys : List (List Nat)) : List Nat → List (List Nat) → List Nat
  | _, [] => []
  | prev, b :: bs =>
    let c := aesBlock keys (xorBytes prev b)
    c ++ cbcEncrypt keys c bs

/-- A telegram from its initialisation vector, its 15 bytes through the short header, and two blocks of data (R497). -/
def State.sealTelegram (s : State) (n : Nat) (plain : List Byte) : List Byte :=
  let data := byteNats (plain.drop 31)
  (plain.drop 16).take 15 ++ natBytes (cbcEncrypt (aesKeys (s.slotKey n)) (byteNats (plain.take 16)) [data.take 16, data.drop 16])

/-- An own frame without its protection takes a counter, waits for RESV_STORED, or goes back to its service. -/
def State.radProtect (s : State) (f : RadFrame) : State :=
  match f.f.slot with
  | none => s.setRadFrame { f with f := { f.f with bytes := withCrc f.f.plain } }
  | some n =>
    match s.takeCounter n (if f.wmb then 3 else 1) with
    | (.taken c, s) =>
      let bytes := if f.wmb then enTelegram s.formatB (s.sealTelegram n f.f.plain) else withCrc (s.protect (gauzeShape f.f.plain) n c f.f.plain)
      s.setRadFrame { f with f := { f.f with bytes := bytes } }
    | (.wait, s) => s
    | (.refused, s) => (s.dropRadFrame f.id).serviceBack f.f.service

/-- Every own frame that still lacks its protection is tried. -/
def State.radProtectAll (s : State) : State :=
  (s.rad.own.filter (fun f => f.f.bytes.isEmpty)).foldl State.radProtect s

/-- The radio stops every transmission and reception at once: an own frame in hand keeps its place and its tries and takes a new
SEQ, a relay being sent is dropped, cancelled back-offs begin again (R486). -/
def State.radStop (s : State) : State :=
  let hand : Option (RadFrame × RadStage) := s.rad.active.bind (fun a => (s.radFrame a.1).map (fun f => (f, a.2)))
  let s := { s with rad := { s.rad with active := none, ack := none, follow := none, window := false, wmbWindow := false } }
  let s := match hand with
    | none => s
    | some (f, stage) =>
      if stage == RadStage.cca then s
      else if f.f.relay then (s.dropRadFrame f.id).bump MSH_CNT0.RELAYDROP
      else if f.wmb then s
      else
        let (q, s) := s.takeTxSeq
        let bytes := withCrc (putBytes (f.f.bytes.take (f.f.bytes.length - 2)) 20 (leBytes 2 q))
        s.setRadFrame { f with f := { f.f with bytes := bytes, plain := putBytes f.f.plain 20 (leBytes 2 q) } }
  let again (q : List RadFrame) : List RadFrame := q.map (fun f => { f with be := s.firstBe f.f.tries, busy := 0 })
  State.showRadio { s with rad := { s.rad with own := again s.rad.own, relays := again s.rad.relays } }

/-! ### Neighbours and windows (R469, R470) -/

def RadNbr.blank (_ : Nat) : RadNbr := ⟨0, 0⟩
def State.radNbr (s : State) (n : Nat) : RadNbr := Sparse.get RadNbr.blank s.rad.nbrs n

def State.meshFind (s : State) (addr : Nat) : Option Nat :=
  if addr = 0 then none else (List.range 320).find? (fun n => s.get (MSH_NBR_A.ADDR n) == addr)

/-- What step 5 says of a SEQ (R469). -/
inductive SeqTest where
  | fresh | ahead (δ : Nat) | behind (β : Nat) | dup | old
  deriving DecidableEq, Repr

def State.seqTest (s : State) (prev seq : Nat) : SeqTest :=
  match s.meshFind prev with
  | none => .fresh
  | some n =>
    let h := s.get (MSH_NBR_B.H n)
    let δ := (seq + 65536 - h) % 65536
    let β := (h + 65536 - seq) % 65536
    if 1 ≤ δ ∧ δ ≤ 32767 then .ahead δ
    else if β ≤ 31 then (if (s.radNbr n).window.testBit β then .dup else .behind β)
    else .old

/-- Entry `n` heard now, at the given level, with H and W. -/
def State.setMeshNbr (s : State) (n h w rssi : Nat) : State :=
  let s := { s with rad := { s.rad with nbrs := Sparse.set RadNbr.blank s.rad.nbrs n ⟨w, s.time.aoTick⟩ } }
  (s.put (MSH_NBR_B.H n) h).put (MSH_NBR_B.RSSI n) rssi

/-- The place for a new neighbour: a free entry, or the one heard from least recently, which is evicted. -/
def State.meshPlace (s : State) : Nat × Bool :=
  match (List.range 320).find? (fun n => s.get (MSH_NBR_A.ADDR n) == 0) with
  | some n => (n, false)
  | none => ((minBy (fun n => (s.radNbr n).heard) (List.range 320)).getD 0, true)

/-- Step 7: the window follows an accepted frame. -/
def State.moveWindow (s : State) (prev seq rssi : Nat) (rsd : Bool) (t : SeqTest) : State :=
  match s.meshFind prev with
  | none =>
    let (n, evict) := s.meshPlace
    let s := if evict then (s.bump MSH_CNT3.NBREVICT).raise Ev.NBR_EVICT else s
    let s := ((s.put (MSH_NBR_A.ADDR n) prev).setMeshNbr n seq 1 rssi).raise Ev.NBR_NEW
    if rsd then (s.bump MSH_CNT3.RESEED).raise Ev.RESEED else s
  | some n =>
    let w := (s.radNbr n).window
    let h := s.get (MSH_NBR_B.H n)
    if rsd then ((s.setMeshNbr n seq 1 rssi).bump MSH_CNT3.RESEED).raise Ev.RESEED
    else match t with
      | .ahead δ => s.setMeshNbr n seq ((if δ < 32 then w * 2 ^ δ % 2 ^ 32 else 0) ||| 1) rssi
      | .behind β => s.setMeshNbr n h (w ||| 2 ^ β) rssi
      | _ => s.setMeshNbr n h w rssi

/-! ### The seen-cache (R483, R484) -/

def State.seenFind (s : State) (src oseq : Nat) : Option SeenEntry := s.seenNow.find? (fun e => e.src == src && e.oseq == oseq)

/-- A new entry; where none of the 128 is free the oldest is replaced and counted. -/
def State.seenAdd (s : State) (src oseq : Nat) : State :=
  let now := s.seenNow
  let full := now.length == 128
  let keep := if full then now.drop 1 else now
  let s := { s with rad := { s.rad with seen := keep ++ [⟨src, oseq, s.time.aoTick, 1⟩] } }
  if full then s.bump MSH_CNT3.SEENEVICT else s

/-- A further copy: at SUPP copies a waiting relay of it is cancelled and counted. -/
def State.seenCopy (s : State) (e : SeenEntry) : State :=
  let c := e.copies + 1
  let s := { s with rad := { s.rad with seen := s.rad.seen.map (fun (x : SeenEntry) => if x = e then { x with copies := c } else x) } }
  match s.rad.relays.find? (fun f => f.src == e.src && f.oseq == e.oseq) with
  | some f =>
    if s.get MSH_CFG.SUPP ≤ c ∧ s.rad.active.map Prod.fst ≠ some f.id then
      ((s.dropRadFrame f.id).bump MSH_CNT1.SUPPRESSED).raise Ev.SUPPRESSED
    else s
  | none => s

end Sys2Proof.Machine
end

