-- ==== Sys2Proof/Machine/Concentrator.lean ====
section
/-! DEFINITION. The commands of the concentrator, the gateway and the pod's report service (chapter 19). -/

namespace Sys2Proof.Machine

/-- A delivered message of a CTYPE for the concentrator. -/
def State.conTake (s : State) (types : List Nat) : Option (Delivery × State) :=
  if s.conRuns then (s.needRegion 8).takeMessage (fun d => types.contains (msgType d.payload)) else none

/-! ### The pod's side (R536 to R538) -/

/-- A report is due: the interval from METER_READY, or from the latest report of the interval, has run out, or a FLAGS bit 0, 1 or 4 has risen (R536).
DEDUCED (log 17): the first report of a start is due at METER_READY. -/
def State.reportIsDue (s : State) : Bool :=
  (match s.con.reportAt with
   | some t => decide (t ≤ s.time.aoTick)
   | none => true) || s.standingFlags &&& (255 - s.con.seenFlags) != 0

/-- The interval's next report. -/
def State.reportTaken (s : State) : State :=
  let rpt := s.get CON_PCFG.RPT * 61440
  let next := match s.con.reportAt with
    | some t => if s.time.aoTick < t then t else t + ((s.time.aoTick - t) / rpt + 1) * rpt
    | none => s.time.aoTick + rpt
  { s with con := { s.con with reportAt := some next, seenFlags := s.standingFlags } }

/-- REPORT_DUE: the interval has run out, or a flag rose: a JOIN, or a REPORT with the new record last and the oldest ones not
acknowledged before it. -/
def execReportDue (s : State) : Out :=
  if !s.pod || !s.on CON_PCFG.EN || !s.boot.steps.testBit 5 || !s.boot.steps.testBit 4 || s.mode != .run || s.umb.frozen || s.shed || !s.coreUp 1
      || !s.reportIsDue then go s
  else
    let s := s.reportTaken
    let own := s.get RAD_ADDR.ADDR
    let s := s.needRegion 8
    let send (s : State) (payload : List Byte) (listen : Bool) (v : Service) : State :=
      s.handToNwc ⟨1, s.get CON_PHUB.ADDR, payload, s.serviceSlot 1, true, false, false, listen, v⟩
    if !s.on CON_PSTAT.JOINED then
      let body := BitVec.ofNat 8 (s.get CON_PCFG.QTY) :: leBytes 2 (s.get CON_PSTAT.RSEQ)
      go (send s (conMessage 0x01 false own body) true .join)
    else
      let q := (s.get CON_PSTAT.RSEQ + 1) % 65536
      let s := s.putTable CON_PSTAT.RSEQ q
      let s := if q % 64 = 0 then s.requestStore 8 else s
      let rec' := (q, s.readingRecord q)
      let old := s.con.unacked.take (s.get CON_PCFG.NRECS - 1)
      let all := s.con.unacked ++ [rec']
      let kept := all.drop (all.length - 8)
      let s := State.showUnacked { s with con := { s.con with unacked := kept, since := 0, lastRecord := rec'.2 } }
      let rs := old ++ [rec']
      go ((send s (conMessage 0x03 false own (rs.flatMap Prod.snd)) false (.report (rs.map Prod.fst))).raise Ev.REPORT_SENT)

/-- JOIN_RESP: ACCEPTED joins the pod; CLOSED and CAPACITY leave it unjoined. -/
def execPodJoinResp (s : State) : Out :=
  if !s.pod || !s.netRunning then go s
  else match s.takeMessage (fun d => msgType d.payload == 0x02 && decide (7 ≤ d.payload.length)) with
    | none => go s
    | some (d, s) =>
      if byteAt d.payload 6 = 0 then go ((s.put CON_PSTAT.JOINED 1).raise Ev.JOIN_OK) else go (s.raise Ev.JOIN_REFUSED)

/-! ### Joining (R540, R541) -/

/-- JOIN_RESP goes to the pod with REPLY 1 and WAKE 0. -/
def State.joinAnswer (s : State) (d : Delivery) (code : Nat) : State :=
  s.handToNwc ⟨1, d.src, conMessage 0x02 false (msgPod d.payload) [BitVec.ofNat 8 code], d.slot, false, false, true, false, .plain⟩

/-- JOIN: a pod of the table is accepted in place; otherwise it is refused while joins are closed or 250 entries are in use, or
takes the lowest free entry. -/
def execPodJoin (s : State) : Out :=
  match s.conTake [0x01] with
  | none => go s
  | some (d, s) =>
    let ctr := if d.slot.isSome then d.ctr else 0
    match s.podFind d.src with
    | some n =>
      let s := if s.get (CON_POD_H.H n) < ctr then s.putTable (CON_POD_H.H n) ctr else s
      go (s.joinAnswer d 0)
    | none =>
      if !s.on CON_CFG.OPEN then go (s.joinAnswer d 1)
      else match (List.range 250).find? (fun n => s.get (CON_POD_ST.STATE n) == 0) with
        | none => go (((s.bump CON_CNT1.CAPREF).raise Ev.JOIN_REFUSED).joinAnswer d 2)
        | some n =>
          let body := msgBody d.payload
          let s := s.putTable (CON_POD_ADDR.ADDR n) d.src
          let st := d.slot.getD 0 + 64 + 256 * (byteAt body 0 % 4)
          let s := s.wrTable (CON_POD_ST.addr n) (fun _ => BitVec.ofNat 32 st)
          let s := (s.putTable (CON_POD_H.H n) ctr).wrTable (CON_POD_SEQ.addr n) (fun _ => BitVec.ofNat 32 (leAt body 1 2))
          go ((((s.podHeard n).setRecords n []).showPods.raise Ev.POD_JOINED).joinAnswer d 0)

/-- An entry is freed, with its records (R541). -/
def State.freePod (s : State) (n : Nat) : State :=
  let s := (List.range 6).foldl (fun s w => s.wrTable (CON_POD_ADDR.addr n + w) (fun _ => 0)) s
  let s := { s with con := { s.con with lastFlags := Sparse.erase s.con.lastFlags n } }
  (s.setRecords n []).showPods

/-- POD_REMOVE. -/
def execPodRemove (s : State) : Out :=
  match s.conTake [0x13] with
  | none => go s
  | some (d, s) =>
    match s.podFind (msgPod d.payload) with
    | some n => go (s.freePod n)
    | none => go s

/-- CON_CMD.REMOVE frees entry `n`. -/
def State.conRemove (s : State) (n : Nat) : State :=
  if !s.pod && decide (n < 250) then (s.needRegion 8).freePod n else s

/-- CON_CMD_REMOVE: REMOVE frees entry INDEX. -/
def execConCmdRemove (index : BitVec 8) (s : State) : Out :=
  s.onTwill (fun s => s.conRemove index.toNat)

/-- POD_SILENT: a pod unheard for SILENTH hours. -/
def execPodSilent (n : Fin 250) (s : State) : Out :=
  let s := s.needRegion 8
  let last := s.get (CON_POD_LAST.T_LO n.val) + 2 ^ 32 * s.get (CON_POD_LAST_H.T_HI n.val)
  if s.conRuns && s.get (CON_POD_ST.STATE n.val) == 1 && decide (last + s.get CON_CFG.SILENTH * 3686400 ≤ s.time.rtc.toNat) then
    go ((s.putTable (CON_POD_ST.STATE n.val) 2).raise Ev.POD_SILENT)
  else go s

/-! ### Readings (R542) -/

/-- A record of a REPORT: newer than the newest one it is stored, over the oldest where 96 stand, and an ALARM goes out where its
FLAGS rose; otherwise it is counted. -/
def State.storeRecord (s : State) (n : Nat) (bytes : List Byte) : State :=
  let q := leAt bytes 6 2
  let δ := (q + 65536 - s.get (CON_POD_SEQ.NEWEST n)) % 65536
  if 1 ≤ δ ∧ δ ≤ 32767 then
    let rs := s.records n
    let full := rs.length == 96
    let lost : Bool := match rs with
      | r :: _ => full && r.stage != .forwarded
      | [] => false
    let place := match rs.getLast? with
      | some r => (r.place + 1) % 96
      | none => 0
    let s := if lost then (s.bump CON_CNT0.OVERWRITTEN).raise Ev.READING_LOST else s
    let s := { s with calico := Memory.setBytes s.calico (recordByte n place) bytes }
    let flags := byteAt bytes 9
    let old := (Sparse.find s.con.lastFlags n).getD 0
    let rose := (flags &&& (255 - old)) != 0
    let r : StoredRec := ⟨q, place, if rose then .sent else .fresh⟩
    let s := (s.setRecords n ((if full then rs.drop 1 else rs) ++ [r])).putTable (CON_POD_SEQ.NEWEST n) q
    let s := { s with con := { s.con with lastFlags := Sparse.insert s.con.lastFlags n flags } }
    let addr := s.get (CON_POD_ADDR.ADDR n)
    if rose then s.enqueueMsg ⟨0, conMessage 0x11 false addr bytes, addr, [q], 0, 0, false⟩ else s
  else s.bump CON_CNT0.DUP

/-- REPORT: the records of a joined pod. -/
def execPodReport (s : State) : Out :=
  match s.conTake [0x03] with
  | none => go s
  | some (d, s) =>
    match s.podFind d.src with
    | none => go s
    | some n => go (((piecesOf 20 4 (msgBody d.payload)).foldl (fun s b => if b.length = 20 then s.storeRecord n b else s) s).pump)

/-! ### Forwarding and the gateway (R545, R548, R549) -/

/-- TRANSIT: a READING, ALARM, STATUS or WMB_FWD from another hub goes onward unchanged, never by the transport it came by. -/
def execConTransit (s : State) : Out :=
  match s.conTake transitTypes with
  | none => go s
  | some (d, s) =>
    let code := if d.transport = 0 then 1 else if d.transport = 1 then 3 else if d.transport = 2 then 2 else 4
    go (s.enqueueMsg ⟨1, d.payload, 0, [], code, 0, false⟩)

/-- POD_DOWN: BODY goes to the pod by radio with ACKREQ; a pod that is not in the table, or bytes that do not fit a Gauze frame,
are answered. -/
def execPodDown (s : State) : Out :=
  match s.conTake [0x12] with
  | none => go s
  | some (d, s) =>
    let pod := msgPod d.payload
    match s.podFind pod with
    | none => go (s.answerStatus 1 0x12 pod)
    | some n =>
      let slot := if s.get (SEC_KS_CFG.STATE (s.get (CON_POD_ST.SLOT n))) = 0 then none else some (s.get (CON_POD_ST.SLOT n))
      let body := msgBody d.payload
      if 255 < 27 + (if slot.isSome then 13 else 0) + body.length then go (s.answerStatus 2 0x12 pod)
      else go (s.handToNwc ⟨1, pod, body, slot, true, s.on CON_CFG.WAKE, false, false, .podDown pod⟩)

/-- READ_STORE: every stored record of the pod from the given RSEQ on is unforwarded again. -/
def execReadStore (s : State) : Out :=
  match s.conTake [0x14] with
  | none => go s
  | some (d, s) =>
    match s.podFind (msgPod d.payload) with
    | none => go s
    | some n =>
      let q := leAt d.payload 6 2
      let again (r : StoredRec) : StoredRec := if (r.rseq + 65536 - q) % 65536 < 32768 then { r with stage := .fresh } else r
      go (s.setRecords n ((s.records n).map again)).pump

/-- FORWARD_CYCLE: RETRYMIN minutes after the latest one, the messages that no transport delivered are built again from the store (R545). -/
def execForwardCycle (s : State) : Out :=
  if s.conRuns && decide (s.con.cycleAt + s.get CON_CFG.RETRYMIN * 61440 ≤ s.time.aoTick) then
    let s := { s with con := { s.con with cycleAt := s.time.aoTick } }
    let fresh (r : StoredRec) : StoredRec := if r.stage = .failed then { r with stage := .fresh } else r
    let s := { s with con := { s.con with
      records := s.con.records.map (fun (e : Nat × List StoredRec) => (e.1, e.2.map fresh))
      waiting := s.con.waiting.map (fun (m : ConMsg) => if m.after = 4 then { m with after := 0 } else m) } }
    go s.pump
  else go s

/-- HELD_EXPIRED: a frame held for HOLDMAX minutes goes with WAKE 1. -/
def execHeldExpired (s : State) : Out :=
  match s.rad.own.find? (fun f => match f.held with
      | some t => s.radioRunning && decide (t + s.get CON_CFG.HOLDMAX * 61440 ≤ s.time.aoTick)
      | none => false) with
  | none => go s
  | some f => go ((s.setRadFrame { f with held := none, wake := true, air := f.air + glintAir }).raise Ev.HELD_EXPIRED)

end Sys2Proof.Machine
end

