-- ==== Sys2Proof/Machine/Loop.lean ====
section
/-! DEFINITION. The Turard Loop (chapter 18): messages, what a slave does with the frames it repeats, how the master polls, and the
loop by-pass. -/

namespace Sys2Proof.Machine

/-! ### Messages (R517, R521) -/

def loopShape (m : List Byte) : FrameShape := ⟨2, leAt m 1 2, leAt m 3 4, 11, [], none⟩

def loopSrc (m : List Byte) : Nat := leAt m 3 4
def loopDst (m : List Byte) : Nat := leAt m 7 4

/-- The loop controller protects a message of its own queue as it loads it; it waits for RESV_STORED, or goes back (R498 to
R500). -/
def State.loopProtect (s : State) (f : OutFrame) : State :=
  let put (s : State) (g : OutFrame) : State :=
    { s with lop := { s.lop with own := s.lop.own.map (fun x => if x = f then g else x) } }
  match f.slot with
  | none => put s { f with bytes := withCrc f.plain }
  | some n =>
    match s.takeCounter n 2 with
    | (.taken c, s) =>
      let bytes := withCrc (s.protect (loopShape f.plain) n c f.plain)
      put s { f with bytes := bytes }
    | (.wait, s) => s
    | (.refused, s) =>
      State.serviceBack { s with lop := { s.lop with own := eraseFirst (fun x => x == f) s.lop.own } } f.service

def State.loopProtectAll (s : State) : State := (s.lop.own.filter (fun f => f.bytes.isEmpty)).foldl State.loopProtect s

def State.showLoop (s : State) : State := s.put LOP_STAT.QOWN s.lop.own.length

/-- A message joins the own queue of 8; a load into a full queue is refused and counted (R521). -/
def State.loopAccept (s : State) (o : Outgoing) : State :=
  let sec := o.slot.isSome
  let len := 11 + (if sec then 13 else 0) + o.payload.length + 2
  if s.lop.own.length = 8 then State.raise ((State.handToNwc s o).bump LOP_CNT3.OWNREFUSED) Ev.LOOP_OWN_REFUSED
  else if 128 < len ∨ ((s.get SEC_CFG.REQUIRE).testBit 2 && !sec) then s.serviceBack o.service
  else
    let plain := [BitVec.ofNat 8 sec.toNat] ++ leBytes 2 (s.get LOP_CFG.NETID) ++ leBytes 4 (s.get LOP_ADDR.ADDR) ++ leBytes 4 o.dst
      ++ (if sec then List.replicate 5 0 else []) ++ o.payload
    let f : OutFrame := ⟨[], plain, o.slot, o.dst, true, false, 0, false, o.service⟩
    State.loopProtect { s with lop := { s.lop with own := s.lop.own ++ [f] } } f

/-- LOOP_MESSAGE_LOAD: NWC's own message, or the oldest one that a service has handed to it. -/
def execLoopMessageLoad (own : Option NetMessage) (s : State) : Out :=
  if !s.netRunning || s.pod || !s.on LOP_CFG.EN || !s.coreUp 2 then go s
  else match own with
    | some m => go ((s.loopAccept ⟨2, m.dst.toNat, m.payload, m.slot.map Fin.val, true, false, false, false, .plain⟩).showLoop)
    | none =>
      match s.con.toLoad.find? (fun o => o.transport == 2) with
      | none => go s
      | some o =>
        let s := { s with con := { s.con with toLoad := eraseFirst (fun x => x == o) s.con.toLoad } }
        go (s.loopAccept o).showLoop

/-- A message that queue 9 gives the loop controller: the security check, the write into Calico, delivery (R530). -/
def State.loopTake (s : State) (m : List Byte) (refused : Option Denial) : State :=
  let sec := (byteAt m 0).testBit 0
  let noCrc := m.take (m.length - 2)
  match s.checkFrame (loopShape m) sec (s.counterOf (loopSrc m)) noCrc with
  | .forgery => s.countForgery
  | .replay => s.countReplay
  | .copy _ => s.countReplay
  | .pass payload =>
    let slot := byteAt m 11 % 32
    let ctr := leAt m 12 4
    if refused.isSome then ((s.denied 12 refused).bump LOP_CNT2.RXDROP).raise Ev.LOOP_RX_DROP
    else
      let s := if sec then s.acceptCounter (loopSrc m) slot ctr else s
      s.deliver (loopDst m == s.get LOP_ADDR.ADDR) ⟨2, loopSrc m, payload, if sec then some slot else none, if sec then ctr else 0⟩

/-- Twill serves the loop controller: the messages that wait in queue 9 are written, oldest first. -/
def State.drainLoop (s : State) : State :=
  s.lop.queue.foldl (fun s m => s.loopTake m none) { s with lop := { s.lop with queue := [] } }

/-- A message enters the 64 bytes of queue 9: whether it was taken, and the state. It runs through unless Twill holds the loop controller up
(`stalled`); then it waits there, or is dropped where it does not fit (R129, R130). DEDUCED (log 15). -/
def State.loopEnter (s : State) (m : List Byte) (stalled : Bool) (refused : Option Denial) : Bool × State :=
  let s := if stalled then s else s.drainLoop
  let fill := s.lop.queue.flatten.length + m.length
  if stalled && decide (64 < fill) then (false, (s.countDrop 9).peak (CLK_QCNT.PEAK 9) 64)
  else
    let s := s.peak (CLK_QCNT.PEAK 9) (min 64 fill)
    (true, if stalled then { s with lop := { s.lop with queue := s.lop.queue ++ [m] } } else s.loopTake m refused)

/-! ### The slave (R518, R519, R522, R524, R525, R527, R529) -/

def State.isSlave (s : State) : Bool := s.bypass.joined && !s.on LOP_CFG.ROLE
def State.isMaster (s : State) : Bool := s.bypass.joined && s.on LOP_CFG.ROLE

/-- What the slave answers to the down message of a POLL to its station (R522): STATUS bits, and the state. DEDUCED (log 15). -/
def State.slaveDown (s : State) (fc : Nat) (down : List Byte) (stalled : Bool) (refused : Option Denial) : Nat × State :=
  let dtog := fc.testBit 2
  if down.length = 0 ∨ !crcGood down then (0, s)
  else if !fc.testBit 4 && s.lop.dtog = some dtog then (8, s.bump LOP_CNT3.DOWNDUP)
  else if loopDst down ≠ s.get LOP_ADDR.ADDR ∧ loopDst down ≠ broadcast then (0, s)
  else match s.loopEnter down stalled refused with
    | (false, s) => (4, s)
    | (true, s) => (2, { s with lop := { s.lop with dtog := some dtog } })

/-- UPACK removes the up message that has been sent, which is thereby delivered (R522, R545). -/
def State.slaveUpack (s : State) (upack : Bool) : State :=
  if upack && s.lop.sentUp then
    match s.lop.own with
    | [] => s
    | f :: rest => State.serviceDone { s with lop := { s.lop with own := rest, sentUp := false, utog := !s.lop.utog } } f.service
  else s

/-- The up slot: UHDR, ULEN and the message that fits, if one does; a longer one is counted once (R522). -/
def State.slaveUp (s : State) (rslot : Nat) : Option (List Byte) × State :=
  match s.lop.own with
  | [] => (none, s)
  | f :: rest =>
    if f.bytes.isEmpty then (none, s)
    else if f.bytes.length ≤ rslot then
      (some ([BitVec.ofNat 8 s.lop.utog.toNat, BitVec.ofNat 8 f.bytes.length] ++ f.bytes), { s with lop := { s.lop with sentUp := true } })
    else if f.delayed then (none, s)
    else (none, State.bump { s with lop := { s.lop with own := { f with delayed := true } :: rest } } LOP_CNT3.UPWAIT)

/-- A good HCS: the ring is alive (R527, R529), and a join has succeeded (R528). -/
def State.slaveHears (s : State) : State :=
  State.put { s with lop := { s.lop with heard := s.time.aoTick, silent := false }, bypass := { s.bypass with faults := 0 } } LOP_STAT.RING 1

/-- A POLL or BROADCAST passes: the bytes that go on, without their CRC, and the state. -/
def State.slavePoll (s : State) (bytes : List Byte) (stalled : Bool) (refused : Option Denial) : List Byte × State :=
  let fc := byteAt bytes 0
  let rslot := byteAt bytes 4
  let dlen := byteAt bytes 5
  let down := (bytes.drop 7).take dlen
  let status := 9 + dlen + rslot
  let body := bytes.take (bytes.length - 2)
  let mine := fc % 4 = 0 ∧ byteAt bytes 3 = s.get LOP_STAT.STATION ∧ s.get LOP_STAT.STATION ≠ 0
  let join (bs : List Byte) : List Byte :=
    if s.get LOP_STAT.STATION = 0 then putBytes bs status [(bs.getD status 0) ||| 16] else bs
  if mine then
    let (bits, s) := s.slaveDown fc down stalled refused
    let s := s.slaveUpack (fc.testBit 3)
    let (up, s) := s.slaveUp rslot
    let bs := match up with
      | some u => putBytes body (7 + dlen) u
      | none => body
    (putBytes bs status [(bs.getD status 0) ||| BitVec.ofNat 8 (1 + bits)], s)
  else if fc % 4 = 1 ∧ dlen ≠ 0 ∧ crcGood down ∧ (loopDst down = s.get LOP_ADDR.ADDR ∨ loopDst down = broadcast) then
    (join body, (s.loopEnter down stalled refused).2)
  else (join body, s)

/-- A DISCOVER passes: the slave takes the next station, or finds the ring full (R519). -/
def State.slaveDiscover (s : State) (bytes : List Byte) : List Byte × State :=
  let body := bytes.take (bytes.length - 2)
  let n := byteAt bytes 7 % 64
  let s := s.loseStation
  if n < 63 then
    let bs := putBytes body 7 [BitVec.ofNat 8 (byteAt bytes 7 / 64 * 64 + n + 1)]
    (putBytes bs (8 + 4 * n) (leBytes 4 (s.get LOP_ADDR.ADDR)), (s.put LOP_STAT.STATION (n + 1)).raise Ev.STATION_SET)
  else (putBytes body 7 [(body.getD 7 0) ||| 128], s.raise Ev.NO_STATION)

/-- The bytes that go on as the frame passes, but for its CRC, and the state of a slave that takes its part in the frame. -/
def State.slavePass (s : State) (bytes : List Byte) (stalled : Bool) (refused : Option Denial) : List Byte × State :=
  if byteAt bytes 0 % 4 = 2 then s.slaveDiscover bytes else s.slavePoll bytes stalled refused

/-- LOOP_FRAME_REPEAT: a slave repeats the frame with the given bytes, rewriting its fields as they pass; a bad CRC shows only at the end, and
the frame is then dropped for the slave itself. `stalled`: Twill holds the loop controller up; `refused`: it refuses its write. -/
def execLoopFrameRepeat (bytes : List (BitVec 8)) (stalled : Bool) (refused : Option Denial) (s : State) : Out :=
  if !s.isSlave ∨ bytes.length < 9 then go s
  else if crc8 (bytes.take 6) ≠ byteAt bytes 6 then
    go (State.bump { s with lop := { s.lop with line := bytes.take 7, aborted := true } } LOP_CNT1.HCSFAIL)
  else
    let s := s.slaveHears
    if !crcGood bytes then
      let out := (s.slavePass bytes stalled refused).1
      let s := if byteAt bytes 0 % 4 = 2 then s.loseStation else s
      go (State.bump { s with lop := { s.lop with line := out, aborted := true } } LOP_CNT1.CRCFAIL)
    else
      let (out, s) := s.slavePass bytes stalled refused
      go (State.bump { s with lop := { s.lop with line := withCrc out, aborted := false } } LOP_CNT0.FRAMES).showLoop

/-- A Manchester violation in the bit cells of a frame, by the samples at which LI changed level, counted from the first cell's begin (R511):
a cell of 16 samples with no transition within 3 of its middle, or two transitions fewer than 5 apart. -/
def manchesterViolation (cells : Nat) (transitions : List Nat) : Bool :=
  (List.range cells).any (fun c => !transitions.any (fun t => decide (16 * c + 5 ≤ t) && decide (t ≤ 16 * c + 11)))
    || (transitions.zip (transitions.drop 1)).any (fun p => decide (p.2 < p.1 + 5))

/-- LOOP_VIOLATION: the slave stops forwarding, sends the abort sequence and drops the frame for itself (R525). -/
def execLoopViolation (cells : Nat) (transitions : List Nat) (s : State) : Out :=
  if s.isSlave && manchesterViolation cells transitions then go (State.raise (State.bump { s with lop := { s.lop with aborted := true } } LOP_CNT1.VIOLATION) Ev.VIOLATION)
  else go s

/-- LOOP_ABORT_RX. -/
def execLoopAbortRx (s : State) : Out :=
  if s.isSlave then go (State.bump { s with lop := { s.lop with aborted := true } } LOP_CNT1.ABORTRX) else go s

/-- LOOP_SILENT: 100 ms without a good HCS; it is raised once. -/
def execLoopSilent (s : State) : Out :=
  if s.isSlave && !s.lop.silent && decide (s.lop.heard + 102 ≤ s.time.aoTick) then
    go (State.raise (State.put { s with lop := { s.lop with silent := true } } LOP_STAT.RING 0) Ev.LOOP_SILENT)
  else go s

/-- STATION_LOSS: 1 s without a good HCS. -/
def execStationLoss (s : State) : Out :=
  if s.isSlave && decide (s.lop.heard + 1024 ≤ s.time.aoTick) then go s.loseStation else go s

/-! ### The master (R516, R520, R521, R523) -/

def LoopStation.blank (_ : Nat) : LoopStation := ⟨false, true, none, false⟩
def State.station (s : State) (k : Nat) : LoopStation := Sparse.get LoopStation.blank s.lop.stations k
def State.setStation (s : State) (k : Nat) (x : LoopStation) : State :=
  { s with lop := { s.lop with stations := Sparse.set LoopStation.blank s.lop.stations k x } }

/-- The address of station `k`, 1 to 63. -/
def State.stationAddr (s : State) (k : Nat) : Nat := s.get (LOP_ST.ADDR (k - 1))
def State.stationCount (s : State) : Nat := s.get LOP_STAT.NODES - 1

/-- A frame's header with its HCS (Table LOP-2). -/
def State.loopHeader (s : State) (fc station rslot dlen : Nat) : List Byte :=
  let h := [BitVec.ofNat 8 fc] ++ leBytes 2 (s.get LOP_CFG.NETID) ++ [BitVec.ofNat 8 station, BitVec.ofNat 8 rslot, BitVec.ofNat 8 dlen]
  h ++ [BitVec.ofNat 8 (crc8 h)]

/-- The master may start a frame: joined, none of its frames on the ring. -/
def State.masterFree (s : State) : Bool := s.isMaster && s.netRunning && s.lop.frame.isNone

/-- Three NORETURN outcomes in a row: the ring is lost (R523). -/
def State.ringLost (s : State) : Bool := decide (3 ≤ s.lop.noReturn)

/-- A DISCOVER goes before the next POLL (R520). -/
def State.discoverDue (s : State) : Bool :=
  s.lop.discover || s.ringLost || decide (s.lop.discAt + 32768 * s.get LOP_MAC.DISC ≤ s.time.cyc)

/-- The DISCOVER may go: on a lost ring, one goes every 10 ms (R523). -/
def State.discoverNow (s : State) : Bool := s.discoverDue && (!s.ringLost || hasCome (s.time.cyc - s.lop.discAt) 10000)

/-- The oldest waiting message for a destination that can be sent. -/
def State.downFor (s : State) (dst : Nat) : Option OutFrame := s.lop.own.find? (fun f => f.next == dst && !f.bytes.isEmpty)

/-- POLL: the next station in turn, with the oldest message for it. -/
def execLoopPoll (s : State) : Out :=
  if s.masterFree && !s.discoverDue && (s.downFor broadcast).isNone && decide (0 < s.stationCount) then
    let k := if s.lop.last < s.stationCount then s.lop.last + 1 else 1
    let st := s.station k
    let down := s.downFor (s.stationAddr k)
    let bytes := match down with
      | some f => f.bytes
      | none => []
    let rslot := s.get LOP_MAC.RSLOT
    let fc := 4 * (st.dtog && down.isSome).toNat + 8 * st.upack.toNat + 16 * (st.dreset && down.isSome).toNat
    let frame := withCrc (s.loopHeader fc k rslot bytes.length ++ bytes ++ List.replicate (3 + rslot) 0)
    let s := s.setStation k { st with upack := false }
    go { s with lop := { s.lop with frame := some ⟨0, k, frame, down.isSome⟩, last := k } }
  else go s

/-- BROADCAST: a message for all nodes goes once; none goes while the ring is lost (R523). -/
def execLoopBroadcast (s : State) : Out :=
  match s.downFor broadcast with
  | some f =>
    if s.masterFree && !s.ringLost then
      let frame := withCrc (s.loopHeader 1 0 0 f.bytes.length ++ f.bytes ++ List.replicate 3 0)
      let s := { s with lop := { s.lop with own := eraseFirst (fun x => x == f) s.lop.own, frame := some ⟨1, 0, frame, false⟩ } }
      go s.showLoop
    else go s
  | none => go s

/-- DISCOVER, when one is due (R520, R523). -/
def execLoopDiscover (s : State) : Out :=
  if s.masterFree && s.discoverNow then
    let frame := withCrc (s.loopHeader 2 0 0 0 ++ List.replicate 253 0)
    go { s with lop := { s.lop with frame := some ⟨2, 0, frame, false⟩, discAt := s.time.cyc, discover := false } }
  else go s

/-- The down message of station `k` is done: delivered, or given up after the last try. -/
def State.downDone (s : State) (k : Nat) (good : Bool) : State :=
  match s.downFor (s.stationAddr k) with
  | none => s
  | some f =>
    let st := s.station k
    let s := { s with lop := { s.lop with own := eraseFirst (fun x => x == f) s.lop.own } }
    if good then (s.setStation k { st with dtog := !st.dtog, dreset := false }).serviceDone f.service
    else
      let s := (s.bump LOP_CNT2.NOACK).raise Ev.LOOP_NO_ACK
      (s.setStation k { st with dtog := !st.dtog, dreset := true }).serviceBack f.service

/-- The POLL to station `k` has not delivered its down message: another try, up to RETRY further ones. -/
def State.downAgain (s : State) (k : Nat) : State :=
  match s.downFor (s.stationAddr k) with
  | none => s
  | some f =>
    if f.tries < s.get LOP_MAC.RETRY then
      { s with lop := { s.lop with own := s.lop.own.map (fun (x : OutFrame) => if x = f then { x with tries := x.tries + 1 } else x) } }
    else s.downDone k false

/-- A frame that failed (Table LOP-5): it ends a run of NORETURN outcomes, its down message is sent again, UPACK is 0, and a DISCOVER follows. -/
def State.frameFailed (s : State) (f : LoopFrame) : State :=
  let s := { s with lop := { s.lop with frame := none, discover := true, noReturn := if 3 ≤ s.lop.noReturn then s.lop.noReturn else 0 } }
  if f.kind = 0 then
    let s := s.setStation f.station { s.station f.station with upack := false }
    if f.down then s.downAgain f.station else s
  else s

/-- A POLL returns whole. -/
def State.pollReturned (s : State) (f : LoopFrame) (bytes : List Byte) (stalled : Bool) (refused : Option Denial) : State :=
  let rslot := byteAt bytes 4
  let dlen := byteAt bytes 5
  let status := byteAt bytes (9 + dlen + rslot)
  let ulen := byteAt bytes (8 + dlen)
  let up := (bytes.drop (9 + dlen)).take ulen
  let utog := (byteAt bytes (7 + dlen)).testBit 0
  let s := if f.down then (if status.testBit 1 || status.testBit 3 then s.downDone f.station true else s.downAgain f.station) else s
  if 13 ≤ ulen ∧ ulen ≤ rslot ∧ crcGood up then
    let st := s.station f.station
    let new := st.utog != some utog
    match (if new then s.loopEnter up stalled refused else (true, s)) with
    | (false, s) => s
    | (true, s) => s.setStation f.station { st with upack := true, utog := some utog }
  else s

/-- A DISCOVER returns whole: the stations, NODES and OVERFULL; a station whose address changed forgets its UTOG, every station takes
DRESET, and messages for no station go back (R521, R523). -/
def State.discoverReturned (s : State) (bytes : List Byte) : State :=
  let n := byteAt bytes 7 % 64
  let s := (List.range 63).foldl (fun s j =>
    let a := if j < n then leAt bytes (8 + 4 * j) 4 else 0
    let st := s.station (j + 1)
    let st := { st with dreset := true, utog := if s.get (LOP_ST.ADDR j) = a then st.utog else none }
    (s.setStation (j + 1) st).put (LOP_ST.ADDR j) a) s
  let s := (s.put LOP_STAT.NODES (n + 1)).putB LOP_STAT.OVERFULL ((byteAt bytes 7).testBit 7)
  let known (f : OutFrame) : Bool := f.next == broadcast || (List.range n).any (fun j => leAt bytes (8 + 4 * j) 4 == f.next)
  let lost := s.lop.own.filter (fun f => !known f)
  let s := { s with lop := { s.lop with own := s.lop.own.filter known } }
  lost.foldl (fun s f => s.serviceBack f.service) s

/-- NODES of the latest DISCOVER, the frame that returns being one itself. DEDUCED (log 15). -/
def State.nodesOf (s : State) (f : LoopFrame) (bytes : List Byte) : Nat :=
  if f.kind = 2 then byteAt bytes 7 % 64 + 1 else s.get LOP_STAT.NODES

/-- LOOP_RETURN: a frame reaches the master, its start word `after` ns behind the master's own. `broken` says that it was aborted or held a
violation; one that is not the return of the frame on the ring is foreign (R523, Table LOP-5). -/
def execLoopReturn (bytes : List (BitVec 8)) (after : Nat) (broken stalled : Bool) (refused : Option Denial) (s : State) : Out :=
  let foreign := (s.bump LOP_CNT3.FOREIGN).raise Ev.DUAL_MASTER
  if !s.isMaster then go s
  else match s.lop.frame with
    | none => go foreign
    | some f =>
      if 325000 < after then go foreign
      else if 5000 * s.nodesOf f bytes < after then go (((s.frameFailed f).bump LOP_CNT2.LATE).raise Ev.LATE_RETURN).showLoop
      else if broken ∨ !crcGood bytes ∨ bytes.length ≠ f.bytes.length then
        go (((s.frameFailed f).bump LOP_CNT0.FRAMEFAIL).raise Ev.FRAME_FAIL).showLoop
      else
        let lost := s.ringLost
        let s := { s with lop := { s.lop with frame := none, noReturn := if lost && f.kind != 2 then s.lop.noReturn else 0 }
                          bypass := { s.bypass with faults := 0 } }
        let s := s.bump LOP_CNT0.FRAMES
        let s := if f.kind = 2 then s.discoverReturned bytes
          else
            let s := if (byteAt bytes (9 + byteAt bytes 5 + byteAt bytes 4)).testBit 4 then
              { s with lop := { s.lop with discover := true } } else s
            if f.kind = 0 then s.pollReturned f bytes stalled refused else s
        let s := if lost && f.kind == 2 then State.raise { s with lop := { s.lop with last := 0 } } Ev.RING_BACK else s
        go (s.put LOP_STAT.RING 1).showLoop

/-- LOOP_NO_RETURN: no start word by 325 µs; after three in a row the ring is lost. -/
def execLoopNoReturn (s : State) : Out :=
  if !s.isMaster then go s
  else match s.lop.frame with
    | none => go s
    | some f =>
      let n := s.lop.noReturn + 1
      let s := (s.frameFailed f).bump LOP_CNT2.NORETURN
      let s := { s with lop := { s.lop with noReturn := min 3 n } }
      go (if n = 3 then (s.put LOP_STAT.RING 0).raise Ev.RING_LOST else s).showLoop

/-! ### The by-pass (R70, R71, R79, R526 to R528) -/

/-- BYPASS_SWITCH: the switching that waited for an idle LI. -/
def execBypassSwitch (s : State) : Out := go s.bypassAct

/-- BYPASS_SETTLED: SETTLE, in ms, has run out after the relay was driven. -/
def execBypassSettled (s : State) : Out :=
  if s.bypass.settling && decide (1000 * s.get SYS_BYPASS.SETTLE ≤ cycUs (s.time.cyc - s.bypass.since)) then go s.join else go s

/-- BYPASS_FAULT: in the relay type, no valid transitions for 1 ms after SETTLE; the wait before the next try is 60 s, doubled at each further fault,
up to 3,600 s (R79, R528). -/
def execBypassFault (s : State) : Out :=
  if s.relayType && s.bypass.joined && decide (1000 ≤ cycUs (s.time.cyc - s.bypass.since)) then
    let n := s.bypass.faults + 1
    let wait := min 3600 (60 * 2 ^ min 6 s.bypass.faults)
    let s := (s.closeBypass.bump SYS_BYPASS.FAULTS).raise Ev.BYPASS_FAULT
    go { s with bypass := { s.bypass with faults := n, waiting := some (s.time.aoTick + 1024 * wait) } }
  else go s

/-- BYPASS_RETRY: the wait after a by-pass fault runs out. -/
def execBypassRetry (s : State) : Out :=
  match s.bypass.waiting with
  | some t => if t ≤ s.time.aoTick then go (State.bypassAct { s with bypass := { s.bypass with waiting := none } }) else go s
  | none => go s

end Sys2Proof.Machine
end

