-- ==== Sys2Proof/Machine/Radio.lean ====
section
/-! DEFINITION. The commands of the radio (chapter 16): loading, access to the channel, sending, receiving, acknowledgements, Glint
and EN 13757-4 telegrams. -/

namespace Sys2Proof.Machine

/-! ### Loading (R472) -/

/-- A message becomes a Gauze frame of the own queue: unicast to its destination where it asks for an acknowledgement or is a
reply, flooded otherwise. A load into a full queue is refused and counted. -/
def State.radAccept (s : State) (o : Outgoing) : State :=
  let sec := o.slot.isSome
  let len := 25 + (if sec then 13 else 0) + o.payload.length + 2
  if s.rad.own.length = 8 then
    State.raise ((State.handToNwc s o).bump MSH_CNT3.OWNREFUSED) Ev.OWN_REFUSED
  else if 255 < len ∨ ((s.get SEC_CFG.REQUIRE).testBit 1 && !sec) then s.serviceBack o.service
  else
    let next := if o.ackreq || o.reply then o.dst else broadcast
    let ackreq := o.ackreq && o.dst != broadcast
    let (q, s) := s.takeTxSeq
    let (oq, s) := s.takeOSeq
    let rsd := decide (0 < s.rad.rsd)
    let fc := 4 * sec.toNat + 8 * ackreq.toNat + 16 * rsd.toNat
    let own := s.get RAD_ADDR.ADDR
    let plain := [BitVec.ofNat 8 fc, BitVec.ofNat 8 len] ++ leBytes 2 (s.get RAD_CFG.NETID) ++ leBytes 4 own ++ leBytes 4 o.dst
      ++ leBytes 4 own ++ leBytes 4 next ++ leBytes 2 q ++ leBytes 2 oq ++ [BitVec.ofNat 8 (s.get MSH_CFG.TTL)]
      ++ (if sec then List.replicate 5 0 else []) ++ o.payload
    let f : OutFrame := ⟨[], plain, o.slot, next, ackreq, false, 0, false, o.service⟩
    let held : Option Nat := if !o.wake && !o.reply && s.podJoined next then some s.time.aoTick else none
    let g : RadFrame := ⟨s.rad.nextId, f, o.wake, o.reply, o.listen, false, own, oq, gauzeAir len + (if o.wake then glintAir else 0),
      held, none, false, false, s.firstBe 0, 0⟩
    let s := { s with rad := { s.rad with own := s.rad.own ++ [g], nextId := s.rad.nextId + 1, rsd := s.rad.rsd - 1 } }
    s.radProtect g

/-- RADIO_FRAME_LOAD: NWC loads a frame into RTX while it holds the RTX lease, and releases the lease: its own message, or the
oldest one that a service has handed to it. -/
def execRadioFrameLoad (own : Option NetMessage) (s : State) : Out :=
  if !s.netRunning || !s.on RAD_CFG.EN || !s.coreUp 2 then go s
  else
    let mine (m : NetMessage) : Outgoing :=
      ⟨1, m.dst.toNat, m.payload, m.slot.map Fin.val, m.ackreq, m.wake, m.reply, m.listen, .plain⟩
    if (s.lease 2).holder ≠ some 2 then
      let s := match own with
        | some m => s.handToNwc (mine m)
        | none => s
      go (s.refuse 2 4 12)
    else
      let o := match own with
        | some m => some (mine m)
        | none => s.con.toLoad.find? (fun o => o.transport == 1)
      match o with
      | none => go (s.giveUpLease 2 2)
      | some o =>
        let s := if own.isSome then s else { s with con := { s.con with toLoad := eraseFirst (fun x => x == o) s.con.toLoad } }
        go ((s.radAccept o).giveUpLease 2 2).showRadio

/-! ### Access (R473, R474, R477, R478) -/

/-- A frame that does not fit the duty budget waits, and is counted once. -/
def State.radDefer (s : State) (f : RadFrame) : State :=
  let s := s.setRadFrame { f with deferred := some s.time.aoTick, dutyCounted := true }
  if f.dutyCounted then s else (s.bump RAD_CNT2.DUTYDEFER).raise Ev.DUTY_DEFER

/-- RADIO_BACKOFF_END: the back-off of the frame of highest rank, `r` slots drawn from 0 to 2^BE − 1, ends and its assessment runs. A reply is never
deferred (R477). DEDUCED (log 14): the response-window reply of R477 is a frame loaded with REPLY. -/
def execRadioBackoffEnd (r : Nat) (s : State) : Out :=
  if s.radioRunning && s.rad.active.isNone && s.rad.ack.isNone && s.rad.follow.isNone then
    match s.radCandidates with
    | [] => go s
    | f :: _ =>
      if 2 ^ f.be ≤ r then go s
      else if f.reply || s.dutyFits f.air then go (s.radStage f.id .cca).showRadio
      else go (s.radDefer f).showRadio
  else go s

/-- A frame goes on the air. -/
def State.radSend (s : State) (f : RadFrame) : State :=
  let s := s.radStage f.id .sending
  s.dutyAdd (if f.wake then f.air - glintAir else f.air)

/-- CCA_DONE: the channel was clear and the node sends, the Glint pattern first for a WAKE frame; or it was busy, and BE rises or the
try fails. An acknowledgement that is due goes first (R473). -/
def execCcaDone (busy : Bool) (s : State) : Out :=
  match s.rad.active with
  | some (id, .cca) =>
    match s.radFrame id with
    | none => go { s with rad := { s.rad with active := none } }
    | some f =>
      if s.rad.ack.isSome || !s.passed s.rad.stageAt 160 then go s
      else if busy then
        if s.get RAD_CCA.CCAMAX ≤ f.busy + 1 then
          go (((s.bump RAD_CNT2.CCAFAIL).raise Ev.CCA_FAIL).radTryFailed f).showRadio
        else
          let s := s.setRadFrame { f with busy := f.busy + 1, be := min (s.get RAD_CCA.BEMAX) (f.be + 1) }
          go (State.showRadio { s with rad := { s.rad with active := none } })
      else
        let s := if f.f.relay then s else s.countRelayDelay
        if f.wake then go ((s.radStage id .glint).dutyAdd glintAir).showRadio
        else go (s.radSend f).showRadio
  | _ => go s

/-- GWAIT_EXPIRY: the WAKE frame follows on the Gauze channel without a further assessment, after an acknowledgement that is due. -/
def execGwaitExpiry (s : State) : Out :=
  match s.rad.active with
  | some (id, .gwait) =>
    match s.radFrame id with
    | some f => if s.rad.ack.isSome || !s.passed s.rad.stageAt (1000 * s.get GLN_CFG.GWAIT) then go s else go (s.radSend f).showRadio
    | none => go { s with rad := { s.rad with active := none } }
  | _ => go s

/-- A frame of the queues is done: it leaves its queue. -/
def State.radDone (s : State) (f : RadFrame) (acked : Bool) : State :=
  let s := State.dropRadFrame { s with rad := { s.rad with active := none } } f.id
  let s := s.raiseIf f.f.relay Ev.RELAY_SENT
  if acked then s.serviceDone f.f.service else s

/-- TX_DONE: an acknowledgement, a pattern or a frame has been sent (R461, R476, R478). -/
def execTxDone (s : State) : Out :=
  match s.rad.ack with
  | some a =>
    if a.sending && s.passed s.rad.ackAt ackAir then
      let s := { s with rad := { s.rad with ack := none, follow := if a.follow.isSome then a.follow else s.rad.follow, followAt := s.time.runCyc } }
      go s.showRadio
    else go s
  | none =>
    match s.rad.active with
    | some (id, .glint) => if s.passed s.rad.stageAt glintAir then go (s.radStage id .gwait).showRadio else go s
    | some (id, .sending) =>
      match s.radFrame id with
      | none => go { s with rad := { s.rad with active := none } }
      | some f =>
        if !s.passed s.rad.stageAt (if f.wake then f.air - glintAir else f.air) then go s
        else
        let s := (s.bump RAD_CNT0.TXFRAMES).raise Ev.TX_DONE
        if f.wmb then
          let open' := [3, 5, 7].contains (s.get RAD_WMB.MODE)
          go (State.showRadio { s.radDone f false with rad := { (s.radDone f false).rad with wmbWindow := open' } })
        else if f.f.ackreq then go (s.radStage id .ackWait).showRadio
        else go (s.radDone f false).showRadio
    | _ => go s

/-! ### Acknowledgements (R466, R475, R476, R478) -/

/-- RADIO_ACK_SEND: 500 µs after the frame, without an assessment; never deferred. -/
def execRadioAckSend (s : State) : Out :=
  match s.rad.ack with
  | some a =>
    if s.radioRunning && !s.radioSending && s.passed s.rad.ackAt 500 then
      go (State.showRadio (State.dutyAdd { s with rad := { s.rad with ack := some { a with sending := true }, ackAt := s.time.runCyc } } ackAir))
    else go s
  | none => go s

/-- The acknowledgement that is sent (R466). -/
def State.ackFrame (s : State) (a : RadAck) : List Byte :=
  withCrc ([BitVec.ofNat 8 1, BitVec.ofNat 8 9] ++ leBytes 2 (s.get RAD_CFG.NETID) ++ leBytes 2 a.seq ++ [BitVec.ofNat 8 a.pending.toNat])

/-- What is on the air: an acknowledgement, a Glint pattern, or a frame, on the Glint channel or the Gauze channel. -/
def State.onAir (s : State) : Option (List Byte) :=
  match s.rad.ack, s.rad.active with
  | some a, _ => if a.sending then some (gauzeOnAir (s.ackFrame a)) else none
  | none, some (id, .glint) => (s.radFrame id).map (fun f => glintPattern (s.get RAD_CFG.NETID % 256) f.f.next)
  | none, some (id, .sending) => (s.radFrame id).map (fun f => if f.wmb then f.f.bytes else gauzeOnAir f.f.bytes)
  | none, _ => none

/-- The Gauze or Glint channel in use, in kHz (R460, R478). -/
def State.airKhz (s : State) : Nat :=
  let glint : Bool := match s.rad.active with
    | some (_, .glint) => true
    | some (id, .cca) => (s.radFrame id).any (fun f => f.wake)
    | _ => false
  channelKhz (s.get RAD_CFG.BAND) (if glint then s.get RAD_CHAN.GLCH else s.get RAD_CHAN.GCH)

/-- The pod opens its receive window, or restarts it (R481). -/
def State.openWindow (s : State) : State := if s.pod then { s with rad := { s.rad with window := true, windowAt := s.time.runCyc } } else s

/-- A frame taken restarts the window that is open (R481). -/
def State.holdWindow (s : State) : State := if s.rad.window then s.openWindow else s

/-- An acknowledgement with a good CRC: of the frame that awaits it, or of no concern (R475, R481). -/
def State.takeAck (s : State) (bytes : List Byte) : State := match s.rad.active with
  | some (id, .ackWait) =>
    match s.radFrame id with
    | none => s
    | some f =>
      if byteAt bytes 0 = 1 ∧ leAt bytes 2 2 = s.get RAD_CFG.NETID ∧ leAt bytes 4 2 = leAt f.f.bytes 20 2 then
        let pending := byteAt bytes 6 % 2 == 1
        let s := if pending || f.listen then s.openWindow else s
        (s.radDone f true).showRadio
      else s
  | _ => s

/-- RADIO_ACK_RECEIVED: an acknowledgement of the frame that awaits it. -/
def execRadioAckReceived (bytes : List (BitVec 8)) (s : State) : Out :=
  if !s.radioOpen then go s
  else if !crcGood bytes ∨ bytes.length ≠ 9 then go ((s.bump RAD_CNT1.CRCFAIL).raise Ev.CRC_FAIL)
  else go (s.takeAck bytes)

/-- RADIO_ACK_TIMEOUT: no acknowledgement within 4.3 ms. -/
def execRadioAckTimeout (s : State) : Out :=
  match s.rad.active with
  | some (id, .ackWait) =>
    if !s.passed s.rad.stageAt 4300 then go s
    else
    match s.radFrame id with
    | some f => go (s.radTryFailed f).showRadio
    | none => go { s with rad := { s.rad with active := none } }
  | _ => go s

/-- PENDING_FRAME_SEND: the held frame goes 2 ms after the acknowledgement, without back-off. -/
def execPendingFrameSend (s : State) : Out :=
  match s.rad.follow with
  | some id =>
    if !s.passed s.rad.followAt 2000 then go s
    else
    let s := { s with rad := { s.rad with follow := none } }
    match s.radFrame id with
    | some f =>
      if s.radioRunning ∧ s.rad.active.isNone ∧ !f.f.bytes.isEmpty then
        let f := { f with held := none }
        go ((s.setRadFrame f).countRelayDelay.radSend f).showRadio
      else go s
    | none => go s
  | none => go s

/-! ### Duty (R477) -/

/-- DUTY_TIMEOUT: a frame that has waited 3,600 s for the budget is treated as after its last try. -/
def execDutyTimeout (s : State) : Out :=
  match (s.rad.own ++ s.rad.relays).find? (fun f => match f.deferred with
      | some t => s.radioRunning && decide (t + 3686400 ≤ s.time.aoTick)
      | none => false) with
  | none => go s
  | some f =>
    let s := s.radGiveUp f
    go (if f.f.relay then s.bump MSH_CNT0.RELAYDROP else s).showRadio

/-- DUTY_BUDGET_FITS: the oldest waiting frame that fits again goes on. -/
def execDutyBudgetFits (s : State) : Out :=
  if !s.radioRunning then go s
  else
  let s := s.dutyAdd 0
  match (s.rad.own ++ s.rad.relays).find? (fun f => f.deferred.isSome && s.dutyFits f.air) with
  | none => go s.showRadio
  | some f => go (s.setRadFrame { f with deferred := none }).showRadio

/-! ### Receiving (R468, R471, R484) -/

/-- A frame to be relayed: TTL, hops, PREV, SEQ and a new CRC; its delay is drawn (R484). -/
def State.radForward (s : State) (bytes : List Byte) : State :=
  let h := gauzeHeader bytes
  if h.ttl ≤ 1 then (s.bump MSH_CNT1.TTLDROP).raise Ev.TTL_DROP
  else
    let (q, s) := s.takeTxSeq
    let bs := putBytes (bytes.take (bytes.length - 2)) 12 (leBytes 4 (s.get RAD_ADDR.ADDR))
    let bs := putBytes (putBytes bs 20 (leBytes 2 q)) 24 [BitVec.ofNat 8 (h.ttl - 1 + 16 * min 15 (h.hops + 1))]
    let f : OutFrame := ⟨withCrc bs, bs, none, broadcast, false, true, 0, false, .plain⟩
    let g : RadFrame := ⟨s.rad.nextId, f, false, false, false, false, h.src, h.oseq, gauzeAir bytes.length, none, none, false, true,
      s.firstBe 0, 0⟩
    State.radRelay { s with rad := { s.rad with nextId := s.rad.nextId + 1 } } g

/-- Delivery or relay of a new frame, by the procedure of R484. -/
def State.flood (s : State) (bytes payload : List Byte) (sec : Option (Nat × Nat)) (refused : Option Denial) : State :=
  let h := gauzeHeader bytes
  let own := s.get RAD_ADDR.ADDR
  let s := s.seenAdd h.src h.oseq
  let mine := h.dst == own || h.dst == broadcast || h.next == own
  let s := if mine && refused.isNone then
      let s := (s.bump RAD_CNT0.RXFRAMES).raise Ev.RX_FRAME
      if h.dst = own ∨ h.dst = broadcast then s.deliver (h.dst == own) ⟨1, h.src, payload, sec.map Prod.fst, (sec.map Prod.snd).getD 0⟩ else s
    else s
  if mine && refused.isSome then ((s.denied 11 refused).bump RAD_CNT1.RXDROP).raise Ev.RX_DROP
  else if h.dst = own ∨ h.next ≠ broadcast then s
  else if s.pod ∨ !s.on MSH_CFG.RELAY then s
  else s.radForward bytes

/-- Steps 5 to 7 of a data frame. -/
def State.gauzeData (s : State) (bytes : List Byte) (rssi : Nat) (refused : Option Denial) : State :=
  let h := gauzeHeader bytes
  let t := s.seqTest h.prev h.seq
  if !h.rsd && t = .dup then (s.bump MSH_CNT2.SEQDUP).raise Ev.SEQ_DUP
  else if !h.rsd && t = .old then (s.bump MSH_CNT2.SEQOLD).raise Ev.SEQ_OLD
  else
    let noCrc := bytes.take (bytes.length - 2)
    let slot := byteAt bytes 25 % 32
    let ctr := leAt bytes 26 4
    match s.checkFrame (gauzeShape bytes) h.sec (s.counterOf h.src) noCrc with
    | .forgery => s.countForgery
    | .replay => s.countReplay
    | .copy _ =>
      match s.seenFind h.src h.oseq with
      | some e => s.seenCopy e
      | none => s.countReplay
    | .pass payload =>
      let s := (s.moveWindow h.prev h.seq rssi h.rsd t).holdWindow
      let s := if h.sec then s.acceptCounter h.src slot ctr else s
      match s.seenFind h.src h.oseq with
      | some e => s.seenCopy e
      | none => s.flood bytes payload (if h.sec then some (slot, ctr) else none) refused

/-- GAUZE_FRAME_RECEIVED: a frame with its level; `refused` says that Twill refused the write of a delivered frame. -/
def execGauzeFrameReceived (bytes : List (BitVec 8)) (rssi : BitVec 8) (refused : Option Denial) (s : State) : Out :=
  if !s.radioOpen || s.get RAD_CFG.RXMODE != 0 then go s
  else
    let h := gauzeHeader bytes
    let own := s.get RAD_ADDR.ADDR
    if crcGood bytes ∧ bytes.length = 9 ∧ byteAt bytes 1 = 9 then go (s.takeAck bytes)
    else if !crcGood bytes ∨ byteAt bytes 1 ≠ bytes.length ∨ bytes.length < 27 then go ((s.bump RAD_CNT1.CRCFAIL).raise Ev.CRC_FAIL)
    else if h.net ≠ s.get RAD_CFG.NETID ∨ (h.next ≠ own ∧ h.next ≠ broadcast) then go s
    else
      let s := s.needRegion 8
      let held := s.rad.own.find? (fun f => f.held.isSome && f.f.next == h.prev)
      let s := if h.ackreq ∧ h.next = own then
          { s with rad := { s.rad with ack := some ⟨h.prev, h.seq, held.isSome, held.map (·.id), false⟩, ackAt := s.time.runCyc } }
        else s
      go (if h.type = 0 then s.gauzeData bytes rssi.toNat refused else s).showRadio

/-- RELAY_DELAY_END: the delay of waiting relay `k` runs out. -/
def execRelayDelayEnd (k : Nat) (s : State) : Out :=
  match s.rad.relays[k]? with
  | some f => if s.radioRunning then go (s.setRadFrame { f with delay := false }) else go s
  | none => go s

/-! ### Glint (R479 to R482) -/

/-- GLINT_MATCH: the Glint receiver of a pod hears a pattern of 80 bits, while the main radio neither sends nor receives. -/
def execGlintMatch (pattern : List (BitVec 8)) (s : State) : Out :=
  let listens := s.pod && s.on GLN_CFG.EN && !s.umb.frozen && !s.shed && (match s.mode with
    | .run => s.boot.steps.testBit 6 && !s.on CLK_STAT.SYSSRC
    | .doze => true
    | .listen => true
    | _ => false)
  if !listens || s.radioSending || s.radioOpen || pattern.length != 10 || byteAt pattern 2 != 0x9E || byteAt pattern 3 != 0x4B then go s
  else
    let addr := byteAt pattern 5 * 2 ^ 24 + byteAt pattern 6 * 65536 + byteAt pattern 7 * 256 + byteAt pattern 8
    if crc8 ((pattern.drop 4).take 5) ≠ byteAt pattern 9 ∨ byteAt pattern 4 ≠ s.get RAD_CFG.NETID % 256 then
      go ((s.bump GLN_STAT.FALSE).raise Ev.GLINT_FALSE)
    else if addr = s.get RAD_ADDR.ADDR ∨ addr = 0xFFFFFF00 + s.get GLN_CFG.GROUP ∨ (addr = broadcast ∧ s.on GLN_CFG.ALLEN) then
      let opens := s.mode == .run || s.mode == .doze
      let s := s.wake Wake.glint
      let s := (s.bump GLN_STAT.MATCHES).raise Ev.GLINT_MATCH
      go (if opens then s.openWindow.showRadio else s)
    else go s

/-- RXWIN_EXPIRY: the receive window runs out RXWIN ms after it was opened or restarted; the response window of R464, whose length is the standard's,
runs out. -/
def execRxwinExpiry (s : State) : Out :=
  if s.radioRunning then
    let stays := s.rad.window && !s.passed s.rad.windowAt (1000 * s.get GLN_CFG.RXWIN)
    go (State.showRadio { s with rad := { s.rad with window := stays, wmbWindow := false } })
  else go s

/-! ### EN 13757-4 telegrams (R463, R464, R497, R539) -/

/-- INT and the largest offset JIT, in AO ticks (R464). -/
def State.wmbInt (s : State) : Nat := s.get RAD_WMB.INT * 1024
def State.wmbJit (s : State) : Nat := s.wmbInt * s.get RAD_WMB.JIT / 100

/-- The next telegram is due: none has been sent since the start, or the time stands within JIT % of INT of its instant, or past it. DESIGN CHOICE
(log 41): the first one is due at once. -/
def State.wmbIsDue (s : State) : Bool := match s.rad.wmbDue with
  | none => true
  | some t => decide (t ≤ s.time.aoTick + s.wmbJit)

/-- The instant of the telegram after the one that is sent now. -/
def State.wmbNext (s : State) : State :=
  let t := match s.rad.wmbDue with
    | some t => if s.time.aoTick ≤ t + s.wmbJit then t else s.time.aoTick
    | none => s.time.aoTick
  { s with rad := { s.rad with wmbDue := some (t + s.wmbInt) } }

/-- The key slot of EN 13757-4 telegrams: one whose USE has bit 3 set (R494, R497). -/
def State.wmbSlot (s : State) : Option Nat :=
  (List.range 32).find? (fun n => s.get (SEC_KS_CFG.STATE n) != 0 && (s.get (SEC_KS_CFG.USE n)).testBit 3)

/-- WMB_TELEGRAM: the interval with its offset has run out; the telegram of R539, sealed through the port CRY under the slot that serves EN 13757-4
where there is one, goes into the own queue. APC reaches CRY under its lease alone (R19, R497). The bytes of the short header, access number, status
and configuration word, are not in the spec; nor is the initialisation vector, nor what fills the last block. -/
def execWmbTelegram (air : Nat) (s : State) : Out :=
  if !s.netRunning || !s.on RAD_CFG.EN || s.on RAD_CFG.BAND || s.get RAD_WMB.MODE == 0 || !s.wmbIsDue || !s.coreUp 1 then go s
  else if s.wmbSlot.isSome && (s.lease 1).holder != some 1 then go (s.refuse 1 4 11)
  else if s.rad.own.length = 8 then go ((s.wmbNext.bump MSH_CNT3.OWNREFUSED).raise Ev.OWN_REFUSED)
  else
    let s := s.wmbNext
    let (hdr, s) := s.fresh
    let record := if s.con.lastRecord.isEmpty then s.readingRecord (s.get CON_PSTAT.RSEQ) else s.con.lastRecord
    let slot := s.wmbSlot
    let head := [BitVec.ofNat 8 0x44] ++ leBytes 2 (s.get CON_PWMB0.MFR) ++ leBytes 4 (s.get CON_PWMB1.ID)
      ++ leBytes 2 (s.get CON_PWMB0.DEVVER) ++ [BitVec.ofNat 8 0x7A] ++ wordBytes [hdr]
    let queue (s : State) (plain : List Byte) : State :=
      let f : OutFrame := ⟨if slot.isSome then [] else enTelegram s.formatB plain, plain, slot, broadcast, false, false, 0, false, .plain⟩
      let g : RadFrame := ⟨s.rad.nextId, f, false, false, false, true, 0, 0, air, none, none, false, false, s.firstBe 0, 0⟩
      let s := { s with rad := { s.rad with own := s.rad.own ++ [g], nextId := s.rad.nextId + 1 } }
      if slot.isSome then s.radProtect g else s
    match slot with
    | none => go (queue s (BitVec.ofNat 8 (head.length + record.length) :: head ++ record)).showRadio
    | some _ =>
      let (p0, s) := s.fresh
      let (p1, s) := s.fresh
      let (p2, s) := s.fresh
      let (v0, s) := s.fresh
      let (v1, s) := s.fresh
      let (v2, s) := s.fresh
      let (v3, s) := s.fresh
      go (queue s (wordBytes [v0, v1, v2, v3] ++ BitVec.ofNat 8 (head.length + 32) :: head ++ record ++ wordBytes [p0, p1, p2])).showRadio

/-- WMB_RX: a telegram with a good CRC: under RXMODE 1 in a hub it becomes a WMB_FWD, from its L field, split to fit; in the response
window of modes 3, 5 and 7 it is handed to NWC. -/
def execWmbRx (telegram : List (BitVec 8)) (good : Bool) (s : State) : Out :=
  if !good || !s.radioOpen then go s
  else if s.get RAD_CFG.RXMODE = 1 ∧ !s.pod then
    let s := s.raise Ev.WMB_RX
    if !s.conRuns then go { s with inbox := s.inbox ++ [⟨4, 0, telegram, none, 0⟩] }
    else
    let limit := match s.placeFor 0 0 0 with
      | some (_, w) => s.bodyLimit w
      | none => 120
    let ps := piecesOf limit 4 telegram
    let n := ps.length
    go (((List.range n).zip ps).foldl (fun s x =>
      s.enqueueMsg ⟨3, conMessage 0x20 (decide (x.1 + 1 < n)) 0 x.2, 0, [], 0, 0, false⟩) s)
  else if s.rad.wmbWindow then
    go (State.raise { s with inbox := s.inbox ++ [⟨4, 0, telegram, none, 0⟩] } Ev.WMB_RX)
  else go s

end Sys2Proof.Machine
end

