-- ==== Sys2Proof/Machine/Keys.lean ====
section
/-! DEFINITION. The key commands and the confirmation of reservations (chapter 17), with what they do to the frames that wait in the
transports. -/

namespace Sys2Proof.Machine

/-! ### Keys (R418, R492, R506) -/

/-- RESV_STORED: the reservation is confirmed, and the frames that waited for it go on. -/
def execResvStored (s : State) : Out :=
  if s.twillRuns && s.reservationOver then go s.confirmReservations.radProtectAll.loopProtectAll.showRadio else go s

/-- Own frames protected under the old key of slot `n` and still waiting return to NWC, which protects them again; relays stay
(R506). -/
def State.unprotect (s : State) (n : Nat) : State :=
  let strip (f : OutFrame) : OutFrame := if f.slot = some n ∧ !f.relay then { f with bytes := [] } else f
  let early (t : Option Train) : Option Train :=
    t.filter (fun t => t.stage == .backoff && t.frames.any (fun f => f.slot == some n && !f.relay))
  let backs (t : Option Train) : List OutFrame := match early t with
    | some t => t.frames.filter (fun f => !f.relay)
    | none => []
  let keep (t : Option Train) : Option Train := if (early t).isSome then none else t
  let s := { s with pls := { s.pls with train := keep s.pls.train, held := keep s.pls.held,
                                        own := backs s.pls.train ++ backs s.pls.held ++ s.pls.own } }
  let hand := s.rad.active.map Prod.fst
  { s with pls := { s.pls with own := s.pls.own.map strip }
           lop := { s.lop with own := s.lop.own.map strip }
           rad := { s.rad with own := s.rad.own.map (fun (f : RadFrame) => if hand = some f.id then f else { f with f := strip f.f }) } }

/-- UPDATE, with the frames that wait under the slot's key. -/
def State.keyUpdate (s : State) (slot : Nat) (size : Bool) (use : Nat) : State :=
  let t := s.updateKey slot size use
  if t.get SEC_CMD.RESULT = 1 then (t.unprotect slot).radProtectAll.loopProtectAll else t

def execKeyUpdate (slot : Fin 32) (size : Bool) (use : BitVec 4) (s : State) : Out := s.onTwill (fun s => s.keyUpdate slot.val size use.toNat)

/-- ERASE. -/
def execKeyErase (slot : Fin 32) (s : State) : Out := s.onTwill (fun s => s.eraseKey slot.val)

end Sys2Proof.Machine
end

