-- ==== Sys2Proof/Machine/Legal.lean ====
section
/-! DEFINITION. The legal registers (R160, R381, R568, R602, R648): the area of CB0 that holds them, and loading a stored set, at a start and
after an LGC restart. -/

namespace Sys2Proof.Machine

/-! ### The area in CB0 (R371, R602)

Its layout is the ROM's own. The model keeps in Calico, for the words of the area, what was written over LGC's own words: the word read
is LGC's word with that difference. -/

/-- Words 0 to 0x3FF of Calico. -/
def inLegalArea (w : Nat) : Bool := decide (w < 0x400)

/-- LGC's own words of the area. DESIGN CHOICE (log 20). -/
def State.legalAreaWord (s : State) (w : Nat) : Word := Config.legalAreaWord s.bodyWords w

/-- Calico word `w`, as its data bits stand. -/
def State.calicoWord (s : State) (w : Nat) : Word :=
  let x := Memory.word s.calico (4 * w)
  if inLegalArea w && s.boot.legalLoaded then s.legalAreaWord w ^^^ x else x

/-- A full-word write, which replaces data and code (R21). -/
def State.setCalicoWord (s : State) (w : Nat) (v : Word) : State :=
  let x := if inLegalArea w && s.boot.legalLoaded then s.legalAreaWord w ^^^ v else v
  { s with calico := Memory.setWord s.calico (4 * w) x,
           fab := { s.fab with eccSingle := s.fab.eccSingle.filter (· != w), eccDouble := s.fab.eccDouble.filter (· != w) } }

/-- SEA_LCRC: formed at step 4, and kept over every write that LGC makes to the area. -/
def State.legalCrc (s : State) : Word :=
  if s.boot.legalLoaded then BitVec.ofNat 32 (crc32 (wordBytes ((List.range 0x400).map s.legalAreaWord))) else 0

/-- The area differs from its running CRC, or a read of it is refused with DATA_ERR. -/
def State.legalAreaBad (s : State) : Bool :=
  s.calico.any (fun e => decide (e.1 < 0x1000)) || s.fab.eccDouble.any inLegalArea

/-- LGC writes every word of the area. -/
def State.rewriteLegalArea (s : State) : State :=
  { s with calico := s.calico.filter (fun e => !decide (e.1 < 0x1000)),
           fab := { s.fab with eccSingle := s.fab.eccSingle.filter (fun w => !inLegalArea w),
                               eccDouble := s.fab.eccDouble.filter (fun w => !inLegalArea w) } }

/-! ### Which stored set is loaded (R160) -/

def State.legalHead (s : State) (k w : Nat) : Word := s.sramWord (regionWord 0 (legalSetWord k + w))

/-- The set CRC of set `k` is good. -/
def State.legalCrcGood (s : State) (k : Nat) : Bool :=
  let ws := (List.range 512).map (s.legalHead k)
  crc32 (wordBytes (ws.take 63 ++ ws.drop 64)) == (s.legalHead k 63).toNat

def legalPages (k : Nat) : List Nat := (List.range 8).map (· + 8 * k)

/-- Set `k` qualifies: at a start, every page of it is CLEAN or FORWARD with a good page CRC; and its set CRC is good. -/
def State.legalQualifies (s : State) (start : Bool) (k : Nat) : Bool :=
  (!start || (legalPages k).all (fun p => [1, 2].contains (s.pageOutcome p) && s.pageGood p)) && s.legalCrcGood k

/-- Every page of set `k` is EMPTY. -/
def State.legalEmpty (s : State) (k : Nat) : Bool := (legalPages k).all (fun p => s.pageOutcome p == 6)

/-- Set `j` counts as newer than set `k`, which is loaded. -/
def State.legalNewer (s : State) (j k : Nat) : Bool :=
  if s.pageGood (8 * j) then decide (s.legalGen k < s.legalGen j) else !s.legalEmpty j

/-- The set to load, and whether its load is a rollback. -/
def State.legalChoice (s : State) (start : Bool) : Option Nat × Bool :=
  match s.legalQualifies start 0, s.legalQualifies start 1 with
  | true, true => (some (if s.legalGen 0 < s.legalGen 1 then 1 else 0), false)
  | true, false => (some 0, s.legalNewer 1 0)
  | false, true => (some 1, s.legalNewer 0 1)
  | false, false => (none, !(s.legalEmpty 0 && s.legalEmpty 1))

/-! ### Loading a set -/

/-- The highest SEQ that the array holds. -/
def State.arraySeq (s : State) : Nat :=
  s.evt.legalLog.foldl (fun n e => if e.1 % 8 = 0 ∧ e.2 ≠ 0xFFFFFFFF then max n e.2.toNat else n) 0

def LegalBody.zero : LegalBody := { regs := [], residues := [], queue := [], seq := 0, routed := [], accrual := [] }

/-- The legal registers take a body; of its queue, the entries whose SEQ exceeds the highest that the array holds remain to be written
(R568). -/
def State.loadBody (s : State) (b : LegalBody) : State :=
  let s := legalWords.foldl (fun s a => s.wr a (Sparse.get resetWord b.regs a)) s
  let top := s.arraySeq
  let queue := b.queue.filter (fun e => decide (top < e.1))
  let seq := queue.foldl (fun n e => max n e.1) top
  let s := { s with flo := { s.flo with residues := b.residues, accrual := b.accrual }
                    evt := { s.evt with legalQ := queue, legalSeq := seq, routed := b.routed } }
  s.rewriteLegalArea.showLegal

/-- Vault words that keep the freeze number, the sum of spans, the latest span and its end cause (R381, Table STO-4). DEDUCED (log 21). -/
def frzNumWord : Nat := 0x020
def frzTotalWord : Nat := 0x021
def frzSpanWord : Nat := 0x023
def frzCauseWord : Nat := 0x024

/-- UMB_FRZNUM and UMB_TOTAL take the larger of the vault's value and the loaded set's (R381). -/
def State.loadFreezes (s : State) (num total : Nat) : State :=
  let n := max num (s.vaultWord frzNumWord).toNat
  let t := max total ((s.vaultWord frzTotalWord).toNat + 2 ^ 32 * (s.vaultWord (frzTotalWord + 1)).toNat)
  let s := ((s.setVaultNat frzNumWord n).setVaultNat frzTotalWord t).setVaultNat (frzTotalWord + 1) (t / 2 ^ 32)
  (s.put UMB_FRZNUM.N n).put2 UMB_TOTAL.addr t

/-- The legal alarm under LEGALZERO (R357). -/
def State.legalZero (s : State) : State := (s.put SYS_BOOT.LEGALZERO 1).legalAlarm 4

/-- The set of `choice` is loaded, or zero values; a rollback is reported (R160). `always` says that LEGAL_ROLLBACK is raised whatever was
loaded (R602). -/
def State.loadLegal (s : State) (choice : Option Nat × Bool) (always : Bool) : State :=
  match choice.1 with
  | some k =>
    let gen := s.legalGen k
    let s := s.loadBody ((Sparse.find s.sto.legalBodies gen).getD LegalBody.zero)
    let s := s.loadFreezes (s.legalHead k 4).toNat ((s.legalHead k 5).toNat + 2 ^ 32 * (s.legalHead k 6).toNat)
    let s := { s with sto := { s.sto with legalSet := k }, boot := { s.boot with legalLoaded := true } }
    let s := if choice.2 then s.put SYS_BOOT.LEGALBACK 1 else s
    if choice.2 || always then s.raiseWith Ev.LEGAL_ROLLBACK [BitVec.ofNat 32 gen] else s
  | none =>
    let s := (s.loadBody LegalBody.zero).loadFreezes 0 0
    let s := { s with boot := { s.boot with legalLoaded := true } }
    if choice.2 || always then s.legalZero.raiseWith Ev.LEGAL_ROLLBACK [0] else s

/-- The RTC stored with set `k`. -/
def State.legalTime (s : State) (k : Nat) : Nat := (s.legalHead k 1).toNat + 2 ^ 32 * ((s.legalHead k 2).toNat % 65536)

/-- The integrity check of an LGC restart (R602): the area agrees with its CRC, and the accrual queue is drained; or the stored set is
loaded, the accrual queue emptied, and the interval since the set was stored counts as fault time of every enabled point. -/
def State.legalCheck (s : State) : State :=
  let bad := s.legalAreaBad
  let s := (s.eccSweep 0 0 0x400).2
  if bad then
    let choice := s.legalChoice false
    let s := s.loadLegal choice true
    let s := { s with flo := { s.flo with accrual := [] } }
    let lost := match choice.1 with
      | some k => s.time.rtc.toNat - s.legalTime k
      | none => 0
    let s := (enabledPoints s.pod s.view).foldl (fun s i =>
      (s.addFaultTime (FLO_FTIME.addr i) lost).addFaultTime (NGE_FTIME.addr i) lost) s
    s.raise Ev.LGC_CRC_FAIL
  else s.drainAccrual

end Sys2Proof.Machine
end

