-- ==== Sys2Proof/Machine/Faults.lean ====
section
/-! DEFINITION. Lease commands, revocation and fencing, core restarts, the core watchdogs and halts, and patch images at a start and
at a restart (chapters 01, 12 and 22). -/

namespace Sys2Proof.Machine

/-! ### Lease commands (R31 to R35, R43, R44) -/

/-- RELEASE by its holder; the STC lease takes the holder's open transfer with it (R34, R406). -/
def State.releaseHeld (s : State) (i k : Nat) : State :=
  ((if k = 0 then s.stcLeaseEnd i else s).passLease k).setLeaseResult i 5

def State.release (s : State) (i k : Nat) : State :=
  if s.fenced i then s.leaseCommandFenced i
  else if s.leaseOff k then s.setLeaseResult i 7
  else if (s.lease k).holder = some i then s.releaseHeld i k
  else s.setLeaseResult i 3

/-- A lease command of an initiator that sends one (R42, R597) and that is no halted core (R604). -/
def State.leaseCommand (s : State) (i : Nat) (f : State → State) : State :=
  if s.twillRuns && sendsLeases i && (decide (2 < i) || !s.on (FLT_CORE.HALTED i)) then f s else s

/-- The initiators in the order in which a lease takes their ACQUIREs of one cycle: by class, then by number (R43). -/
def acquireOrder : List Nat := [3, 4, 5, 6, 7, 8, 9, 10, 11, 12, 0, 1, 2, 13]

/-- A RENEW or RELEASE of lease `k`. -/
def State.keepOrGive (s : State) (k : Nat) (c : LeaseCmd) : State := match c.op with
  | .renew => s.leaseCommand c.init.val (fun s => s.renew c.init.val k)
  | .release => s.leaseCommand c.init.val (fun s => s.release c.init.val k)
  | .acquire => s

/-- The RENEWs and RELEASEs of one cycle: only the holder's can change the lease. -/
def State.keepsOrGives (s : State) (k : Nat) (cs : List LeaseCmd) : State :=
  let mine (c : LeaseCmd) : Bool := (s.lease k).holder == some c.init.val
  (cs.filter (fun c => !mine c) ++ cs.filter mine).foldl (fun s c => s.keepOrGive k c) s

/-- The ACQUIREs of one cycle. -/
def State.acquires (s : State) (k : Nat) (cs : List LeaseCmd) : State :=
  (acquireOrder.filter (fun i => cs.any (fun c => c.op == .acquire && c.init.val == i))).foldl
    (fun s i => s.leaseCommand i (fun s => s.acquire i k)) s

/-- The lease commands for lease `k` that are accepted in one cycle, `between` falling between the holder's and the ACQUIREs (R43, R44). -/
def State.leaseCycle (s : State) (k : Nat) (cs : List LeaseCmd) (between : State → State) : State :=
  (between (s.keepsOrGives k cs)).acquires k cs

def execLeaseAcquire (i : Fin 14) (k : Fin 4) (also : List LeaseCmd) (s : State) : Out := go (s.leaseCycle k.val (⟨i, .acquire⟩ :: also) id)
def execLeaseRenew (i : Fin 14) (k : Fin 4) (also : List LeaseCmd) (s : State) : Out := go (s.leaseCycle k.val (⟨i, .renew⟩ :: also) id)
def execLeaseRelease (i : Fin 14) (k : Fin 4) (also : List LeaseCmd) (s : State) : Out := go (s.leaseCycle k.val (⟨i, .release⟩ :: also) id)

/-! ### Patch images at a start and at a restart (R156, R361, R601) -/

/-- The words of the stored image of core `n` (0 APC, 1 NWC). -/
def State.storedPatch (s : State) (n : Nat) : List Word :=
  let r := patchRegion n
  (List.range (min 4096 (patchLen ((List.range 2).map (fun k => s.sramWord (regionWord r k)))))).map (fun k => s.sramWord (regionWord r k))

/-- First word of the patch area of core `n`, in CB6 or CB7 (R22). -/
def patchArea (n : Nat) : Nat := 0x60000 + 0x10000 * n

/-- An image fails its check: BAD is set and PATCH_REFUSED raised; Table SEA-5 holds no code for it. DESIGN CHOICE (log 10). -/
def State.badPatch (s : State) (n : Nat) : State :=
  let (code, s) := s.fresh
  let version := s.rd (SEA_PATCH_VER.addr n) &&& 0x7FFFFFFF
  let s := s.wr (SEA_PATCH_VER.addr n) (version ||| 0x80000000)
  s.raiseWith Ev.PATCH_REFUSED [BitVec.ofNat 32 (n + 1 + 4 + 16 * (code.toNat % 16)), version, s.rd (SEA_PATCH_CRC.addr n)]

/-- An image is stored for core `n`. -/
def State.patchStored (s : State) (n : Nat) : Bool := s.sramWord (regionWord 3 (patchWord n 5)) != 0

/-- At a start: the stored image is checked and loaded into its area. -/
def State.loadPatch (s : State) (n : Nat) : State :=
  if s.patchStored n then
    let s := s.needRegion (patchRegion n)
    let ws := s.storedPatch n
    if crc32 (wordBytes ws) = (s.rd (SEA_PATCH_CRC.addr n)).toNat then
      ((List.range ws.length).zip ws).foldl (fun s x => s.setCalicoWord (patchArea n + x.1) x.2) s
    else s.badPatch n
  else s

/-- Core `n + 1` reads the image in its area: whether it has the CRC recorded for it, and the state (R21). -/
def State.areaPatchGood (s : State) (n : Nat) : Bool × State :=
  let len := min 4096 (patchLen [0, s.calicoWord (patchArea n + 1)])
  let ws := (List.range len).map (fun k => s.calicoWord (patchArea n + k))
  let (good, s) := s.eccSweep (n + 1) (patchArea n) (max 2 len)
  (good && crc32 (wordBytes ws) == (s.rd (SEA_PATCH_CRC.addr n)).toNat, s)

/-- At a restart: an image that this start loaded is checked where it stands (R601). -/
def State.recheckPatch (s : State) (n : Nat) : State :=
  if s.patchStored n && !(s.rd (SEA_PATCH_VER.addr n)).getLsbD 31 then
    match s.areaPatchGood n with
    | (true, s) => s
    | (false, s) => s.badPatch n
  else s

/-! ### Core restarts (R600, R604, Table FLT-3) -/

/-- WINDOW: restarts within the last 60 s of the AO tick. -/
def State.restartWindow (s : State) (c : Nat) : Nat :=
  min 8 ((Sparse.get (fun _ => []) s.fab.restartTicks c).filter (fun t => decide (s.time.aoTick < t + 61440))).length

/-- What a restart ends (Table FLT-3). -/
def State.restartEnds (s : State) (c : Nat) : State :=
  match c with
  | 0 => let s := s.stageInterrupt
         if s.sea.opening.isSome then s.denySession else s
  | 1 => s.localRestart
  | _ => s

/-- Core `c` has started: LGC at step 3, APC at step 4, NWC at step 5; under R167 APC and NWC start without step 4 being reached. -/
def State.coreStarted (s : State) (c : Nat) : Bool := s.boot.steps.testBit (c + 3) || s.boot.steps.testBit (c + 4)

/-- A restart of core `c` begins: its domain is reset, its leases fall free as by a RELEASE, its queue places go, and the restart is
counted. APC and NWC are halted when WINDOW reaches 8. A core that restarts already, or is halted, is not restarted. DEDUCED (log 5). -/
def State.coreRestart (s : State) (c cause : Nat) : State :=
  if s.coreUp c && s.coreStarted c then
    let s := [0, 1, 2, 3].foldl (fun s k => if (s.lease k).holder = some c then s.releaseHeld c k else s) s
    let s := s.leaveQueues c
    let ticks := s.time.aoTick :: (Sparse.get (fun _ => []) s.fab.restartTicks c)
    let s := { s with fab := { s.fab with waiting := s.fab.waiting.filter (fun r => r.init != c)
                                          restartTicks := Sparse.set (fun _ => []) s.fab.restartTicks c (ticks.take 8) } }
    let s := ((s.bump (FLT_CORE.RESTARTS c)).put (FLT_CORE.LAST c) cause).restartEnds c
    if c ≠ 0 ∧ s.restartWindow c = 8 then (s.put (FLT_CORE.HALTED c) 1).raise Ev.CORE_HALT
    else { s with fab := { s.fab with restarting := s.fab.restarting ++ [c] } }
  else s

/-- CORE_WDG: the watchdog of core `c` expires; it counts only while the core's clock runs (R603). -/
def execCoreWdg (c : Fin 3) (s : State) : Out :=
  if s.twillRuns && s.coreUp c.val && s.coreStarted c.val then go ((s.raise (Ev.CORE_WDG c.val)).coreRestart c.val 2)
  else go s

/-! ### Revocation, fences and domain resets (R35, R598, R599) -/

/-- A lease that has reached its expiry is revoked. Its holder is fenced; the restart of a core begins with its domain reset. -/
def State.revokeDue (s : State) (k : Nat) : State :=
  match (s.lease k).holder with
  | none => s
  | some i =>
    if s.twillRuns && decide ((s.lease k).expiry ≤ s.runUs) then
      let s := ((s.setLeaseResult i 6).passLease k).raise Ev.REVOKE
      let s := { s with fab := { s.fab with flushes := s.fab.flushes ++ [k + 4 * i] } }
      let s := s.fence i
      if i ≤ 2 then s.coreRestart i 1 else s
    else s

/-- REVOKE: the lease reaches its expiry, `also` being the lease commands for it that are accepted in that cycle (R43, R44). -/
def execLeaseRevoke (k : Fin 4) (also : List LeaseCmd) (s : State) : Out := go (s.leaseCycle k.val also (fun s => s.revokeDue k.val))

/-- Key of a word inside a target that deep space gives no address. -/
def portKey (t a : Nat) : Nat := 2 ^ 24 * t + a

/-- What a former holder left in the port of a target is discarded (Table FLT-1). -/
def State.clearPort (s : State) (t : Nat) : State :=
  { s with fab := { s.fab with ports := s.fab.ports.filter (fun e => !(decide (portKey t 0 ≤ e.1) && decide (e.1 < portKey (t + 1) 0))) } }

/-- TARGET_FLUSH: the target of lease `k` has finished what it had accepted, and discards the former holder's work (Table FLT-1).
A frame or train loaded whole stays. -/
def execTargetFlush (k : Fin 4) (s : State) : Out :=
  match (if s.twillRuns then s.fab.flushes.find? (fun x => x % 4 == k.val) else none) with
  | none => go s
  | some x =>
    let s := { s with fab := { s.fab with flushes := eraseFirst (fun y => y == x) s.fab.flushes } }
    let s := match k with
      | 0 => s.stcLeaseEnd (x / 4)
      | k => s.clearPort (k.val + 10)
    go (s.raise Ev.TARGET_FLUSH)

/-- What H_CTRL.WINRST does: every window's address, latches, buffer and held half are cleared (Table HST-9). -/
def State.winReset (s : State) : State :=
  let s := { s with hst := { s.hst with windows := [] }
                    fab := { s.fab with latch := s.fab.latch.filter (fun e => decide (e.1 < 32 * 2 ^ 24))
                                        held := s.fab.held.filter (fun e => decide (e.1 < 32 * 2 ^ 24)) } }
  [0, 1, 2].foldl (fun s n =>
    ((((s.put (W_SEL.ADDRHI n) 0).put (W_ADDR.ADDR n) 0).put (W_STAT.BUSY n) 0).put (W_STAT.RDY n) 0).put (W_STAT.LOHELD n) 0) s

/-- The key is disarmed (R193). -/
def State.disarmKey (s : State) : State := s.put H_STAT.ARMED 0

/-- DOMAIN_RESET_END: the domain reset that ends a fence is over (R599). The bridge's slots are free since the fence was set. -/
def execDomainResetEnd (i : Fin 14) (s : State) : Out :=
  if s.twillRuns && s.fab.resets.contains i.val then
    let s := { s with fab := { s.fab with resets := eraseFirst (fun j => j == i.val) s.fab.resets } }
    let s := (s.setFenced i.val false).raise Ev.FENCE_CLEAR
    if i.val = 13 then go ((s.winReset.disarmKey).raise Ev.HBR_RESET) else go s
  else go s

end Sys2Proof.Machine
end

