-- ==== Sys2Proof/Machine/Domains.lean ====
section
/-! DEFINITION. Which power and clock domains are on, as PWR_DOMn and CLK_RUNn show them (Tables PWR-3, PWR-4, CLK-2, STA-2): in Run each domain of
the profile that the work in hand needs (R90), and each clock domain whose blocks are powered (R124). What work needs a domain, and from when, is
the model's reading of the blocks' own chapters. DESIGN CHOICE (log 37). -/

namespace Sys2Proof.Machine

/-! ### The work in hand -/

/-- Echo engine `k` is occupied by an event, or has shots to process. -/
def State.engineInUse (s : State) (k : Nat) : Bool :=
  (match s.fir.cur with
   | some e => e.occupies k
   | none => false) || !(s.shotQueue k).isEmpty

/-- Receive channel `n` belongs to a member of an event between its preparation and its release. -/
def State.channelInUse (s : State) (n : Nat) : Bool := match s.fir.cur with
  | some e => e.events.any (fun v => v.prepared && !v.released && v.members.any (fun m => m.rx == n))
  | none => false

/-- A channel of conversion group `g` (4: the bridge) has still to convert in the present epoch. -/
def State.groupConverts (s : State) (g : Nat) : Bool := match s.fir.cur with
  | some e => (e.channelsDue s.pod).any (fun c => chanGroup c == g && !e.converted.contains c)
  | none => false

def State.anyConverts (s : State) : Bool := [0, 1, 2, 3, 4].any s.groupConverts

/-- Some point runs in profile mode. -/
def State.profileMode (s : State) : Bool := (List.range (mpCount s.pod)).any (fun i => s.on (FLO_CFG.EN i) && s.on (FLO_CFG.MODE i))

/-- A domain that a transport, the local ports or the drive needs (PD110 to PD147). -/
def State.blockInUse (s : State) (d : Nat) : Bool :=
  let tail := !s.fir.tails.isEmpty
  if d = 110 then tail
  else if d = 111 then tail || s.anyConverts || !s.flo.queues.isEmpty
  else if d = 114 then (s.lease 1).holder.isSome
  else if d = 118 ∨ d = 144 ∨ d = 145 then s.plsRunning
  else if d = 120 then s.radioOpen || s.radioSending
  else if d = 121 then s.radioSending
  else if d = 122 then s.radioRunning
  else if d = 123 then s.on GLN_CFG.EN
  else if 124 ≤ d ∧ d ≤ 126 then s.netRunning && s.on LOP_CFG.EN
  else if d = 128 then s.on LOC_OPT.EN && !s.on SYS_PINCFG.OPTDIS
  else if d = 129 then s.on LOC_DSTAT.ON
  else if d = 136 then s.fir.cur.isSome
  else if d = 137 then s.anyConverts || [0, 1, 2, 3].any s.engineInUse
  else if d = 138 then !s.on SYS_PINCFG.AUXDIS
  else if 140 ≤ d ∧ d ≤ 143 then s.engineInUse (d - 140)
  else if d = 147 then tail && s.profileMode
  else true

/-- The work in hand needs power domain `d`, from step 3 of the start on. -/
def State.domainInUse (s : State) (d : Nat) : Bool :=
  if d = 5 then s.coreStarted 1
  else if d = 6 then s.coreStarted 2
  else if 10 ≤ d ∧ d ≤ 13 then !(s.get PWR_BANK.OFF).testBit (d - 10)
  else if 16 ≤ d ∧ d ≤ 19 then s.engineInUse (d - 16)
  else if 20 ≤ d ∧ d ≤ 35 then s.channelInUse (d - 20)
  else if 36 ≤ d ∧ d ≤ 39 then s.engineInUse (d - 36)
  else if 40 ≤ d ∧ d ≤ 103 then s.port (d - 40) != .clamped
  else if 104 ≤ d ∧ d ≤ 107 then s.groupConverts (d - 104)
  else if d = 108 then [0, 1, 2, 3].any s.groupConverts
  else if d = 109 then s.groupConverts 4
  else if 110 ≤ d then s.blockInUse d
  else true

/-! ### The domains -/

/-- The power domains that are on. -/
def State.domainsOn (s : State) : List Nat :=
  if s.shed then [0, 4, 7, 8, 112, 113]
  else match s.mode with
    | .run =>
      if s.boot.steps.testBit 3 then (profileDomains s.pod (s.on SYS_STRAP.LCDEN)).filter s.domainInUse
      else spanOf 0 3 ++ [7] ++ (if s.boot.steps.testBit 2 then spanOf 8 15 else []) ++ [112, 113] ++ spanOf 131 135
    | .doze => spanOf 4 6 ++ [8, 9] ++ (spanOf 10 13).filter (fun d => (s.get PWR_BANK.RET).testBit (d - 10)) ++ [14, 15, 113]
        ++ (if s.pod then [123] else []) ++ (if s.on PWR_CFG.LCDDOZE && s.on SYS_STRAP.LCDEN then [129] else []) ++ [130]
    | .listen => [123]
    | _ => []

/-- The power domain of the blocks that clock domain `c` clocks (Tables PWR-3 and CLK-2); none for the sources and for AO logic. -/
def clockBlock (c : Nat) : Option Nat :=
  if c ≤ 2 ∨ c = 59 then none
  else if c = 3 then some 0
  else if c ≤ 6 then some c
  else if c ≤ 10 then some (c + 9)
  else if c ≤ 14 then some (c + 25)
  else if c ≤ 30 then some (140 + (c - 15) / 4)
  else if c ≤ 34 then some (c + 73)
  else if c = 35 then some 109
  else if c ≤ 39 then some (c + 79)
  else match c with
    | 40 => some 122
    | 41 => some 123
    | 42 => some 124
    | 43 => some 124
    | 44 => some 125
    | 45 => some 127
    | 46 => some 127
    | 47 => some 134
    | 48 => some 128
    | 49 => some 129
    | 50 => some 114
    | 51 => some 112
    | 52 => some 111
    | 53 => some 110
    | 54 => some 131
    | 55 => some 132
    | 56 => some 139
    | 58 => some 134
    | 61 => some 119
    | 62 => some 138
    | _ => some 130

/-- The clock domains that CLK_RUNn shows as clocked. CD00 keeps being shown while LFXO has failed, its blocks being clocked by the LPO then; CD02 is
not while HFXO has failed. -/
def State.clocksShown (s : State) : List Nat :=
  if s.mode == .run && s.boot.steps.testBit 3 then
    let on := s.domainsOn
    s.clocksOn.filter (fun c => match clockBlock c with
      | some d => on.contains d
      | none => true)
  else s.clocksOn

/-- The register words that show them. -/
def State.showOn (s : State) (a : Nat) : Option Word :=
  let part (xs : List Nat) (n : Nat) : Option Word := some (BitVec.ofNat 32 (maskOf xs / 2 ^ (32 * n)))
  if PWR_DOM.addr 0 ≤ a ∧ a ≤ PWR_DOM.addr 4 then part s.domainsOn (a - PWR_DOM.addr 0)
  else if a = CLK_RUN.addr 0 ∨ a = CLK_RUN.addr 1 then part s.clocksShown (a - CLK_RUN.addr 0)
  else none

end Sys2Proof.Machine
end

