-- ==== Sys2Proof/Machine/RegRead.lean ====
section
/-! DEFINITION. What a read of a deep-space register returns: the live word, with the fields that the model derives at the read (domains
that are on, remaining times, mirrors of other registers), masked to the bits that read at all (R5, R9). -/

namespace Sys2Proof.Machine

/-- The higher words of the multi-word registers (R11); each follows its low word. -/
def highWords : List RegDef :=
  [⟨SYS_TSTART_H.addr, 1, 1, 1, 1, []⟩, ⟨PWR_ALARM_H.addr, 1, 1, 1, 1, []⟩, ⟨FLO_VOLF_H.addr 0, 0x40, 4, 1, 1, []⟩,
   ⟨FLO_VOLR_H.addr 0, 0x40, 4, 1, 1, []⟩, ⟨FLO_FTIME_H.addr 0, 0x40, 4, 1, 1, []⟩, ⟨NGE_HEAT_H.addr 0, 0x40, 4, 1, 1, []⟩,
   ⟨NGE_COOL_H.addr 0, 0x40, 4, 1, 1, []⟩, ⟨NGE_VOLB_H.addr 0, 0x40, 4, 1, 1, []⟩, ⟨NGE_FTIME_H.addr 0, 0x40, 4, 1, 1, []⟩,
   ⟨BIL_LASTB_H.addr, 1, 1, 1, 1, []⟩, ⟨BIL_MP_TR_H.addr 0 0, 0x100, 4, 2, 8, []⟩, ⟨BIL_MP_BASE_H.addr 0, 0x100, 4, 1, 1, []⟩,
   ⟨BIL_MP_DLASTT_H.addr 0, 0x100, 4, 1, 1, []⟩, ⟨BIL_MP_MDT_H.addr 0 0, 0x100, 4, 3, 9, []⟩, ⟨UMB_ENTRY_H.addr, 1, 1, 1, 1, []⟩,
   ⟨UMB_TOTAL_H.addr, 1, 1, 1, 1, []⟩, ⟨STG_AT_H.addr, 1, 1, 1, 1, []⟩, ⟨STG_LASTB_H.addr, 1, 1, 1, 1, []⟩,
   ⟨SEA_PATCH_AT_H.addr 0, 4, 2, 1, 1, []⟩, ⟨CON_POD_LAST_H.addr 0, 8, 0xfa, 1, 1, []⟩]

def isHighWord (a : Nat) : Bool := highWords.any (fun r => r.has a)
def isLowWord (a : Nat) : Bool := isHighWord (a + 1)

/-- The lower word of a multi-word RW register: PWR_ALARM and STG_AT (R133). -/
def isHeldWord (a : Nat) : Bool := a == PWR_ALARM.addr || a == STG_AT.addr

/-- The slice of the open log that a reader has selected (R573). -/
def State.obankOf (s : State) (reader : Nat) : Nat := Sparse.get (fun _ => 0) s.evt.obank reader

/-- Minutes since a mesh neighbour was heard, held at 255 (MSH_NBRn_B.AGE). -/
def State.nbrAge (s : State) (n : Nat) : Nat :=
  match Sparse.find s.rad.nbrs n with
  | some x => min 255 ((s.time.aoTick - x.heard) / 61440)
  | none => 0

/-- A candidate word at a node that is not the head-end (R451: it reads 0 there and ignores writes). -/
def State.candClosed (s : State) (a : Nat) : Bool :=
  decide (PLS_CAND_DEST.addr 0 ≤ a) && decide (a < PLS_CAND_DEST.addr 64) && !s.on PLS_CFG.ROLE

/-- The word at `a` with its derived fields, for a reader (an initiator 0 to 13, or window n as 32 + n). DESIGN CHOICE (log 2). -/
def State.derived (s : State) (reader a : Nat) : Word :=
  let w := s.rd a
  match s.showOn a with
  | some x => x
  | none =>
    if a = TWL_LEASE_CMD.addr then TWL_LEASE_CMD.RESULT.into w (s.leaseResult (if 32 ≤ reader then 13 else reader))
    else if TWL_LEASE.addr 0 ≤ a ∧ a ≤ TWL_LEASE.addr 3 then
      let k := a - TWL_LEASE.addr 0
      if s.leaseOff k then 0 else (TWL_LEASE.REMAIN k).into w (s.leaseRemain k)
    else if FLT_CORE.addr 0 ≤ a ∧ a ≤ FLT_CORE.addr 2 then
      let c := a - FLT_CORE.addr 0
      (FLT_CORE.WINDOW c).into w (s.restartWindow c)
    else if a = SEA_LOCK.addr then SEA_LOCK.REMAIN.into w (lockRemain s.time.aoTick s.sea.lockEnd)
    else if STO_LOCK.addr 0 ≤ a ∧ a ≤ STO_LOCK.addr 16 then
      let c := a - STO_LOCK.addr 0
      (STO_LOCK.REMAIN c).into w (lockRemain s.time.aoTick (Sparse.find s.sto.lockEnd c))
    else if a = SEA_LCRC.addr then s.legalCrc
    else if a = SEA_LGCID0.addr then Config.romVersion 0
    else if a = SEA_LGCID1.addr then Config.lgcRomCrc
    else if FIR_PATH_A.addr 0 ≤ a ∧ a < FIR_PATH_A.addr 32 ∧ (a - FIR_PATH_A.addr 0) % 4 = 0 then
      let p := (a - FIR_PATH_A.addr 0) / 4
      (FIR_PATH_A.ENG p).into w (s.get (FIR_PATH_A.PORTA p) / 16)
    else if a = PLS_STAT.addr then
      PLS_STAT.LOCK.into w ((s.get (CLK_ZC.LOCK 0)) + 2 * s.get (CLK_ZC.LOCK 1) + 4 * s.get (CLK_ZC.LOCK 2))
    else if MSH_NBR_B.addr 0 ≤ a ∧ a ≤ MSH_NBR_B.addr 319 ∧ (a - MSH_NBR_B.addr 0) % 2 = 0 then
      let n := (a - MSH_NBR_B.addr 0) / 2
      (MSH_NBR_B.AGE n).into w (s.nbrAge n)
    else if ECH_STAT.addr 0 ≤ a ∧ a ≤ ECH_STAT.addr 3 ∧ (a - ECH_STAT.addr 0) % (ECH_STAT.addr 1 - ECH_STAT.addr 0) = 0 then
      let k := (a - ECH_STAT.addr 0) / (ECH_STAT.addr 1 - ECH_STAT.addr 0)
      (ECH_STAT.RXBUSY k).into w (s.rxBusy k)
    else if LOP_ST.addr 0 ≤ a ∧ a < LOP_ST.addr 63 ∧ !s.on LOP_CFG.ROLE then 0
    else if a = RAD_DUTY.addr then RAD_DUTY.USED.into w (min 65535 (s.dutyUsed / 100000))
    else if a = LOG_OBANK.addr then LOG_OBANK.BANK.into w (s.obankOf reader)
    else if s.candClosed a then 0
    else w

/-- A word of a billing snapshot slot, served from SR09 (R332). -/
def State.snapWord (s : State) (a : Nat) : Word :=
  let o := a - BIL_SNAP.addr 0 0
  let i := o / 0x800
  let k := o % 0x800
  if k < 64 * 18 then s.sramWord (regionWord 9 (64 * 18 * i + k)) else 0

/-- What a read of register word `a` returns, without side effect. -/
def State.readReg (s : State) (reader a : Nat) : Word :=
  if BIL_SNAP.addr 0 0 ≤ a ∧ a < BIL_SNAP.addr 4 0 then s.snapWord a
  else s.derived reader a &&& readMask a &&& ~~~ hardZero s.pod a

end Sys2Proof.Machine
end

