-- ==== Sys2Proof/Machine/Clock.lean ====
section
/-! DEFINITION. Clock domains (chapter 04): the zero-crossing trackers, and how the chip detects a failed clock and what it does without
it. -/

namespace Sys2Proof.Machine

/-! ### The zero-crossing trackers (R135, R136) -/

/-- 300 µs and 100 µs in the tracker's unit, 1/19.2 µs. -/
def zcWindow : Int := 5760
def zcSpread : Int := 1920

def Tracker.fresh (_ : Nat) : Tracker := ⟨0, 0, none, 0, false, .acquire []⟩
def State.tracker (s : State) (k : Nat) : Tracker := Sparse.get Tracker.fresh s.clk.trackers k

/-- The tracker and what CLK_ZCk shows of it: P in µs, rounded to nearest, LOCK and HOLD (Table CLK-12). -/
def State.setTracker (s : State) (k : Nat) (t : Tracker) : State :=
  let s := { s with clk := { s.clk with trackers := Sparse.set Tracker.fresh s.clk.trackers k t } }
  let s := s.put (CLK_ZC.HALF k) (roundDiv (10 * t.p) 192).toNat
  (s.putB (CLK_ZC.LOCK k) (t.stage == .locked)).put (CLK_ZC.HOLD k) t.hold

/-- Every tracker starts acquisition afresh, at a resume and at a start (R448). -/
def State.trackersAfresh (s : State) : State := [0, 1, 2].foldl (fun s k => s.setTracker k (Tracker.fresh k)) s

/-- The trackers run: CD61, in the Hub profile (R124, R139). -/
def State.trackersRun (s : State) : Bool := s.clocksOn.contains 61

/-- A deviating crossing (R135, R136): it restarts acquisition during settling; while locked it is held over up to 16 times in a
row, and the next one clears LOCK, P kept and HOLD 0. DESIGN CHOICE (log 12). `seen` is the crossing, where there is one. -/
def State.zcDeviates (s : State) (k : Nat) (t : Tracker) (seen : Option Int) : State :=
  match t.stage with
  | .acquire _ => s
  | .settle _ => s.setTracker k { t with last := seen, hold := 0, missed := false, stage := .acquire [] }
  | .locked =>
    if t.hold < 16 then
      ((s.setTracker k { t with r := t.r + t.p, last := seen, hold := t.hold + 1, missed := seen.isNone }).bump (CLK_ZC.IGNORED k)).raise Ev.ZC_IGNORED
    else (s.setTracker k { t with last := seen, hold := 0, missed := false, stage := .acquire [] }).raise Ev.ZC_LOST

/-- The eight latest intervals lie within 100 µs of their mean, and the mean between 7,692 and 11,111 µs (R136). -/
def acquired (ivs : List Int) : Bool :=
  let sum := ivs.foldl (· + ·) 0
  decide (ivs.length = 8) && ivs.all (fun v => decide ((8 * v - sum).natAbs ≤ 8 * zcSpread.natAbs))
    && decide (8 * 7692 * 192 ≤ 10 * sum) && decide (10 * sum ≤ 8 * 11111 * 192)

/-- A crossing observed at `t` during acquisition. When settling starts, P is the mean of the eight intervals and r the crossing that ended the
last of them. DESIGN CHOICE (log 12). -/
def Tracker.observe (t : Tracker) (at_ : Int) (ivs : List Int) : Tracker :=
  match t.last with
  | none => { t with last := some at_ }
  | some l =>
    let ivs := ((at_ - l) :: ivs).take 8
    if acquired ivs then
      { t with p := roundDiv (ivs.foldl (· + ·) 0) 8, r := at_, last := some at_, hold := 0, missed := false, stage := .settle 0 }
    else { t with last := some at_, stage := .acquire ivs }

/-- ZERO_CROSSING: the crossing of a phase is observed at `t`, in 1/19.2 µs (R135, R136). A crossing that follows one counted as not
seen belongs to that half-cycle, and is not counted again. DESIGN CHOICE (log 12). -/
def execZeroCrossing (phase : Fin 3) (t : Int) (s : State) : Out :=
  if s.trackersRun then
    let k := phase.val
    let x := s.tracker k
    let e := t - (x.r + x.p)
    let near := decide (e.natAbs ≤ zcWindow.natAbs)
    let kept : Tracker := { x with r := x.r + x.p + roundDiv e 4, p := x.p + roundDiv e 16, last := some t, hold := 0, missed := false }
    match x.stage with
    | .acquire ivs => go (s.setTracker k (x.observe t ivs))
    | .settle n =>
      if near then
        if n + 1 = 32 then go ((s.setTracker k { kept with stage := .locked }).raise Ev.ZC_LOCK)
        else go (s.setTracker k { kept with stage := .settle (n + 1) })
      else go (s.zcDeviates k x (some t))
    | .locked =>
      if near then go (s.setTracker k kept)
      else if x.missed && decide (e < 0) then go (s.setTracker k { x with missed := false })
      else go (s.zcDeviates k x (some t))
  else go s

/-- ZC_MISSED: no crossing of the phase is seen by the prediction plus 300 µs. -/
def execZcMissed (phase : Fin 3) (s : State) : Out :=
  if s.trackersRun then go (s.zcDeviates phase.val (s.tracker phase.val) none) else go s

/-! ### Failures of the crystals and PLLs (Table CLK-5, R137 to R142, R145) -/

/-- The oscillators of Run are on: HFXO runs in Run and during a freeze, and not once the load is shed (R124, R143). -/
def State.oscOn (s : State) : Bool := (s.mode == .run) && !s.shed && s.boot.steps.testBit 2

/-- LFXO_FAIL: the RTC and the LFXO domains move to the LPO. A crystal that has not started fails once the 1.5 s of its start-up are over (R144). A
MISMATCH that is set stays: the counts that would clear it end with LFXO. DESIGN CHOICE (log 23). -/
def execLfxoFail (s : State) : Out :=
  let starting := !s.on CLK_STAT.LFXOOK && decide (cycUs (s.time.cyc - s.boot.released) < 1500000)
  if s.clk.lfxoFailed || starting then go s
  else
    let s := ((s.put CLK_STAT.LFXOOK 0).put CLK_STAT.RTCSRC 1).bump CLK_FAIL.LFXO
    go (State.raise { s with clk := { s.clk with lfxoFailed := true } } Ev.LFXO_FAIL)

/-- LFXO_BACK, at a 1/1024 s boundary; a crystal that starts within the 1.5 s of a start has not failed (R144). -/
def execLfxoBack (s : State) : Out :=
  if s.on CLK_STAT.RTCSRC ∧ s.time.presc = 0 then
    let s := (s.put CLK_STAT.LFXOOK 1).put CLK_STAT.RTCSRC 0
    go { (s.raiseIf s.clk.lfxoFailed Ev.LFXO_BACK) with clk := { s.clk with lfxoFailed := false } }
  else go s

/-- Every domain of CD07 to CD44, CD48, CD61 and CD62 stops: shots in flight are discarded and nothing prepared fires, frames in flight are
abandoned, the by-pass closes, and the optical port stops (R139). -/
def State.frontEndStops (s : State) : State :=
  let s := (s.discardFlying (fun _ => true)).disarm (fun _ => true)
  ((s.plsStop.radStop).closeBypass).optEnd

/-- The system domains move to the SRO, and the front-end domains stop; in a freeze they do so at the resume (R139, R142). DEDUCED (log 23). -/
def State.toSro (s : State) : State :=
  let s := s.put CLK_STAT.SYSSRC 1
  let s := { s with clk := { s.clk with hfxoGood := 0, mismatchGood := 0 } }
  if s.umb.frozen then s else s.frontEndStops

/-- HFXO_FAIL. In a freeze the read-out stops, D[15:0] undriven (R142). -/
def execHfxoFail (s : State) : Out :=
  if s.oscOn && s.on CLK_STAT.HFXOOK then
    let s := ((s.put CLK_STAT.HFXOOK 0).put CLK_STAT.SPLLOK 0).bump CLK_FAIL.HFXO
    let s := (s.raise Ev.HFXO_FAIL).toSro
    go (if s.umb.frozen then { s with umb := { s.umb with stopped := true }, pins := { s.pins with dOut := none } } else s)
  else go s

/-- SPLL_UNLOCK: as HFXO stopped. While HFXO is stopped it is not reported. -/
def execSpllUnlock (s : State) : Out :=
  if s.oscOn && s.on CLK_STAT.HFXOOK && s.on CLK_STAT.SPLLOK then
    go ((((s.put CLK_STAT.SPLLOK 0).bump CLK_FAIL.SPLL).raise Ev.SPLL_UNLOCK).toSro)
  else go s

/-- HFXO cycles over 32 cycles of the RTC source, within window: 37,463 to 37,537 against LFXO (R140); within 3 % of
32 × 38.4 MHz / f against the LPO, f the frequency of the latest calibration (R650). With no calibration yet, f is 0 and no count is within
window: the rule's value does not exist. DESIGN CHOICE (log 23). -/
def State.countInWindow (s : State) (count : Nat) : Bool :=
  if s.on CLK_STAT.RTCSRC then
    let f := s.get CLK_LPO.FREQ
    let want := 32 * 3840000000
    decide (97 * want ≤ 100 * count * f) && decide (100 * count * f ≤ 103 * want) && f != 0
  else decide (37463 ≤ count) && decide (count ≤ 37537)

/-- HFXO_RESTART_TRY: a count of the restarted HFXO. -/
def execHfxoRestartTry (count : Nat) (s : State) : Out :=
  if s.oscOn && s.on CLK_STAT.SYSSRC then
    let n := if s.countInWindow count then s.clk.hfxoGood + 1 else 0
    go { s with clk := { s.clk with hfxoGood := n } }
  else go s

/-- HFXO_BACK: four counts in a row were within window, and the SPLL locks. A read-out that stood still goes on (R142). -/
def execHfxoBack (s : State) : Out :=
  if s.oscOn && s.on CLK_STAT.SYSSRC && decide (4 ≤ s.clk.hfxoGood) then
    let s := ((s.put CLK_STAT.HFXOOK 1).put CLK_STAT.SPLLOK 1).put CLK_STAT.SYSSRC 0
    let s := { s with clk := { s.clk with hfxoGood := 0 }, umb := { s.umb with stopped := false } }
    go (s.raise Ev.HFXO_BACK).bypassIfRelay
  else go s

/-- An echo engine of the profile. -/
def State.hasEngine (s : State) (k : Nat) : Bool := k == 0 || !s.pod

/-- EPLL_UNLOCK: engine k fires nothing, and its shots in flight are discarded. -/
def execEpllUnlock (k : Fin 4) (s : State) : Out :=
  let v := s.get CLK_STAT.EPLLOK
  if s.oscOn && !s.umb.frozen && v.testBit k.val then
    let s := ((s.put CLK_STAT.EPLLOK (v - 2 ^ k.val)).bump CLK_FAIL.EPLL).raise Ev.EPLL_UNLOCK
    go ((s.discardFlying (fun e => e == k.val)).disarm (fun e => e == k.val))
  else go s

/-- EPLL_RELOCK, held for 1 ms, on a reference that runs (Table CLK-1). -/
def execEpllRelock (k : Fin 4) (s : State) : Out :=
  if s.oscOn && !s.umb.frozen && s.hasEngine k.val && s.on CLK_STAT.HFXOOK then go (s.put CLK_STAT.EPLLOK (s.get CLK_STAT.EPLLOK ||| 2 ^ k.val)) else go s

/-! ### The LPO and the crystals against each other -/

/-- LPO_RANGE: the Doze timer runs from LFXO. The range is measured against LFXO. -/
def execLpoRange (s : State) : Out :=
  if s.on CLK_STAT.LPOOK ∧ s.on CLK_STAT.LFXOOK ∧ s.clocksOn.contains 1 then
    go (State.raise { (s.put CLK_STAT.LPOOK 0) with clk := { s.clk with lpoSince := s.time.cyc } } Ev.LPO_RANGE)
  else go s

/-- LPO_BACK, in range for 16 s, which no loss of the range is shorter ago than. -/
def execLpoBack (s : State) : Out :=
  if s.on CLK_STAT.LFXOOK ∧ s.clocksOn.contains 1 ∧ 16000000 ≤ cycUs (s.time.cyc - s.clk.lpoSince) then go (s.put CLK_STAT.LPOOK 1) else go s

/-- LPO_CALIBRATE: `freq` in 0.01 Hz (R138). -/
def execLpoCalibrate (freq : BitVec 22) (s : State) : Out :=
  if s.oscOn && !s.umb.frozen && s.on CLK_STAT.RTCSRC && s.on CLK_STAT.HFXOOK then go (s.put CLK_LPO.FREQ freq.toNat) else go s

/-- XO_MISMATCH_COUNT: a count while LFXO, HFXO and the SPLL all run (R140); four in a row within window end a mismatch. -/
def execXoMismatchCount (count : Nat) (s : State) : Out :=
  if s.oscOn && !s.umb.frozen && s.on CLK_STAT.LFXOOK && s.on CLK_STAT.HFXOOK && s.on CLK_STAT.SPLLOK then
    let good (s : State) (n : Nat) : State := { s with clk := { s.clk with mismatchGood := n } }
    if decide (37463 ≤ count) && decide (count ≤ 37537) then
      if s.on CLK_STAT.MISMATCH then
        if 3 ≤ s.clk.mismatchGood then go (good (s.put CLK_STAT.MISMATCH 0) 0) else go (good s (s.clk.mismatchGood + 1))
      else go s
    else if s.on CLK_STAT.MISMATCH then go (good s 0)
    else go (good ((s.put CLK_STAT.MISMATCH 1).raise Ev.XO_MISMATCH) 0)
  else go s

/-! ### The end of the RTC, and the die temperature -/

/-- RTC_END: the count has reached its end, where it holds (R15). -/
def execRtcEnd (s : State) : Out :=
  if s.time.rtc = 0xFFFFFFFFFFFF ∧ !s.clk.rtcEnded then
    go (State.raise { s with clk := { s.clk with rtcEnded := true } } Ev.RTC_END)
  else go s

/-- TEMP_SAMPLE: the die temperature in the unit of SYS_TEMP.TEMP (Table ELE-13), at an epoch start or each minute in Doze (R626). -/
def execTempSample (value : BitVec 16) (s : State) : Out :=
  if (s.mode == .run && !s.umb.frozen || s.mode == .doze) && !s.shed then go (s.put SYS_TEMP.TEMP value.toNat) else go s

end Sys2Proof.Machine
end

