-- ==== Sys2Proof/Machine/Umbra.lean ====
section
/-! DEFINITION. Umbra (chapter 13): the freeze, its record and its image, the read-out, the freeze span and the RTC, and the resume. -/

namespace Sys2Proof.Machine

abbrev Half := BitVec 16

def half (n : Nat) : Half := BitVec.ofNat 16 n

/-- A number as `n` words, the low one first (R369). -/
def halves : Nat → Nat → List Half
  | 0, _ => []
  | n + 1, v => half v :: halves n (v / 65536)

/-- A two's complement number as `n` words. -/
def halvesI (n : Nat) (v : Int) : List Half := halves n (v % ((2 : Int) ^ (16 * n))).toNat

def wordHalves (ws : List Word) : List Half := ws.flatMap (fun w => halves 2 w.toNat)

/-- Bytes packed two to a word, the lower address in bits 7:0 (R369). -/
def packBytes : List Byte → List Half
  | a :: b :: rest => (b ++ a) :: packBytes rest
  | _ => []

/-- Exactly `n` words: what a section holds, then 0 (R373). -/
def padTo (n : Nat) (xs : List Half) : List Half := (xs ++ List.replicate n 0).take n

/-! ### The freeze record (Table UMB-5) -/

def inBits (bs : List Bool) : Nat := ((List.range bs.length).zip bs).foldl (fun v x => if x.2 then v + 2 ^ x.1 else v) 0

/-- A shot of engine `k` is in flight. -/
def State.shotFlying (s : State) (k : Nat) : Bool := match s.fir.cur with
  | none => false
  | some e => e.events.any (fun v => v.members.any (fun m => m.engine == k && (m.fwd == .flying || m.rev == .flying)))

/-- Engine `k` has shots of an epoch that is in its tail. -/
def State.inTail (s : State) (k : Nat) : Bool :=
  s.fir.tails.any (fun e => (match e.engines[k]? with | some c => c.sched | none => 0) != 0)

def State.sendingPls (s : State) : Bool := match s.pls.train with
  | some t => t.stage == .sending
  | none => false
def State.sendingRadio (s : State) : Bool :=
  (match s.rad.active with | some (_, st) => st == RadStage.sending | none => false)
  || (match s.rad.ack with | some a => a.sending | none => false)

/-- The record at acceptance; `receiving` says that a radio frame, and `loopIn` that a loop frame to the node, was being received, and `cut`
and `stood` what the freeze did to a host access. -/
def State.freezeRecord (s : State) (programming receiving loopIn cut stood : Bool) : List Half :=
  let page := match s.sto.run with
    | some r => r.todo.headD 0
    | none => 0
  padTo 64 (halves 3 s.time.rtc.toNat
    ++ [half (s.time.presc + 32768 * s.get CLK_STAT.RTCSRC)]
    ++ halves 3 (match s.fir.cur with | some e => e.startRtc | none => 0)
    ++ [half (s.get FIR_EPOCH.EPLOG), half (s.get SYS_BOOT.PHASE),
        half (inBits ((List.range 4).map s.shotFlying) + 16 * inBits ((List.range 4).map s.inTail)),
        half (inBits [s.sendingPls || s.pls.rx.isSome, s.sendingRadio, receiving, loopIn]),
        half (if programming then 1 + 2 * page else 0),
        half (s.stageState false + 16 * s.stageState true),
        half (inBits [cut, stood]), half (s.umb.dozeWake.toNat)])

/-- First vault word of the record (R381). -/
def frzRecordWord : Nat := 0x028

/-! ### The image (R369 to R374) -/

/-- Words that nothing the model holds decides: the ROM's own contexts and the records whose word layout the manual does not print. -/
def State.freeHalf (s : State) (k : Nat) : Half := (Config.freeWord (s.free + k)).truncate 16
def State.freeHalves (s : State) (k n : Nat) : List Half := (List.range n).map (fun j => s.freeHalf (k + j))

/-- A logical page that holds region passwords (SR03, page 7) or key material (SR05) (R370). DEDUCED (log 21). -/
def secretPage (p : Nat) : Bool := p == regionFirst 3 + 7 || pageRegion p == 5

def State.imageHeader (s : State) : List Half :=
  padTo 64 ([0x554D, 0x0001] ++ [0x4632, 0x4201, 0x8000, 0x0001]
    ++ halves 2 (s.vaultWord frzNumWord).toNat
    ++ wordHalves [Config.romVersion 0, Config.lgcRomCrc]
    ++ [half (s.rd SYS_STRAP.addr).toNat, half (s.get SEA_CTR.CTR), half (s.rd SEA_STAT.addr).toNat, half (s.get STG_VER.CFGVER)])

/-- Vault bytes; a copy of a secret page that stands in the page buffer is sent as 0 (R370). -/
def State.imageVault (s : State) : List Half :=
  let secret := secretPage (s.vaultWord 0x0F0).toNat
  wordHalves ((List.range 1024).map (fun w => if secret && decide (0x0B0 ≤ w) && decide (w < 0x0F0) then 0 else s.vaultWord w))

/-- The legal register area, a word with a double-bit error as 0 (R371). -/
def State.imageLegal (s : State) : List Half :=
  wordHalves ((List.range 0x400).map (fun w => if s.fab.eccDouble.contains w then 0 else s.calicoWord w))

def State.imageShadow (s : State) : List Half :=
  (List.range 512).flatMap (fun p => if secretPage p then List.replicate 128 0 else packBytes (Memory.bytes s.sto.sram (256 * p) 256))

/-- Every deep-space word that holds a register, ascending, snapshot slots apart (R372, R645). -/
def imageRegs : List Nat :=
  ((deepRegs.flatMap RegDef.members ++ (List.range 576).map (· + 0x030000)).filter
    (fun a => !(decide (BIL_SNAP.addr 0 0 ≤ a) && decide (a < BIL_SNAP.addr 4 0)))).mergeSort

/-- The words of a run, given its first word and how many follow it. -/
def takeRun : Nat → Nat → List Nat → List Nat
  | 0, _, _ => []
  | _, _, [] => []
  | n + 1, next, a :: as => if a = next then a :: takeRun n (next + 1) as else []

/-- Ascending words as runs of at most 256 (R372). -/
def runsOf : Nat → List Nat → List (List Nat)
  | 0, _ => []
  | _, [] => []
  | n + 1, a :: as =>
    let r := takeRun 256 a (a :: as)
    r :: runsOf n ((a :: as).drop r.length)

/-- The reader of the read-out engine: no initiator. -/
def umbraReader : Nat := 31

/-- A register as the image shows it: 0 where the profile does not power it, for a read there returns 0 (R4, R27). -/
def State.imageReg (s : State) (a : Nat) : Word := if s.powered a then s.readReg umbraReader a else 0

def State.imageRuns (s : State) : List Half :=
  padTo 23296 ((runsOf 8192 imageRegs).flatMap (fun r =>
    [half (r.headD 0), half (r.headD 0 / 65536 + 256 * (r.length - 1))] ++ wordHalves (r.map s.imageReg)) ++ [0xFFFF, 0xFFFF])

/-- The pairs of path `p` that the engines have handed on for the epoch not yet closed to FLE: n, the sums of both times of flight and of
Δ, in fs. -/
def State.imagePairs (s : State) (p : Nat) : List Half :=
  let es := s.fir.tails.filter (fun e => !e.cut) ++ s.fir.cur.toList
  let ps := match es with
    | e :: _ => e.pairs.filter (fun (r : PairRec) => r.path == p)
    | [] => []
  let sum (f : PairRec → Int) : Int := ps.foldl (fun v r => v + f r) 0
  padTo 16 (half ps.length :: halvesI 4 (sum (·.tofF)) ++ halvesI 4 (sum (·.tofR))
    ++ halvesI 4 (sum (fun r => r.tofR - r.tofF - s.getI (FIR_PATH_D.ZFO p))))

def sumInt (xs : List Int) : Int := xs.foldl (· + ·) 0

/-- Section 6 (Table UMB-6); `k` numbers the free words. -/
def State.imageEngines (s : State) (k : Nat) : List Half :=
  let core (c : Nat) : List Half :=
    s.freeHalves (k + 256 * c) 5 ++ [half (s.get (FLT_CORE.RESTARTS c))] ++ s.freeHalves (k + 256 * c + 6) 250
  let path (i : Nat) : List Half :=
    let h := s.pathHistory (i / 2) (i % 2 == 1)
    [half (if h.amps.isEmpty then 0 else meanDown h.amps), half h.amps.length] ++ halvesI 2 (roundDiv (h.ref.getD 0) 1000)
  let rx (n : Nat) : List Half :=
    let xs := Sparse.get (fun _ => []) s.arv.phi n
    halvesI 2 (if xs.isEmpty then 0 else roundDiv (sumInt xs) xs.length)
  let shots (q : Nat) : List Half :=
    let n := (Sparse.get (fun _ => []) s.fir.queues q).length
    padTo 256 (s.freeHalves (k + 0x420 + 256 * q) (16 * min 16 n))
  let results (q : Nat) : List Half :=
    padTo 16 (s.freeHalves (k + 0x820 + 16 * (q - 4)) (4 * (Sparse.get (fun _ => []) s.flo.queues q).length))
  padTo 2688 ([0, 1, 2].flatMap core ++ padTo 256 ((List.range 64).flatMap path) ++ (List.range 16).flatMap rx
    ++ [0, 1, 2, 3].flatMap shots ++ [4, 5, 6, 7, 8].flatMap results ++ (List.range 32).flatMap s.imagePairs)

/-- Section 7 (Table UMB-6). -/
def State.imageQueues (s : State) (k : Nat) : List Half :=
  let lease (n : Nat) : List Half :=
    let l := s.lease n
    let left := if l.holder.isSome then (l.expiry - s.runUs) * 768 / 10 else 0
    padTo 16 (half (l.holder.getD 0) :: halves 2 left ++ l.queue.map half)
  let waits (i : Nat) : List Half := match s.fab.waiting.find? (fun r => r.init == i) with
    | some r => half r.target :: s.freeHalves (k + 4 * i) 3
    | none => [0, 0, 0, s.freeHalf (k + 4 * i + 3)]
  padTo 2556 (wordHalves ((List.range 36).map (fun b => s.rd (EVT_HPEND.addr b))) ++ [0, 1, 2, 3].flatMap lease
    ++ (List.range 14).flatMap waits ++ padTo 32 (packBytes (s.lop.queue.flatten ++ [0]))
    ++ padTo 256 (padTo 64 s.mbx.tx ++ padTo 64 s.mbx.rx ++ s.mbx.queue.map (fun m => m.words.headD 0))
    ++ padTo 2048 (s.evt.fifo.flatMap (fun e => wordHalves (entryWords 0 e))))

/-- The CRC-32 over words taken as little-endian bytes (R374). -/
def crcHalves (ws : List Half) : Nat := crc32 (ws.flatMap (fun w => leBytes 2 w.toNat))

/-- The image, its CRC as the two last words. -/
def State.umbraImage (s : State) : List Half :=
  let zeros := 2 * (s.fab.eccDouble.filter inLegalArea).length
  let body := s.imageHeader ++ s.umb.record ++ s.imageVault ++ s.imageLegal ++ s.imageShadow ++ s.imageRuns
    ++ s.imageEngines 0 ++ s.imageQueues 2688 ++ [half (min 0xFFFF zeros), half (s.vaultWord frzNumWord).toNat]
  body ++ halves 2 (crcHalves body)

/-! ### The read-out position (R375 to R378) -/

/-- A rising edge of UCLK. -/
def Umbra.advanced (u : Umbra) : Umbra :=
  if u.pos < 98303 then { u with pos := u.pos + 1 }
  else if u.pos = 98303 then { u with pos := 98304, complete := true }
  else { u with past := true, overCnt := u.overCnt + 1 }

def Umbra.rewound (u : Umbra) : Umbra := { u with pos := 0, complete := false, past := false }

/-- Edges (false) and rewinds (true) in their order. -/
def Umbra.moved (u : Umbra) (ms : List Bool) : Umbra := ms.foldl (fun u m => if m then u.rewound else u.advanced) u

/-! ### Freeze entry (R65, R74, R76, R365 to R368) -/

/-- FRZ_N_FALL: an edge on FRZ_N; `high` says that FRZ_N had been high for 100 ns since the reset release (R76). In a freeze whose resume
deglitch runs, the freeze continues, and the edges within the deglitch count (R66, *What if FRZ_N rises at the same moment as a UCLK edge?*). -/
def execFrzNFall (high : Bool) (s : State) : Out :=
  if s.pins.vioHBad then go s
  else if s.shed then go ((s.bump UMB_STAT.IGNORED).raise Ev.FRZ_IGNORED)
  else if s.umb.frozen then
    go { s with umb := { s.umb.moved s.umb.held with held := [] }
                pins := { s.pins with frzRising := false, awaitFall := s.pins.awaitFall || s.pins.frzRising } }
  else match s.mode with
    | .reset => go s
    | .run => if high then go { s.wake Wake.frz with pins := { s.pins with frzFalling := true } } else go s
    | .doze =>
      if high then
        let s := s.wake Wake.frz
        go { s with pins := { s.pins with frzFalling := true }, umb := { s.umb with dozeWake := true } }
      else go s
    | _ => go (s.wake Wake.frz)

/-- What stage 1 stops: shots, frames, outputs and the by-pass (Tables UMB-1 and UMB-2). -/
def State.freezeStops (s : State) : State :=
  let s := (s.discardFlying (fun _ => true)).disarm (fun _ => true)
  ((s.plsStop.radStop).closeBypass).pulsesFreeze

/-- FREEZE_ACCEPT: FRZ_N has stayed low for 100 ns, and the freeze before has been recorded (R386). `programming` says that the programming of the page in hand has begun, `cut` names the
host access on the bus that had not completed, by A[6:1], beside those that wait at Twill, `stood` says that a forwarded write which Twill had accepted stands. DESIGN CHOICE (log 22). -/
def execFreezeAccept (programming receiving loopIn : Bool) (cut : Option (BitVec 6)) (stood : Bool) (s : State) : Out :=
  if s.pins.frzFalling && s.mode == .run && !s.umb.frozen && !s.shed && !s.pins.vioHBad && s.umb.due.isNone then
    let prog := programming && (match s.sto.run with | some r => !r.todo.isEmpty | none => false)
    let record := s.freezeRecord prog receiving loopIn cut.isSome stood
    let entry := s.time.rtc.toNat
    let doze := s.umb.dozeWake
    let waiting := !s.hst.slots.isEmpty
    let s := match cut with
      | some off => (s.windowCode off.toNat 0xF).hostRefusal 0xF off.toNat
      | none => s
    let s := (s.endHostAccesses 0xF).freezeStops
    let s := s.setVaultNat frzNumWord ((s.vaultWord frzNumWord).toNat + 1)
    let s := { s with vault := Memory.setBytes s.vault (4 * frzRecordWord) (record.flatMap (fun (w : Half) => leBytes 2 w.toNat)) }
    let s := { s with pins := { s.pins with frzFalling := false, frzRising := false, waitLow := false, dOut := none, awaitFall := false,
                                            csHigh := s.pins.csHigh && cut.isNone && !waiting },
                      umb := { State.reset.umb with frozen := true, programming := prog, record := record, entry := entry, dozeWake := doze,
                                                    stopped := !s.on CLK_STAT.HFXOOK } }
    go (s.bump H_FRZ_STAT.FREEZES)
  else go s

/-! ### The read-out (R375 to R378, R142) -/

/-- The word at the read-out position; 0xFFFF past the end. -/
def State.umbraWord (s : State) : Half := if s.umb.pos < 98304 then s.umb.image.getD s.umb.pos 0 else 0xFFFF

/-- The read-out engine serves UCLK and CS_N: the port is enabled and nothing stops it (R116, R142, R376). -/
def State.readOutServes (s : State) : Bool :=
  s.umb.frozen && s.umb.ready && s.umb.port && !s.umb.stopped && !s.pins.vioHBad

/-- It serves them, outside a resume deglitch. -/
def State.readOutRuns (s : State) : Bool := s.readOutServes && !s.pins.frzRising

/-- The word at the position is driven while CS_N is low (R56). -/
def State.driveUmbra (s : State) : State := { s with pins := { s.pins with dOut := some s.umbraWord } }

/-- IMAGE_READY: stage 4 is complete, and the page that was being programmed is stored (R366). The image shows its completion mark in the
journal; what STC does with the page after that is frozen, and shows at the resume. Where CS_N is low, the first word is driven now. -/
def execImageReady (s : State) : Out :=
  if s.umb.frozen && !s.umb.ready then
    let image := (if s.umb.programming then s.unbufferPage else s).umbraImage
    let s := if s.umb.programming then s.storePage true else s
    let crc := (image.getD 98302 0).toNat + 65536 * (image.getD 98303 0).toNat
    let s := { s with free := s.free + 98304
                      umb := { s.umb with programming := false, ready := true, image := image, crc := some crc } }
    go (if s.readOutRuns && !s.pins.csHigh && !s.pins.awaitFall then s.driveUmbra else s)
  else go s

/-- CS_N rises: the chip releases D[15:0] (R56). -/
def State.csRise (s : State) (rises : Bool) : State :=
  if rises then { s with pins := { s.pins with dOut := none, csHigh := true } } else s

/-- UMBRA_PORT_ENABLE: the clock domains have stopped, and CS_N has been high for 20 ns. `falls` says that CS_N then falls, so that the word at
the position is driven (Table BAL-4, steps 4 and 5). -/
def execUmbraPortEnable (falls : Bool) (s : State) : Out :=
  if s.umb.frozen then
    let s := State.takeRole { s with umb := { s.umb with port := true }, pins := { s.pins with dOut := none, csHigh := true } }
    let s := if falls then { s with pins := { s.pins with csHigh := false, awaitFall := false } } else s
    go (if falls && s.readOutRuns then s.driveUmbra else s)
  else go s

/-- The read-out engine sees an edge (false) or a rewind (true); one within the resume deglitch waits for its outcome (R66). -/
def State.umbraMove (s : State) (m : Bool) : State :=
  if s.pins.frzRising then { s with umb := { s.umb with held := s.umb.held ++ [m] } } else { s with umb := s.umb.moved [m] }

/-- UMBRA_ADVANCE: a rising edge of UCLK while CS_N is low. `fell` says that CS_N fell since the row before, `rises` that it rises after the
edge. After a rise of FRZ_N only a fall of CS_N makes the chip drive again (R66). -/
def execUmbraAdvance (fell rises : Bool) (s : State) : Out :=
  if s.readOutServes then
    let s := s.umbraMove false
    let s := { s with pins := { s.pins with csHigh := false, awaitFall := s.pins.awaitFall && !fell } }
    let s := if s.pins.awaitFall || s.pins.frzRising then s else s.driveUmbra
    go (s.csRise rises)
  else go s

/-- UMBRA_REWIND: CS_N falls while RD_N is low. -/
def execUmbraRewind (rises : Bool) (s : State) : Out :=
  if s.readOutServes then
    let s := s.umbraMove true
    let s := { s with pins := { s.pins with csHigh := false, awaitFall := false } }
    let s := if s.pins.frzRising then s else s.driveUmbra
    go (s.csRise rises)
  else go s

/-! ### The end of a freeze (R66, R379 to R388) -/

/-- FRZ_N_RISE: the drivers of D[15:0] go off and the resume deglitch starts; a low that has not been accepted is ignored (R74). -/
def execFrzNRise (s : State) : Out :=
  if s.pins.vioHBad then go s
  else go { s with pins := { s.pins with frzFalling := false, frzRising := s.umb.frozen, awaitFall := s.pins.awaitFall || s.umb.frozen
                                         dOut := if s.umb.frozen then none else s.pins.dOut }
                   umb := { s.umb with dozeWake := s.umb.dozeWake && s.umb.frozen } }

/-- The RTC after `a` ticks: it holds at its end (R15). -/
def rtcAfter (rtc a : Nat) : Nat := min 0xFFFFFFFFFFFF (rtc + a)

/-- The freeze ends with `cause`: the span counter stops, the RTC advances, and span and cause go into the vault (R379, R381). -/
def State.endFreeze (s : State) (cause : Nat) : State :=
  let n := s.time.presc + s.umb.span
  let a := n / 32
  let s := (s.setVaultNat frzSpanWord s.umb.span).setVaultNat frzCauseWord cause
  let cur := s.fir.cur.map (fun e => { e with span := e.span + a })
  { s with time := { s.time with rtc := BitVec.ofNat 48 (rtcAfter s.time.rtc.toNat a), presc := n % 32 }
           fir := { s.fir with cur := cur }
           umb := { s.umb with frozen := false, ready := false, port := false, image := [], due := some (s.umb.span, a, cause) }
           pins := { s.pins with frzRising := false, awaitFall := false, dOut := none, dRole := .floating } }

/-- Step 5 of Table UMB-8: LGC adds the span to UMB_TOTAL, writes the UMB registers and raises the events (R383, R387, R388). DEDUCED (log 21). -/
def State.recordFreeze (s : State) : State :=
  match s.umb.due with
  | none => s
  | some (span, a, cause) =>
    let u := s.umb
    let abandon := !u.complete && decide (0 < u.pos)
    let num := (s.vaultWord frzNumWord).toNat
    let total := s.get2 UMB_TOTAL.addr + a
    let s := ((s.setVaultNat frzTotalWord total).setVaultNat (frzTotalWord + 1) (total / 2 ^ 32)).put2 UMB_TOTAL.addr total
    let (open_, s) := s.fresh
    let s := (((s.putB UMB_STAT.COMPLETE u.complete).putB UMB_STAT.OVER u.past).putB UMB_STAT.ABANDON abandon).putB UMB_STAT.SPANEND (cause == 2)
    let s := ((s.put UMB_STAT.ENDCAUSE cause).put UMB_STAT.STOP (open_.toNat % 141)).bumpBy UMB_STAT.OVERCNT u.overCnt
    let s := ((s.put UMB_FRZNUM.N num).put2 UMB_ENTRY.addr u.entry).put UMB_SPAN.CYC span
    let s := (s.put UMB_READ.WORDS u.pos).put UMB_CRC.CRC (u.crc.getD open_.toNat)
    let s := s.put H_FRZ_STAT.DONE 1
    let w6 := u.entry / 2 ^ 32 + 0x10000 * cause + (inBits [u.complete, u.past, abandon]) * 0x80000
    let s := (s.raise Ev.FRZ_ENTER).raiseWith Ev.FRZ_RESUME (([num, u.entry, w6, a] : List Nat).map (BitVec.ofNat 32))
    let s := ((s.raiseIf u.complete Ev.UMB_COMPLETE).raiseIf u.past Ev.UMB_OVER).raiseIf abandon Ev.UMB_ABANDON
    let s := (s.raiseIf (cause == 3) Ev.FRZ_PF).raiseIf (cause == 4) Ev.FRZ_RESET
    { s with umb := State.reset.umb }

/-- LGC records a freeze as soon as it can: it runs, and its legal registers are loaded. -/
def State.recordFreezeIfReady (s : State) : State :=
  if s.boot.legalLoaded && s.coreUp 0 && !s.umb.frozen then s.recordFreeze else s

/-- The chip resumes (Table UMB-8), `high` saying whether CS_N, and D0 in serial mode, has been high for 20 ns (R63): the rest of the epoch does not fire, the sets take their boundaries, requests of the host are withdrawn,
the trackers start afresh, pulses cut short are sent again. With HFXO failed the consequences of R139 follow (R142). -/
def State.resume (s : State) (cause : Nat) (high : Bool) : State :=
  let s := (s.endFreeze cause).stopEpoch
  let s := { s with fab := { s.fab with waiting := s.fab.waiting.filter (fun r => r.init != 13) }
                    pins := { s.pins with csHigh := high } }
  let s := ((s.takeRole.stageResume s.umb.entry).trackersAfresh).pulsesResume
  let s := if s.on CLK_STAT.SYSSRC then s.frontEndStops else s
  s.bypassIfRelay.recordFreezeIfReady

/-- RESUME_ACCEPT: FRZ_N has stayed high for 100 ns. -/
def execResumeAccept (high : Bool) (s : State) : Out := if s.umb.frozen && s.pins.frzRising then go (s.resume 1 high) else go s

/-- SPAN_END: the span counter has reached 0xFFFF_FFFF. -/
def execSpanEnd (high : Bool) (s : State) : Out :=
  if s.umb.frozen && decide (0xFFFFFFFF ≤ s.umb.span) then go ((s.resume 2 high).raise Ev.SPAN_END) else go s

/-! ### The end of a core's restart (R602 to R606) -/

/-- CORE_RESTART_DONE: the core runs again (R601, R602, Table FLT-3). -/
def execCoreRestartDone (c : Fin 3) (s : State) : Out :=
  if s.twillRuns && s.fab.restarting.contains c.val && !s.fenced c.val then
    let s := { s with fab := { s.fab with restarting := s.fab.restarting.filter (· != c.val) } }
    let s := s.raise (Ev.CORE_RESTART c.val)
    match c with
    | 0 => go (if s.boot.legalLoaded then s.legalCheck.recordFreezeIfReady.takeWaiting else s)
    | 1 => go ((s.recheckPatch 0).displayRun.pulsesResume)
    | 2 => go ((s.recheckPatch 1).reserveAll true)
  else go s

end Sys2Proof.Machine
end

