-- ==== Sys2Proof/Machine/Power.lean ====
section
/-! DEFINITION. Supplies, power failures and modes (chapter 03): the monitors of VIO_H, VIO_L, VDRV and VBAT, the power-fail sequence of Table
PWR-7, Vault and the way out of it, and the requests for Doze, Listen and Vault. -/

namespace Sys2Proof.Machine

/-! ### The vault's copies (Table STO-4) -/

/-- Vault words that keep the start counts and the power-fail record, as SYS_RSTCNT and PWR_PF lay them out. -/
def rstcntWord : Nat := 0x004
def pfWord : Nat := 0x005

/-- SYS_RSTCNT and PWR_PF go into the vault. -/
def State.keepCounts (s : State) : State :=
  (s.setVaultWord rstcntWord (s.rd SYS_RSTCNT.addr)).setVaultWord pfWord (s.rd PWR_PF.addr)

/-! ### VIO_L, VIO_H and VDRV (R67, R81, R115, R116, R448) -/

/-- VIOL_LOSS: every VIO_L output is off; the by-pass closes, trains are abandoned, and the optical session, whose messages no head can see,
ends. DEDUCED (log 22). -/
def execViolLoss (s : State) : Out :=
  if s.on PWR_STAT.VIOLOK then go (((((s.put PWR_STAT.VIOLOK 0).plsStop).closeBypass).optEnd).raise Ev.VIOL_LOSS) else go s

/-- VIOL_BACK. The external-relay type of by-pass switches at once (R526). -/
def execViolBack (s : State) : Out := go (s.put PWR_STAT.VIOLOK 1).bypassIfRelay

/-- VIOH_LOSS: the host bus is not driven, and its inputs and FRZ_N are ignored. In reset a pre-sample of the straps does not stand: VIO_H has
not been good for the whole of it (R58, R649). The event is one of a chip that runs (R116). -/
def execViohLoss (s : State) : Out :=
  if s.pins.vioHBad then go s
  else
    let s := (s.put PWR_STAT.VIOHOK 0).raiseIf (s.mode != .reset) Ev.VIOH_LOSS
    go { s with pins := { s.pins with vioHBad := true, dRole := .floating, dOut := none, waitLow := false, frzFalling := false
                                      frzRising := false }
                pwr := { s.pwr with presample := none } }

/-- VIOH_BACK: VIO_H has been good for 1 ms; `high` says whether CS_N, and D0 in serial mode, has been high for 20 ns (R63). -/
def execViohBack (high : Bool) (s : State) : Out :=
  let s := s.put PWR_STAT.VIOHOK 1
  go (State.takeRole { s with pins := { s.pins with vioHBad := false, csHigh := high } })

/-- VDRV_FAULT: no shot is fired while VDRVOK is 0, nor one of an event prepared before it (R115, R256). -/
def execVdrvFault (s : State) : Out := go (((s.put PWR_STAT.VDRVOK 0).disarm (fun _ => true)).raise Ev.VDRV_FAULT)

def execVdrvBack (s : State) : Out := go (s.put PWR_STAT.VDRVOK 1)

/-! ### VBAT (R107, R108, R118) -/

/-- VBAT falls below 2.45 V: the bit, and the event at the fall. -/
def State.batEnd (s : State) : State := if s.on PWR_STAT.BATEND then s else (s.put PWR_STAT.BATEND 1).raise Ev.BATEND

/-- BATEND, in the Hub profile: no power failure (R108). -/
def execBatend (s : State) : Out := if s.pod then go s else go s.batEnd

/-- VBAT_SAMPLE: `mv` in mV. BATLOW is 1 while the latest three samples lie below the threshold; a Hub sample of 2.45 V or more shows that
VBAT is no longer below it. -/
def execVbatSample (mv : BitVec 12) (s : State) : Out :=
  if s.mode == .run && !s.umb.frozen && !s.shed && s.boot.steps.testBit 3 then
    let s := s.put PWR_VBAT.MV mv.toNat
    let low := decide (mv.toNat < 2000 + 10 * s.get PWR_CFG.BATLOW)
    let n := if low then min 3 (s.pwr.lowSamples + 1) else 0
    let s := { s with pwr := { s.pwr with lowSamples := n } }
    let s := if !s.pod && decide (2450 ≤ mv.toNat) then s.put PWR_STAT.BATEND 0 else s
    let s := s.raiseIf (decide (n = 3) && !s.on PWR_STAT.BATLOW) Ev.BATLOW
    go (s.putB PWR_STAT.BATLOW (decide (n = 3)))
  else go s

/-- The vault and the RTC count are lost, with the registers that the vault keeps across starts (R118). -/
def State.clearVault (s : State) : State :=
  let s := [PWR_PF.addr, SYS_RSTCNT.addr, UMB_FRZNUM.addr, UMB_TOTAL.addr, UMB_TOTAL_H.addr].foldl (fun s a => s.wr a 0) s
  let s := (s.put SEA_LOCK.FAILS 0).put SEA_LOCK.LEVEL 0
  let s := (List.range 17).foldl (fun s c => (s.put (STO_LOCK.FAILS c) 0).put (STO_LOCK.LEVEL c) 0) s
  { s with vault := []
           time := { s.time with rtc := 0, presc := 0 }
           pwr := { s.pwr with pfCut := false, rstoreCut := false }
           boot := { s.boot with lostSets := 0 }
           sea := { s.sea with lockEnd := none }
           sto := { s.sto with lockEnd := [] }
           umb := { s.umb with due := none } }

/-- VAULT_RETENTION_LOSS: the AO supply is below 1.80 V, and so below its power-on reset threshold. -/
def execVaultRetentionLoss (s : State) : Out :=
  let s := s.clearVault
  go { s with pwr := { s.pwr with vaultLost := true, aoReset := true } }

/-! ### The power-fail sequence (Table PWR-7, R99 to R103, R109 to R112, R151, R161, R165) -/

/-- The raises that stand at the handshake are taken, in order: between the declaration and the end of the load shed the matrix still
runs. -/
def State.takeRaises (s : State) : State :=
  if s.matrixRuns then
    (List.range s.evt.raises.length).foldl (fun s _ => match minBy s.raiseKey s.evt.raises with
      | some r => s.takeRaise r
      | none => s) s
  else s

/-- R45: the STC lease is revoked without a fence, and its queue is cleared. -/
def State.pfRevoke (s : State) : State :=
  match (s.lease 0).holder with
  | some i => ((s.setLeaseResult i 6).setLease 0 (Lease.free 0)).raise Ev.PF_REVOKE
  | none => s.setLease 0 (Lease.free 0)

/-- A freeze ends with the given cause, once the page in hand is stored (R109, R366, R387, R388). -/
def State.breakFreeze (s : State) (cause : Nat) : State :=
  if s.umb.frozen then (if s.umb.programming then s.storePage true else s).endFreeze cause else s

/-- Steps 2 and 3: the page in hand completes (R110), the transfer closes, shots, epochs and frames end, the by-pass closes, and the host bus
is not driven; the system domains move to the SRO, and HFXO with its PLLs is powered down (R143). -/
def State.shedLoad (s : State) (pf : PfStage) : State :=
  let s := match s.sto.run with
    | some r => if r.todo.isEmpty then s else s.storePage true
    | none => s
  let s := if s.sto.transfer.isSome then s.closeTransfer 6 else s
  let s := s.pfRevoke.closeEpochs
  let s := (((s.plsStop.radStop).closeBypass).pulsesFreeze).optEnd.displayOff
  let s := s.stagePowerFail.takeRaises
  let s := (((s.put CLK_STAT.SYSSRC 1).put CLK_STAT.HFXOOK 0).put CLK_STAT.SPLLOK 0).put CLK_STAT.EPLLOK 0
  { s with mode := .run
           pins := { s.pins with dRole := .floating, dOut := none, waitLow := false, frzFalling := false }
           fab := { s.fab with waiting := [] }
           sto := { s.sto with check := none, run := none }
           pwr := { s.pwr with pf := pf, storeCut := false, request := none, dozeEntry := false } }

/-- Steps 4 and 5: LGC writes its registers into SR00, unless they have not been loaded or LGC restarts (R161, R605), and the store of every
dirty page begins. At every store of SR03 the LEVELs go into it first (R413). Before step 2 of a start nothing is dirty, and the journal still open is left for the next start to resolve (R165). -/
def State.storeAll (s : State) : State :=
  let able := s.boot.legalLoaded && s.coreUp 0
  let s := if able then s.writeLegalSet else s
  let s := if able && !(s.dirtyOf 3).isEmpty then s.keepLevels else s
  if s.boot.steps.testBit 2 then s.beginStore 16 (s.sto.dirty.filter (fun p => !s.sto.exhausted.contains (pageRegion p)))
  else { s with sto := { s.sto with run := some ⟨16, [], 0, false⟩ } }

/-- A power failure is declared. During a reset store it goes on with the pages still dirty (R165); during a start the set values that
were not loaded stay out of the store. DEDUCED (log 23). -/
def State.declare (s : State) : State :=
  let s := ((s.breakFreeze 3).bump PWR_PF.PFS).keepCounts
  if s.pwr.pf == .resetStore then
    State.raise { s with pwr := { s.pwr with pf := .storing, storeCut := false } } Ev.PF_DECLARED
  else (((s.raise Ev.PF_DECLARED).flagSession 4).shedLoad .storing).storeAll

/-- The source of AO (R87): VBAT in the Pod, and in the Hub while VMAIN is not good outside a dip or a sequence. -/
def State.showAoSource (s : State) : State :=
  s.putB PWR_STAT.AOSRC (s.pod || (s.pwr.vmainBad && s.pwr.pf == .none && !s.pwr.dip))

/-- A trigger in Vault or Listen: it is counted, the record has PAGES 0, and the chip is in a Vault entered by a power failure (R104). -/
def State.sleepTrigger (s : State) : State :=
  let s := ((s.bump PWR_PF.PFS).put PWR_PF.PAGES 0).keepCounts
  State.showAoSource { s with mode := .vault, pwr := { s.pwr with pfVault := true, pfVbat := s.pod } }

/-- The deglitch starts, or starts again. -/
def State.deglitch (s : State) : State :=
  { s with pwr := { s.pwr with dip := true, pf := if s.pwr.pf == .resetStore then .resetStore else .deglitch } }

/-- The monitor that a trigger moves: PFLOW, and in a pod BATEND. -/
def State.pfMonitor (s : State) : PfTrigger → State
  | .pfail => s.put PWR_STAT.PFLOW 1
  | .hold => s
  | .vbat => s.batEnd

/-- A trigger acts in Run or Doze: the HOLD watermark, and PFAIL without the hold-up energy, declare at once. -/
def State.pfAct (s : State) (held : Bool) : PfTrigger → State
  | .pfail => if held then s.deglitch else State.declare { s with pwr := { s.pwr with dip := true } }
  | .hold => s.declare
  | .vbat => s.deglitch

/-- A trigger of the profile, with HOLDOK as it stood before. DEDUCED (log 23). -/
def State.pfTriggered (s : State) (t : PfTrigger) (held : Bool) : State :=
  if s.pwr.pf = .storing then s
  else match s.mode with
    | .reset => s
    | .vault => s.sleepTrigger
    | .listen => s.sleepTrigger
    | .run => s.pfAct held t
    | .doze => s.pfAct held t

/-- PF_TRIGGER (Table PWR-6), `vmain` saying whether VMAIN is above its power-good threshold. A trigger of the other profile changes nothing,
and one during a power-fail sequence nothing but the monitors. -/
def execPfTrigger (t : PfTrigger) (vmain : Bool) (s : State) : Out :=
  if s.pod = decide (t = .vbat) then
    let held := s.on PWR_STAT.HOLDOK
    let s := { s with pwr := { s.pwr with vmainBad := !s.pod && !vmain } }
    go ((s.pfMonitor t).pfTriggered t held)
  else go s

/-- The deglitch of a trigger runs. -/
def State.deglitching (s : State) : Bool := s.pwr.pf == .deglitch || (s.pwr.pf == .resetStore && s.pwr.dip)

/-- PF_RIDE: the trigger clears before the deglitch ends (R101). `hold` says whether HOLD is within 0.10 V of VMAIN, so that HOLDOK follows HOLD
again (R106), and `vmain` whether VMAIN is above its power-good threshold. -/
def execPfRide (hold vmain : Bool) (s : State) : Out :=
  let ridden := s.deglitching
  let s := if s.pod then s.put PWR_STAT.BATEND 0 else s.put PWR_STAT.PFLOW 0
  if ridden then
    let s := ((s.bump PWR_PF.RIDES).keepCounts).raise Ev.PF_RIDE
    let s := if s.pod then s else s.putB PWR_STAT.HOLDOK hold
    go (State.showAoSource { s with pwr := { s.pwr with dip := false, vmainBad := !s.pod && !vmain
                                                        pf := if s.pwr.pf == .resetStore then .resetStore else .none } })
  else go { s with pwr := { s.pwr with dip := s.pwr.dip && s.pwr.pf == .storing } }

/-- PF_DECLARED: 400 µs after the trigger. -/
def execPfDeclared (s : State) : Out := if s.deglitching then go s.declare else go s

/-- A power-fail store has pages still to store. -/
def State.storesOn (s : State) : Bool := match s.sto.run with
  | some r => !r.todo.isEmpty
  | none => false

/-- HOLD_FLOOR: the store ends at the next page boundary, the page in hand being the last one stored if its programming has begun; the next
start reports it (R103). -/
def execHoldFloor (s : State) : Out :=
  if s.pwr.pf == .storing && s.storesOn then go { s with pwr := { s.pwr with storeCut := true, pfCut := true } } else go s

/-- PF_STORE_END: step 6. -/
def execPfStoreEnd (s : State) : Out :=
  if s.pwr.pf == .storing && (!s.storesOn || s.storeEnds) then
    let pages := match s.sto.run with
      | some r => r.count
      | none => 0
    let s := (s.endStore.put PWR_PF.PAGES pages).keepCounts
    let s := (s.put PWR_STAT.AOSRC 1).put PWR_STAT.HOLDOK 0
    go { s with mode := .vault
                pwr := { s.pwr with pf := .none, dip := false, storeCut := false, pfVault := true, pfVbat := s.pod
                                    enteredAt := s.time.rtc.toNat } }
  else go s

/-! ### Out of Vault (R104, R106) -/

/-- The chip is in a Vault entered by a power failure, or on its way out of it. -/
def State.pfSleep (s : State) : Bool := s.pwr.pfVault && (s.mode == .vault || (s.mode == .reset && s.pwr.sources.testBit 3))

/-- PFAIL has been above 1.20 V for 10 ms: a hub leaves the Vault of a power failure, the warm start held until HOLDOK is 1. DEDUCED (log 23). -/
def State.mainsBack (s : State) : State :=
  if s.pod then s
  else
    let s := s.put PWR_STAT.PFLOW 0
    if s.pfSleep then
      let s := s.wake Wake.mains
      State.raise { s with pwr := { s.pwr with holdWarm := true } } Ev.MAINS_BACK
    else s

/-- MAINS_BACK. -/
def execMainsBack (s : State) : Out := go s.mainsBack

/-- HOLDOK_REACHED. A dip holds HOLDOK at its value. -/
def execHoldokReached (s : State) : Out := if s.pwr.dip then go s else go (s.put PWR_STAT.HOLDOK 1)

/-- HOLD_FAULT: 100 ms after VMAIN power-good, a hub leaves its reset without HOLDOK, but not on the mains return of R104. -/
def execHoldFault (s : State) : Out :=
  if !s.pod && s.mode == .reset && !s.on PWR_STAT.HOLDOK && !s.pwr.holdWarm then go { s with pwr := { s.pwr with holdFault := true } }
  else go s

/-- VBAT has been above 3.00 V for 10 s: a pod that a VBAT trigger sent into Vault wakes. -/
def State.newCell (s : State) : State := if s.pod then (s.put PWR_STAT.BATEND 0).wake Wake.batnew else s

/-- VBAT_NEW_CELL. -/
def execVbatNewCell (s : State) : Out := go s.newCell

/-! ### Modes (R93, R95, R98, R113, R401) -/

/-- The conditions of R93 other than FLOOR and the 2 ms one, on a chip that runs. -/
def State.idleNow (s : State) : Bool :=
  s.twillRuns && !s.pwr.dozeEntry
    && [0, 1, 2, 3].all (fun k => (s.lease k).holder.isNone)
    && s.pls.train.isNone && s.pls.rx.isNone && s.rad.active.isNone && s.rad.ack.isNone && s.lop.frame.isNone
    && s.hst.slots.isEmpty && !s.pins.waitLow && s.sto.run.isNone && s.loc.opt.stage == .idle

/-- Regions whose store period ends at RTC count `t` (Table STO-2). -/
def State.storeDueAt (s : State) (t : Nat) : Bool :=
  (List.range 16).any (fun n => let p := s.get (STO_REG_CFG.PERIOD n); p != 0 && t % (61440 * p) == 0)

/-- Scheduled work falls within `w` µs: an epoch boundary, a shot of the epoch in progress, its conversions or its tail, a store period, a step
of the start sequence, and `other` work: of a telegram or a report, whose instants hold a random part. DESIGN CHOICE (log 22). -/
def State.workWithin (s : State) (w : Nat) (other : Bool) : Bool :=
  let n := 2 ^ s.get FIR_EPOCH.EPLOG
  let rtc := s.time.rtc.toNat
  let cycles := w * 512 / 15625 + 1
  let next := (rtc / n + 1) * n
  let due := match s.fir.cur with
    | some e =>
      let now := cycUs (s.time.cyc - e.startCyc)
      !e.stopped && (e.events.any (fun v => decide (now ≤ v.free) && decide (v.fwd ≤ now + w)) || s.conversionsDue e)
    | none => false
  let report := match s.con.reportAt with
    | some t => s.pod && s.on CON_PCFG.EN && decide (t ≤ s.time.aoTick + (cycles + 31) / 32)
    | none => false
  other || due || report || !s.fir.tails.isEmpty || decide (s.cyclesTo next ≤ cycles)
    || (List.range (cycles / 32 + 2)).any (fun k => (k != 0 || s.time.presc == 0) && s.storeDueAt (rtc + k) && decide (s.cyclesTo (rtc + k) ≤ cycles))
    || !(s.boot.steps.testBit 5 && s.boot.steps.testBit 6)

/-- Doze entry begins (R93, R95, R113). -/
def State.beginDoze (s : State) : State :=
  let s := s.closeBypass.displayDoze
  { s with pwr := { s.pwr with dozeEntry := true, request := none } }

/-- An accepted request goes on once the chip is idle: Doze entry, or the store of every region that precedes Listen and Vault. -/
def State.beginRequest (s : State) : State :=
  if s.idleNow then
    match s.pwr.request with
    | some .doze => s.beginDoze
    | some _ => { (s.put STO_STAT.PENDING 0xFFFF) with pwr := { s.pwr with dozeEntry := true } }
    | none => s
  else s

/-- A mode request (R98): the first refusal that applies, or ACCEPTED. The request accepted last takes the place of one whose mode the chip has
not entered. DESIGN CHOICE (log 3). -/
def State.requestMode (s : State) (m : Mode) : State :=
  let refuse (code : Nat) : State := (s.put PWR_REQ.RESULT code).raise Ev.MODE_REFUSED
  if s.pwr.pf == .storing then refuse 4
  else if !s.twillRuns then s
  else if m == .listen && !s.pod then refuse 2
  else if m != .doze && (List.range (mpCount s.pod)).any (fun i => s.on (FLO_CFG.EN i)) then refuse 3
  else State.beginRequest { (s.put PWR_REQ.RESULT 1) with pwr := { s.pwr with request := some m, dozeEntry := false } }

/-- The request code of PWR_REQ.REQ and H_PWR_REQ.REQ. -/
def State.requestCode (s : State) (code : Nat) : State :=
  match code with
  | 1 => s.requestMode .doze
  | 2 => s.requestMode .listen
  | 3 => s.requestMode .vault
  | _ => s

def execDozeRequest (s : State) : Out := go (s.requestMode .doze)
def execListenRequest (s : State) : Out := go (s.requestMode .listen)
def execVaultRequest (s : State) : Out := go (s.requestMode .vault)

/-- Doze entry ends with the last retained domain stopped: the chip is in Doze (R113). -/
def State.endDozeEntry (s : State) : State :=
  if s.pwr.dozeEntry && s.pwr.request.isNone && s.mode == .run && !s.shed then
    { s with mode := .doze, pwr := { s.pwr with dozeEntry := false, enteredAt := s.time.rtc.toNat }, pins := { s.pins with dRole := .floating, dOut := none } }
  else s

/-- MODE_STORE_DONE: the store of every region has ended, and Listen or Vault is entered (R401). -/
def execModeStoreDone (s : State) : Out :=
  match s.pwr.request with
  | some m =>
    if s.pwr.dozeEntry && s.sto.run.isNone && s.get STO_STAT.PENDING == 0 && s.mode == .run && !s.shed && !s.umb.frozen then
      let s := (s.closeBypass.closeEpochs).displayOff
      go { s with mode := m
                  pwr := { s.pwr with dozeEntry := false, request := none, pfVault := false, pfVbat := false,
                                      enteredAt := s.time.rtc.toNat }
                  pins := { s.pins with dRole := .floating, dOut := none } }
    else go s
  | none => go s

/-- AUTO_DOZE (R93): `other` says that a telegram or a report falls within the next 2 ms. -/
def execAutoDoze (other : Bool) (s : State) : Out :=
  if s.on PWR_CFG.FLOOR && s.idleNow && !s.workWithin 2000 other && s.pwr.request.isNone then go s.beginDoze else go s

/-! ### Wake sources (R94, R96, R114) -/

/-- SCHEDULED_WAKE: 450 µs before scheduled work, to the cycle of the RTC source in which that falls; it leaves Doze, or abandons an entry
(R113). `other` says that the work is a telegram or a report. -/
def execScheduledWake (other : Bool) (s : State) : Out :=
  if (s.mode == .doze || s.pwr.dozeEntry) && s.workWithin 450 other then go (s.wake Wake.sched) else go s

/-- PWR_ALARM, 48 bits. -/
def State.alarm (s : State) : Nat := s.get2 PWR_ALARM.addr % 2 ^ 48

/-- The RTC reaches PWR_ALARM from below: this is the tick at which the count becomes equal to it, and the mode was entered before (R96). -/
def State.reachAlarm (s : State) : State :=
  let asleep := s.mode == .doze || s.mode == .listen || s.mode == .vault
  if s.alarm != 0 && s.time.rtc.toNat == s.alarm && s.time.presc == 0 && (!asleep || decide (s.pwr.enteredAt < s.alarm)) then s.wake Wake.alarm
  else s

/-- RTC_ALARM. -/
def execRtcAlarm (s : State) : Out := go s.reachAlarm

/-- CS_N or SEL_N falls; the cycle that wakes the chip has no effect (R114), and D[15:0] stay floating until it has ended (R63). -/
def State.hostWakes (s : State) : State :=
  if s.pins.vioHBad then s else State.wake { s with pins := { s.pins with csHigh := false } } Wake.host

/-- HOST_WAKE. -/
def execHostWake (s : State) : Out := go s.hostWakes

/-- WARM_START: a wake source of the given number of Table PWR-15 acts in Vault or Listen (Table STA-1, code 4), each under its own
conditions (R96, R104, R116). -/
def execWarmStart (source : Fin 10) (s : State) : Out :=
  if s.mode == .vault || s.mode == .listen then
    match source with
    | 0 => go s.reachAlarm
    | 2 => go s.hostWakes
    | 6 => go s.mainsBack
    | 7 => go s.newCell
    | 8 => go (if s.pins.vioHBad then s else s.wake Wake.frz)
    | b => go (s.wake b.val)
  else go s

end Sys2Proof.Machine
end

