-- ==== Sys2Proof/Machine/Start.lean ====
section
/-! DEFINITION. Reset and start-up (chapter 05; chapter 02, R58, R649): the start sources and the reset store, the release with its straps,
the start sequence of Table STA-2, the resolution of an interrupted store, and a set of the RTC. -/

namespace Sys2Proof.Machine

/-! ### Start sources (Table STA-1, R148 to R151, R163) -/

/-- A source is recorded for the start that follows (R149). -/
def State.addSource (s : State) (code : Nat) : State := { s with pwr := { s.pwr with sources := s.pwr.sources ||| 2 ^ (code - 1) } }

/-- A pin or software reset in Run or Doze runs the reset store first; a freeze ends with cause 4 (R151, R388). A second reset merges with
the one whose store runs (R163). -/
def State.resetStore (s : State) (code : Nat) : State :=
  let s := s.addSource code
  if s.pwr.pf == .resetStore then s else (((s.breakFreeze 4).shedLoad .resetStore).storeAll).endResetStore

/-- PIN_RESET: RESET_N has been low for 1 µs. During a power-fail sequence it waits for the end of Vault (R112); in Vault and Listen
nothing is dirty. -/
def execPinReset (s : State) : Out :=
  let s := { s.releaseBus with pins := { s.releaseBus.pins with resetLow := true, dRole := .floating } }
  if s.pwr.pf == .storing then go { s with pwr := { s.pwr with resetPending := true } }
  else match s.mode with
    | .run => go (s.resetStore 2)
    | .doze => go (s.resetStore 2)
    | .reset => go (s.addSource 2)
    | _ => go (s.internalReset 2)

/-- A software start, by SYS_SWRST.KEY or H_CTRL.SRST; ignored outside Run (R149). -/
def State.softwareStart (s : State) : State := if s.twillRuns then s.resetStore 3 else s

def execSoftwareStart (s : State) : Out := go s.softwareStart

/-- RSTORE_CUT: 10 ms after the reset store began; it ends at the next page boundary (R151). -/
def execRstoreCut (s : State) : Out :=
  if s.pwr.pf == .resetStore && s.storesOn then go { s with pwr := { s.pwr with storeCut := true, rstoreCut := true } } else go s

/-- POWER_ON_RESET: the AO supply is below 2.20 V, or rises for the first time; `sup` says which supplies are good after it, and so whether the AO
power-on reset is released again. A power-fail sequence runs to its end (R102). -/
def execPowerOnReset (sup : Supplies) (s : State) : Out :=
  if s.pwr.pf == .storing then go s
  else
    let s := s.internalReset 1
    let s := if s.pod then s else s.put PWR_STAT.HOLDOK 0
    let s := { s with pwr := { s.pwr with presample := none, pfVault := false, dip := false, vmainBad := !s.pod && !sup.vmain, aoReset := !sup.ao }
                      pins := { s.pins with vioHBad := s.pins.vioHBad || !sup.vioH } }
    go (s.putB PWR_STAT.VIOHOK (s.on PWR_STAT.VIOHOK && sup.vioH)).showAoSource

/-! ### The release and the straps (R58, R59, R75, R117, R152, R649) -/

/-- The majority of three samples. -/
def major (a b c : Bool) : Bool := (a && b) || (a && c) || (b && c)

/-- STRAP_PRESAMPLE: VIO_H has been good for 2 µs, and the AO logic takes three samples of D0 at a power-on start, 1 for the Pod. -/
def execStrapPresample (samples : BitVec 3) (s : State) : Out :=
  if s.mode == .reset && s.pwr.sources.testBit 0 && !s.pwr.aoReset then
    let s := s.put PWR_STAT.VIOHOK 1
    go { s with pwr := { s.pwr with presample := some (major (samples.getLsbD 0) (samples.getLsbD 1) (samples.getLsbD 2)) } }
  else go s

/-- The condition of R117 on HOLD, for a profile: a hub waits for HOLDOK, or for the 100 ms of R106; on the mains return for HOLDOK
alone (R104). -/
def State.holdReady (s : State) (pod : Bool) : Bool := pod || s.on PWR_STAT.HOLDOK || (s.pwr.holdFault && !s.pwr.holdWarm)

/-- The straps that three samples of D[3:0] set, and which bits disagreed, as SYS_STRAP shows them. -/
def strapWord (a b c : BitVec 4) : Word :=
  let maj := (a &&& b) ||| (a &&& c) ||| (b &&& c)
  let split := (a ^^^ b) ||| (a ^^^ c)
  BitVec.ofNat 32 (maj.toNat + 256 * split.toNat)

/-- This is the first start of a new part: every page of SR00 and SR03 is EMPTY (R118). DESIGN CHOICE (log 28). -/
def State.newPart (s : State) : Bool := (regionPageList 0 ++ regionPageList 3).all (fun p => !(s.pageMeta (s.physPage p)).stored)

/-- The start that begins is counted and reported: SYS_RCAUSE, SYS_RSTCNT, PWR_STAT, and the events held for this start (R58, R103, R106,
R118, R149, R151). -/
def State.reportStart (s : State) (split : Bool) : State :=
  let cause := (([1, 2, 3, 4].find? (fun c => s.pwr.sources.testBit (c - 1))).getD 1)
  let s := (s.put SYS_RCAUSE.CAUSE cause).put SYS_RCAUSE.SEEN s.pwr.sources
  let count : Fd := match cause with
    | 1 => SYS_RSTCNT.POR
    | 2 => SYS_RSTCNT.PIN
    | 3 => SYS_RSTCNT.SOFT
    | _ => SYS_RSTCNT.WARM
  let s := (s.bump count).keepCounts
  let s := ((s.putB PWR_STAT.VLOST s.boot.vlost).putB PWR_STAT.CUT s.pwr.pfCut).showAoSource
  let s := s.put PWR_STAT.VIOHOK 1
  let s := ((s.raiseIf s.boot.vlost Ev.VLOST).raiseIf s.pwr.pfCut Ev.PF_CUT).raiseIf s.pwr.holdFault Ev.HOLD_FAULT
  (s.raiseIf (split || s.pwr.presampleSplit) Ev.STRAP_SPLIT).raiseIf s.pwr.rstoreCut Ev.RSTORE_CUT

/-- The internal reset is released: Run begins with step 1, under the straps as they now stand (R152, R153). -/
def State.releaseReset (s : State) (split : Bool) : State :=
  let wcause := s.rd PWR_WCAUSE.addr
  let s := State.wr { s with regs := s.resetRegs } PWR_WCAUSE.addr wcause
  let first := s.newPart
  let vlost := s.pwr.vaultLost && !first
  let s := if first then s.clearVault else s
  let s := { s with mode := .run
                    boot := { s.boot with steps := 2, released := s.time.cyc, vlost := vlost, firstStart := first }
                    pins := { s.pins with dRole := .floating, resetLow := false, selArmed := false } }
  let s := s.reportStart split
  { s with pwr := { s.pwr with sources := 0, presample := none, presampleSplit := false, holdWarm := false, holdFault := false
                               pfVault := false, pfVbat := false, pfCut := false, rstoreCut := false, vaultLost := false } }

/-- The supplies let a chip of this profile start: the AO supply above 2.30 V, VIO_H above 1.60 V, and in a hub VMAIN above 2.95 V (R117). -/
def suppliesGood (sup : Supplies) (pod : Bool) : Bool := sup.ao && sup.vioH && (pod || sup.vmain)

/-- The strap window: D[3:0] are inputs, sampled as straps (Table BAL-2). -/
def State.strapWindow (s : State) : State := { s with pins := { s.pins with dRole := .straps } }

/-- INTERNAL_RESET_RELEASE: RESET_N is high, the conditions of R117 hold and the reset store has ended; `sup` says which supplies have been good
for the whole reset (R58). `a`, `b`, `c` are the samples of D[3:0] in the strap window; only a power-on or pin start takes them. A profile
other than the pre-sample's keeps the reset asserted, and D[15:0] float again. -/
def execInternalResetRelease (sup : Supplies) (a b c : BitVec 4) (s : State) : Out :=
  let por := s.pwr.sources.testBit 0
  let sampled := por || s.pwr.sources.testBit 1
  let pod := if por then s.pwr.presample.getD s.pod else s.pod
  if s.mode == .reset && suppliesGood sup pod && s.holdReady pod && (!por || s.pwr.presample.isSome) then
    let s := { s with pwr := { s.pwr with vmainBad := false, aoReset := false } }
    if sampled then
      let s := s.strapWindow
      let w := strapWord a b c
      if por && w.getLsbD 0 != pod then
        go { s with pwr := { s.pwr with presample := none, presampleSplit := true }, pins := { s.pins with dRole := .floating } }
      else go ((s.wr SYS_STRAP.addr w).releaseReset (decide (256 ≤ w.toNat)))
    else go (s.releaseReset false)
  else go s

/-! ### A set of the RTC (R195, R254, R333, R563, R168) -/

/-- The RTC takes the value `new`, by path 0 (host), 1 (chip at start) or 2 (a core service). -/
def State.setClock (s : State) (new path : Nat) : State :=
  let old := s.time.rtc.toNat
  let s := { s with time := { s.time with rtc := BitVec.ofNat 48 new, presc := 0 }, clk := { s.clk with rtcEnded := false } }
  let s := s.raiseWith Ev.TIME_SET (([old, old / 2 ^ 32, path, new, new / 2 ^ 32] : List Nat).map (BitVec.ofNat 32))
  let s := match s.fir.cur with
    | some e =>
      let n := 2 ^ e.eplog
      let b := (32 * new + 328 + 32 * n - 1) / (32 * n) * n
      s.trimEpoch (cycUs (32 * b - 32 * new))
    | none => s
  let s := (s.stageClockSet old).billClockSet
  if s.alarm != 0 && decide (old < s.alarm) && decide (s.alarm ≤ new) then s.wake Wake.alarm else s

/-! ### Step 2: the oscillators, and the resolution of an interrupted store (R144, R145, R154, R157, Table STA-3) -/

/-- Pages of the command that the journal shows open, ascending. -/
def State.journalPages (s : State) : List Nat :=
  (List.range 512).filter (fun p => (s.vaultWord (0x093 + p / 32)).getLsbD (p % 32))

/-- The page marked in flight, with its buffer's CRC good or bad. -/
def State.inFlight (s : State) : Option (Nat × Bool) :=
  let w := (s.vaultWord 0x090).toNat
  if w % 2 = 1 ∧ w / 2 % 2 = 1 then
    let p := (s.vaultWord 0x092).toNat
    let good := (s.vaultWord 0x0F0).toNat == p && (s.vaultWord 0x0F2).toNat
      == pageCrc (Memory.bytes s.vault (4 * 0x0B0) 256) p (s.vaultWord 0x0F1).toNat
    some (p, good)
  else none

/-- The outcome of one page (Table STA-3), `cut` the pages of an open command that were not stored. -/
def State.resolvePage (s : State) (cut : List Nat) (flight : Option (Nat × Bool)) (p : Nat) : Nat :=
  if !(s.pageMeta (s.physPage p)).stored then 6
  else if flight = some (p, true) then 2
  else if flight = some (p, false) then 3
  else if !s.pageGood p then 5
  else if cut.contains p then 4
  else 1

/-- Both copies of the remap table fail their CRC: the identity mapping is taken, and every region whose pages the metadata of the
used spares name is exhausted, with REGION_END for each (R422). -/
def State.rebuildRemap (s : State) : State :=
  if s.sto.remapCrc != 0 then s
  else
    let spares := ((List.range 32).map (fun k => s.pageMeta (512 + k))).filter (fun m => m.stored)
    let gone := (List.range 16).filter (fun n => spares.any (fun m => pageRegion m.page == n))
    let s := { s with sto := { s.sto with remap := [], remapCrc := 3, exhausted := [] } }
    let s := (List.range 16).foldl (fun s n => (s.put (STO_REG_STAT.END n) 0).showWear n) s
    gone.foldl State.exhaust s

/-- The journal is resolved and closed; a page whose buffer is good is rewritten from it. After a vault loss the vault holds no journal. -/
def State.resolve (s : State) : State :=
  let s := s.rebuildRemap
  let is_open := (s.vaultWord 0x090).getLsbD 0
  let flight := s.inFlight
  let done := (s.vaultWord 0x091).toNat
  let cut := if is_open then s.journalPages.drop done else []
  let outcome := (List.range 512).map (fun p => (p, s.resolvePage cut flight p))
  let s := match flight with
    | some (p, true) => if (s.pageMeta (s.physPage p)).stored then s.program (s.physPage p) p true else s
    | _ => s
  State.closeJournal { s with boot := { s.boot with outcome := outcome.filter (fun x => x.2 != 6) } }

/-- The clock status at step 2: LFXO runs, or the RTC counts from the LPO; the LPO and the TDCs come up, and, where HFXO runs, the PLL of each
engine (Table CLK-1). -/
def State.clocksUp (s : State) (lfxo hfxo : Bool) : State :=
  let engines := if s.pod then 1 else 15
  let s := (s.putB CLK_STAT.LFXOOK lfxo).putB CLK_STAT.RTCSRC (!lfxo)
  ((s.put CLK_STAT.LPOOK 1).put CLK_STAT.EPLLOK (if hfxo then engines else 0)).put CLK_STAT.TDCOK engines

/-- Step 1 is reached, and step 2 is not. -/
def State.awaitsStep2 (s : State) : Bool :=
  s.mode == .run && !s.umb.frozen && !s.shed && s.boot.steps.testBit 1 && !s.boot.steps.testBit 2

/-- OSCILLATORS_UP: HFXO runs and the SPLL has locked; `lfxo` says whether LFXO runs too. Calico reads 0 from here on. DEDUCED (log 23). -/
def execOscillatorsUp (lfxo : Bool) (s : State) : Out :=
  if s.awaitsStep2 then
    let s := ((s.clocksUp lfxo true).put CLK_STAT.HFXOOK 1).put CLK_STAT.SPLLOK 1
    go (s.resolve.reach 2)
  else go s

/-- HFXO_START_TIMEOUT: HFXO has not started in the 2 ms since the release; the start goes on from the SRO. -/
def execHfxoStartTimeout (lfxo : Bool) (s : State) : Out :=
  if s.awaitsStep2 && decide (2000 ≤ cycUs (s.time.cyc - s.boot.released)) then
    let s := (s.clocksUp lfxo false).bump CLK_FAIL.HFXO
    go ((s.raise Ev.HFXO_FAIL).toSro.resolve.reach 2)
  else go s

/-! ### Step 3: the instant regions (R155, R159, R225, R419, R575) -/

/-- The policy that governs this start: the one last stored in SR04, read from the array. DEDUCED (log 23). -/
def State.policyAt (s : State) (n : Nat) : Bool :=
  let a := STO_REG_CFG.addr n
  let at_ := slotAddr a
  let p := at_ / 256
  let o := s.pageOutcome p
  let w := if o = 5 ∨ o = 6 then s.rd a else Memory.word s.sto.array (256 * s.physPage p + at_ % 256)
  !regionSealed n && w.getLsbD 0

/-- The open log goes on from its newest valid entry (R575). -/
def State.continueOpenLog (s : State) : State :=
  let newest := s.get LOG_OSTAT.NEWEST
  { s with evt := { s.evt with openSeq := if newest = 0xFFFFFFFF then 1 else newest + 1 } }

/-- HOST_READY; `high` says whether CS_N, and D0 in serial mode, has been high for 20 ns (R63). -/
def execHostReady (high : Bool) (s : State) : Out :=
  if s.mode == .run && !s.umb.frozen && !s.shed && s.boot.steps.testBit 2 && !s.boot.steps.testBit 3 then
    let settled := (List.range 16).filter s.policyAt
    let instant := (List.range 16).filter (fun n => !settled.contains n)
    let s := { s with boot := { s.boot with unrecalled := settled.flatMap regionPageList } }
    let s := (instant.flatMap regionPageList).foldl State.recallPage s
    let s := (s.recallDated.reach 3).continueOpenLog
    go (State.takeRole { s with pins := { s.pins with csHigh := high } })
  else go s

/-! ### Step 4: METER_READY (R160, R167, R168, R347, R349, R352, R413) -/

/-- A copy of the change counter qualifies: its page is CLEAN or FORWARD with a good CRC. -/
def State.counterGood (s : State) (copy : Nat) : Bool :=
  let p := regionFirst 3 + copy
  [1, 2].contains (s.pageOutcome p) && s.pageGood p

def State.loadCounter (s : State) : State :=
  let copies := [0, 1].filter s.counterGood
  let value (c : Nat) : Nat := (s.sramWord (regionWord 3 (counterWord c))).toNat
  if [0, 1].all (fun c => s.pageOutcome (regionFirst 3 + c) == 6) then s
  else if copies.isEmpty then
    let s := (((s.put SEA_CTR.CTR 999).put SEA_STAT.CTREND 1).put SEA_STAT.CTRLOST 1).raise Ev.CTR_END
    (s.legalAlarm 0).legalAlarm 2
  else
    let v := maxOf (copies.map value)
    let s := s.put SEA_CTR.CTR (min 999 v)
    if 999 ≤ v then (s.put SEA_STAT.CTREND 1).legalAlarm 0 else s

/-- After a vault loss each attempt counter takes its LEVEL from SR03 and starts a lock-out; LOCKED shows one that runs. -/
def State.loadLocks (s : State) : State :=
  let level (w : Nat) : Nat := min 11 (s.sramWord (regionWord 3 w)).toNat
  let ends (l : Nat) : Nat := s.time.aoTick + lockTicks l
  let s := if s.boot.vlost then
      let s := (List.range 17).foldl (fun s c => (s.put (STO_LOCK.FAILS c) 0).put (STO_LOCK.LEVEL c) (level (levelWord c))) s
      let s := (s.put SEA_LOCK.FAILS 0).put SEA_LOCK.LEVEL (level sessionLevelWord)
      { s with sto := { s.sto with lockEnd := (List.range 17).map (fun c => (c, ends (level (levelWord c)))) }
               sea := { s.sea with lockEnd := some (ends (level sessionLevelWord)) } }
    else s
  s.putB SEA_STAT.LOCKED s.sessionLocked

/-- The records of the stored patch images (Table SEA-12) come from SR03. -/
def State.loadPatchRecords (s : State) : State :=
  [0, 1].foldl (fun s n =>
    let w (k : Nat) : Word := s.sramWord (regionWord 3 (patchWord n k))
    let s := ((s.wr (SEA_PATCH_VER.addr n) (w 0)).wr (SEA_PATCH_CRC.addr n) (w 1)).wr (SEA_PATCH_AT.addr n) (w 2)
    (s.wr (SEA_PATCH_AT_H.addr n) (w 3)).wr (SEA_PATCH_FLOOR.addr n) (w 4)) s

/-- The close of a session that a power failure or a start ended is recorded now (R349). -/
def State.deferredClose (s : State) : State :=
  let w := (s.vaultWord sessionFlagWord).toNat
  if w % 2 = 1 then (s.setVaultNat sessionFlagWord 0).closeSession (w / 16) else s

/-- START, with the data of Table EVT-4. -/
def State.raiseStart (s : State) : State :=
  let w := s.get SYS_RCAUSE.CAUSE + 8 * s.get SYS_RCAUSE.SEEN
    + 128 * inBits [s.boot.vlost, s.on PWR_STAT.CUT, s.on SYS_BOOT.LEGALBACK, s.on SYS_BOOT.LEGALZERO, s.on SYS_BOOT.ROMFAIL]
    + 65536 * s.get PWR_PF.PAGES
  s.raiseWith Ev.START [BitVec.ofNat 32 w]

/-- What LGC does at step 4 whether or not its ROM check passed (R167). -/
def State.stepFour (s : State) : State :=
  let choice := s.legalChoice true
  let s := (((s.loadLegal choice false).loadCounter).loadLocks).loadPatchRecords.recallMedium
  let s := s.deferredClose
  let s := match choice.1 with
    | some k => if s.boot.vlost then s.setClock (s.legalTime k) 1 else s
    | none => s
  let s := ((s.startKeys s.boot.vlost).put2 SYS_TSTART.addr s.time.rtc.toNat).showVirgin.trackersAfresh
  ((s.drainAccrual.recordFreezeIfReady).loadPatch 0).takeWaiting

/-- METER_READY: `romGood` says that one of LGC's three ROM checks passed. When none did, METER_READY is never reached. -/
def execMeterReady (romGood : Bool) (s : State) : Out :=
  if s.mode == .run && !s.umb.frozen && !s.shed && s.coreUp 0 && s.boot.steps.testBit 3 && !s.boot.legalLoaded then
    if romGood then
      let s := (s.stepFour.raise Ev.METER_READY).raiseStart
      let s := s.stageReady (s.boot.lostSets.testBit 0) (s.boot.lostSets.testBit 1)
      let s := s.put SYS_BOOT.READY (min 0xFFFF (cycUs (s.time.cyc - s.boot.released) / 10))
      go (State.reach { s with fir := { s.fir with notBefore := s.time.cyc + 33 }, boot := { s.boot with lostSets := 0 }, con := { s.con with reportAt := some s.time.aoTick } } 4)
    else
      let s := ((s.put SYS_BOOT.ROMFAIL 1).raise Ev.BOOT_FAIL).legalAlarm 3
      go s.stepFour
  else go s

/-! ### Steps 5, 6 and 9 -/

/-- The chip runs, and step 4 has been carried out. -/
def State.started (s : State) : Bool := s.mode == .run && !s.umb.frozen && !s.shed && s.boot.legalLoaded

/-- APC_RUNNING: its services start, and NWC starts with its patch image checked (R156). -/
def execApcRunning (s : State) : Out :=
  if s.started && !s.boot.steps.testBit 5 then go (((s.reach 5).displayRun).loadPatch 1) else go s

/-- NWC_RUNNING: the transports start, with fresh reservations; a Glint wake opens the receive window (R481, R508). Under R167 START is
raised here. -/
def execNwcRunning (s : State) : Out :=
  if s.started && s.boot.steps.testBit 5 && !s.boot.steps.testBit 6 then
    let s := (s.reach 6).reserveAll false
    let s := if s.boot.vlost then { s with rad := { s.rad with rsd := 64 } } else s
    let s := if (s.get PWR_WCAUSE.CAUSES).testBit Wake.glint then s.openWindow else s
    let s := if s.on SYS_BOOT.ROMFAIL then s.raiseStart else s
    go s.bypassIfRelay
  else go s

/-- SETTLED_PAGE_RECALL: the next page of the settled regions. `refused` says that a Twill write of the recall was refused twice: STC goes on
trying the page (R421). -/
def execSettledPageRecall (refused : Option Denial) (s : State) : Out :=
  match s.boot.unrecalled with
  | [] => go s
  | p :: _ =>
    if s.started && !s.sto.work.any (fun w => w.kind == 2) then
      if refused.isSome then
        let s := ((s.denied 9 refused).denied 9 refused).raiseIf (!s.boot.recallRefused) Ev.FABRIC_REFUSED
        go { s with boot := { s.boot with recallRefused := true }, sto := { s.sto with work := s.sto.work ++ [⟨2, [p], 2, []⟩] } }
      else go (s.recallPage p)
    else go s

/-- RECALL_SETTLED: step 9. -/
def execRecallSettled (s : State) : Out :=
  if s.started && s.boot.unrecalled.isEmpty && !s.boot.steps.testBit 9 then go ((s.reach 9).raise Ev.RECALL_SETTLED) else go s

end Sys2Proof.Machine
end

