-- ==== Sys2Proof/Machine/Bus.lean ====
section
/-! DEFINITION. Accesses over Twill (chapter 01; chapter 00, R5 to R9; chapter 04, R132, R133; chapter 20, R573): which target serves a
word, what is refused at the request, the wheel, and what a read or a write of a word does at its target. -/

namespace Sys2Proof.Machine

/-! ### Targets (R19, R20, R644) -/

/-- The target of an access: a write through a staging path goes to the staging store, as far as its address decodes (R39). -/
def accessTarget (a : Nat) : BusOp → Nat
  | .stage _ _ => if busTarget a = 31 then 31 else 15
  | .inner t _ => if t.val = 8 ∨ t.val = 9 ∧ a < 0x400 ∨ 11 ≤ t.val ∧ t.val ≤ 13 then t.val else 31
  | _ => busTarget a

/-- First Calico word. -/
def calicoBase : Nat := 0x400000

/-! ### Refusals decided at the request (R27, R28, R38 to R41) -/

/-- Word `a` is in a Calico bank that is switched off (R91), or is a register of an LCD domain that the strap leaves unpowered (R61). -/
def State.domainOff (s : State) (a : Nat) : Bool :=
  let t := busTarget a
  (decide (2 ≤ t) && decide (t ≤ 5) && (s.get PWR_BANK.OFF).testBit (t - 2))
  || (!s.on SYS_STRAP.LCDEN && ((decide (LOC_LCD.addr ≤ a) && decide (a ≤ LOC_SYM.addr))
        || (decide (LOC_SEG.addr 0 ≤ a) && decide (a ≤ LOC_SEG.addr 95))))

/-- A fetch that R40 allows: APC from the patch area of CB6, NWC from that of CB7, each its lowest 16 KiB. The ROM ranges have no deep-space
address. -/
def fetchAllowed (i a : Nat) : Bool :=
  (i == 1 && decide (0x460000 ≤ a) && decide (a < 0x461000)) || (i == 2 && decide (0x470000 ≤ a) && decide (a < 0x471000))

/-- The word of a transfer that writes a sealed region (SR00 to SR03) through the STC port. The WRITE command itself passes the access check of R410,
which answers STO_E_DENIED. DEDUCED (log 6). -/
def State.sealedTransfer (s : State) (a : Nat) : Bool := a == STO_PDATA.addr && match s.sto.transfer with
  | some t => t.write && decide (t.region ≤ 3)
  | none => false

/-- The sealed part that Table FAB-5 and R40 close to this access. -/
def State.sealedAgainst (s : State) (i a : Nat) : BusOp → Bool
  | .write _ => (decide (busTarget a ≤ 1) && !sealedRight i) || (a / 0x10000 == 0x1B && i != 0) || (slMask a != 0 && i != 0)
      || (s.sealedTransfer a && i != 0 && i != 9)
  | .fetch => !fetchAllowed i a
  | .inner t (some _) => t.val == 9 && i != 0 && i != 9 && !(i == 2 && decide (0x200 ≤ a))
  | .inner _ none => false
  | .read => false
  | .stage _ _ => false
  | .stageRead _ => false

/-- A write to a live word. -/
def isLiveWrite : BusOp → Bool
  | .write _ => true
  | .inner _ (some _) => true
  | _ => false

/-- The target of an access is not powered in this profile (R4, R32): PTX in the Pod, and what the word's block is. -/
def State.unpowered (s : State) (a : Nat) : BusOp → Bool
  | .inner t _ => s.pod && t.val == 13
  | _ => !s.powered a

/-- The refusal decided at the request, in the order of R28; 0 for none. DEDUCED (log 6). -/
def State.refusalAt (s : State) (i a : Nat) (op : BusOp) : Nat :=
  let t := accessTarget a op
  if s.fenced i then 5
  else if s.unpowered a op then 2
  else if t = 31 then 8
  else if t ≠ 8 ∧ t ≠ 9 ∧ (t < 11 ∨ 13 < t) ∧ s.domainOff a then 6
  else if s.sealedAgainst i a op then 3
  else if (t = 14 ∨ t = 8) ∧ isLiveWrite op then 9
  else if 10 ≤ t ∧ t ≤ 13 ∧ (s.lease (t - 10)).holder ≠ some i then 4
  else 0

/-! ### Busy targets (R25) -/

/-- The target holds acceptance: STC while a page is being programmed, and a leased target until its flush is done (R25, R598). -/
def State.targetBusy (s : State) (t : Nat) : Bool := (t == 10 && s.inHand.isSome && !s.sto.atBoundary) || s.flushing t

/-- An access presented now is not granted in the same cycle: the target holds acceptance, or other requests wait there (R23, R25). -/
def State.mustWait (s : State) (t : Nat) : Bool := s.targetBusy t || s.fab.waiting.any (fun r => r.target == t)

/-- The outcome of a served access. -/
def State.served (s : State) (i : Nat) (data : Word) (delayed : Bool) : State :=
  { s with fab := { s.fab with outcome := Sparse.insert s.fab.outcome i ⟨0, data, delayed⟩ } }

/-- A refusal of an access: a fenced lease command leaves NOT_HOLDER (R35), and a core whose fetch is refused restarts (R40, R600). -/
def State.refuseAccess (s : State) (i a : Nat) (op : BusOp) (code : Nat) : State :=
  let s := s.refuse i code (accessTarget a op)
  if isLiveWrite op then (if code = 5 ∧ busTarget a = accessTarget a op ∧ a = TWL_LEASE_CMD.addr then s.setLeaseResult i 3 else s)
  else if op = .fetch ∧ code = 3 ∧ i ≤ 2 then s.coreRestart i 3
  else s

/-! ### Reading a word (R7, R9, R132, R175, R205, R573) -/

/-- Key of a latch or a held word: the reader (an initiator, or window n as 32 + n) and the word. -/
def latchKey (reader a : Nat) : Nat := reader * 2 ^ 24 + a

def State.setLatch (s : State) (reader a : Nat) (w : Word) : State :=
  { s with fab := { s.fab with latch := Sparse.insert s.fab.latch (latchKey reader a) w } }

/-- A word of the log array as a reader sees it. DEDUCED (log 6). -/
def State.logWord (s : State) (reader a : Nat) : Word :=
  if a < 0x188000 then Sparse.get zeroWord s.evt.legalLog (a - 0x184000)
  else if a < 0x18A000 then Sparse.get zeroWord s.evt.openLog (8 * 1024 * s.obankOf reader + (a - 0x188000))
  else 0

/-- The levels of D[15:4] in serial mode: those that the board drives, and 0 where the pull-downs hold the others; with the pull-downs off the
spec gives an open input no level (R55, Table BAL-9). -/
def State.spareLevels (s : State) : BitVec 12 :=
  let open_ : BitVec 12 := if s.on SYS_SPARE.PDIS then (Config.freeWord s.free).truncate 12 else 0
  (s.pins.spareDriven &&& s.pins.spareLevel) ||| (~~~ s.pins.spareDriven &&& open_)

/-- The live word at a register or log address, without side effect. -/
def State.liveWord (s : State) (reader a : Nat) : Word :=
  if busTarget a = 14 then s.logWord reader a
  else if a = STO_PDATA.addr then s.pdataRead.1
  else if a = SYS_SPARE.addr ∧ s.on SYS_STRAP.HOSTMODE then SYS_SPARE.SPARE.into (s.readReg reader a) s.spareLevels.toNat
  else s.readReg reader a

/-- The higher words that a read of `a` latches: the high word of a multi-word register, words 1 to 7 of a log entry. -/
def latchedBy (a : Nat) : List Nat :=
  if busTarget a = 14 then (if a % 8 = 0 ∧ a < 0x18A000 then (List.range 7).map (fun k => a + 1 + k) else [])
  else if isLowWord a then [a + 1] else []

/-- A word that is read from its latch once its lowest word has been read. -/
def isLatchedWord (a : Nat) : Bool :=
  if busTarget a = 14 then a % 8 != 0 && decide (a < 0x18A000) else isHighWord a

/-- What a read of word `a` returns to a reader: its latch where it has one, else the live word. -/
def State.wordFor (s : State) (reader a : Nat) : Word :=
  match (if isLatchedWord a then Sparse.find s.fab.latch (latchKey reader a) else none) with
  | some w => w
  | none => s.liveWord reader a

/-- The latches that a read of `a` takes, from the values before the read. -/
def State.takeLatches (s : State) (reader a : Nat) : State :=
  (latchedBy a).foldl (fun t b => t.setLatch reader b (s.liveWord reader b)) s

/-- One RC field of `w` after the commit of a read that returned `r`, the chip having set or written the bits `since` after it (R175). -/
def commitField (r since : Word) (w : Word) (f : FieldDef) : Word :=
  if f.acc == .rc then
    match rcKind f.fd with
    | .count => f.fd.into w (f.fd.of w - f.fd.of r)
    | .flags => w &&& ~~~(r &&& ~~~since &&& bitMask f.fd.hi f.fd.lo)
    | .held => if f.fd.of since = 0 then f.fd.into w 0 else w
  else w

/-- The commit of a read: exactly what it returned is cleared. Start counts and the power-fail record are kept in the vault too. DESIGN CHOICE (log 31). -/
def State.commitRead (s : State) (a : Nat) (returned since : Word) : State :=
  if rcMask a = 0 then s
  else
    let s := s.wr a ((fieldsAt a).foldl (commitField returned since) (s.rd a))
    if a = SYS_RSTCNT.addr ∨ a = PWR_PF.addr then s.keepCounts else s

/-- The effects of a completed read of register or log word `a`, which returned `w`. -/
def State.readEffects (s : State) (reader a : Nat) (w : Word) : State :=
  let s := s.takeLatches reader a
  let s := if a = STO_PDATA.addr then s.pdataRead.2 else s
  let s := if a = SYS_SPARE.addr ∧ s.on SYS_STRAP.HOSTMODE then { s with free := s.free + 1 } else s
  s.commitRead a w 0

/-- The word with the staged value of its WS and SL fields, where set `dated` holds an entry (R205). -/
def State.withStaged (s : State) (dated : Bool) (a : Nat) (w : Word) : Word :=
  match Sparse.find (s.stage dated).entries a with
  | some v => (w &&& ~~~ stagedMask a) ||| (v &&& stagedMask a)
  | none => w

/-! ### Calico (R21) -/

/-- A read of Calico word `k`, its code showing `upset`: the corrected word, or none for a double-bit error. -/
def State.readCalico (s : State) (k : Nat) (upset : Upset) : Option Word × State :=
  let mark (s : State) : State := match upset with
    | .clean => s
    | .single => if s.fab.eccSingle.contains k then s else { s with fab := { s.fab with eccSingle := k :: s.fab.eccSingle } }
    | .double => if s.fab.eccDouble.contains k then s else { s with fab := { s.fab with eccDouble := k :: s.fab.eccDouble } }
  let (good, s) := (mark s).eccRead k
  (if good then some (s.calicoWord k) else none, s)

/-! ### Writing a word (R5, R9, R133, R192) -/

/-- A lease command in TWL_LEASE_CMD. -/
def State.leaseWrite (s : State) (i : Nat) (v : Word) : State :=
  let k := TWL_LEASE_CMD.LEASE.of v
  match TWL_LEASE_CMD.CMD.of v with
  | 1 => s.leaseCommand i (fun s => s.acquire i k)
  | 2 => s.leaseCommand i (fun s => s.renew i k)
  | 3 => s.leaseCommand i (fun s => s.release i k)
  | _ => s

/-- A command in STO_PCMD. -/
def State.portWrite (s : State) (i : Nat) (v : Word) : State :=
  match STO_PCMD.CMD.of v with
  | 0 | 7 => s
  | 1 => s.storeCommand (STO_PCMD.MASK.of v)
  | 6 => s.portClose
  | c => s.portCommand c (STO_PCMD.REGION.of v) i

/-- A command in BIL_CMD. -/
def State.billWrite (s : State) (v : Word) : State :=
  let mask := BitVec.ofNat 4 (BIL_CMD.MPMASK.of v)
  match BIL_CMD.CMD.of v with
  | 1 => s.billCommand mask (fun b => { b with command := some s.time.rtc.toNat })
  | 2 => s.billCommand mask (fun b => { b with reset := true })
  | _ => s

/-- A command in SEC_CMD. -/
def State.keyWrite (s : State) (v : Word) : State :=
  match SEC_CMD.CMD.of v with
  | 1 => s.keyUpdate (SEC_CMD.SLOT.of v) (SEC_CMD.SIZE.of v == 1) (SEC_CMD.USE.of v)
  | 2 => s.eraseKey (SEC_CMD.SLOT.of v)
  | _ => s

/-- A command register takes the word `v` from initiator `i`: what its rows of the command table do. -/
def State.commandWrite (s : State) (i a : Nat) (v : Word) : State :=
  if a = SYS_SWRST.addr then (if SYS_SWRST.KEY.of v = 0xC35A then s.softwareStart else s)
  else if a = SYS_VS_CMD.addr then
    match SYS_VS_CMD.CMD.of v with
    | 1 => s.openSession
    | 2 => s.closeCommand
    | _ => s
  else if a = SYS_PATCH_CMD.addr then
    match SYS_PATCH_CMD.CMD.of v with
    | 1 => s.installPatch
    | 2 => s.removePatch (SYS_PATCH_CMD.CORE.of v)
    | _ => s
  else if a = PWR_REQ.addr then s.requestCode (PWR_REQ.REQ.of v)
  else if a = TWL_LEASE_CMD.addr then s.leaseWrite i v
  else if a = BIL_CMD.addr then s.billWrite v
  else if a = STO_PCMD.addr then s.portWrite i v
  else if a = SEC_CMD.addr then s.keyWrite v
  else if a = STG_CMD.addr then s.stageCommand (STG_CMD.CMD.of v) (STG_CMD.SET.of v == 1)
  else if a = CON_CMD.addr then (if CON_CMD.REMOVE.of v = 1 then s.conRemove (CON_CMD.INDEX.of v) else s)
  else s

/-- What follows a write of an RW or W1C field: pending bits that went, a symbol word that the display shows. -/
def State.afterWrite (s : State) (a : Nat) : State :=
  if EVT_HPEND.addr 0 ≤ a ∧ a ≤ EVT_HPEND.addr 35 then s.showPending
  else if a = LOC_SYM.addr then s.displayRun
  else s

/-- A WO word that the chip keeps for the command that takes it. -/
def isKeptWo (a : Nat) : Bool :=
  (decide (SYS_VS_CRED.addr 0 ≤ a) && decide (a ≤ SYS_VS_CRED.addr 3)) || (decide (STO_PW.addr 0 ≤ a) && decide (a ≤ STO_PW.addr 3))
  || (decide (SEC_KEYW.addr 0 ≤ a) && decide (a ≤ SEC_KEYW.addr 7))

/-- Word `a` of the candidate table: destination `d`, candidate `r`, and which of the candidate's words it is. -/
def candWord (a : Nat) : Option (Nat × Nat) :=
  ((List.range 64).flatMap (fun d => (List.range 4).map (fun r => (d, r)))).find? (fun x =>
    a == PLS_CAND_S.addr x.1 x.2 || a == PLS_CAND_REP0.addr x.1 x.2 || a == PLS_CAND_REP1.addr x.1 x.2
    || a == PLS_CAND_REP2.addr x.1 x.2 || a == PLS_CAND_REP3.addr x.1 x.2)

/-- The RW and W1C fields of word `a` take `v` field by field (Table SCO-3); RO, RC, WS and SL fields and reserved bits ignore it. -/
def State.writeFields (s : State) (a : Nat) (v : Word) : State :=
  let w := s.rd a
  s.wr a (((w &&& ~~~ rwMask a) ||| (v &&& rwMask a)) &&& ~~~ (w1cMask a &&& v))

/-- A write to the live word `a` by a writer key and its initiator: a lower word of a multi-word RW register is held, and the highest word commits
both in one instant (R133). DESIGN CHOICE (log 40): each writer's lower word is held apart, and stays held after the commit; without one the lower
word stands. -/
def State.writeWord (s : State) (writer i a : Nat) (v : Word) : State :=
  if isHeldWord a then { s with fab := { s.fab with held := Sparse.insert s.fab.held (latchKey writer a) v } }
  else if isHighWord a && isHeldWord (a - 1) then
    match Sparse.find s.fab.held (latchKey writer (a - 1)) with
    | some low => (s.writeFields (a - 1) low).writeFields a v
    | none => s.writeFields a v
  else if a = LOG_OBANK.addr then
    { s with evt := { s.evt with obank := Sparse.set (fun _ => 0) s.evt.obank writer (LOG_OBANK.BANK.of v) } }
  else if inCandTable a then
    if s.candClosed a then s
    else
      let s := ((s.needPage (candPage a)).writeFields a v).markDirty (candPage a)
      match candWord a with
      | some (d, r) => s.setScore d r (256 * (s.get (PLS_CAND_S.RCNT d r) + 1))
      | none => s
  else if isKeptWo a then s.wr a v
  else if woMask a != 0 then s.commandWrite i a v
  else if a = STO_PDATA.addr then s.pdataWrite v
  else if rwMask a ||| w1cMask a = 0 then s
  else (s.writeFields a v).afterWrite a

/-! ### An access at its target -/

/-- A word inside a target that deep space gives no address: of the vault as it stands; of a port, what has been written there is kept until the
target is flushed, and what a read returns the spec leaves open, as the words of the ROM (log 29). A key that the port holds is never returned. -/
def State.innerAccess (s : State) (t a : Nat) (v : Option Word) : Word × State :=
  match v with
  | some w =>
    if t = 9 then (0, s.setVaultWord a w) else (0, { s with fab := { s.fab with ports := Sparse.insert s.fab.ports (portKey t a) w } })
  | none => if t = 9 then (s.vaultWord a, s) else s.fresh

/-- What an accepted access does: its refusal code (DATA_ERR or none), the word it returns, and the state. -/
def State.access (s : State) (reader i a : Nat) (op : BusOp) (upset : Upset) : Nat × Word × State :=
  match op with
  | .stage dated v => (0, 0, s.stageWrite dated a v)
  | .write v =>
    if busTarget a ≤ 7 then (0, 0, s.setCalicoWord (a - calicoBase) v) else (0, 0, s.writeWord reader i a v)
  | .inner t v => let (w, u) := s.innerAccess t.val a v; (0, w, u)
  | .read | .fetch =>
    if busTarget a ≤ 7 then
      match s.readCalico (a - calicoBase) upset with
      | (some w, t) => (0, w, t)
      | (none, t) => (7, 0, t)
    else let w := s.wordFor reader a; (0, w, s.readEffects reader a w)
  | .stageRead dated =>
    if busTarget a ≤ 7 then
      match s.readCalico (a - calicoBase) upset with
      | (some w, t) => (0, w, t)
      | (none, t) => (7, 0, t)
    else let w := s.wordFor reader a; (0, s.withStaged dated a w, s.readEffects reader a w)

/-! ### The wheel (R23 to R26, R46, R47) -/

/-- The class that owns a position of the wheel (Table FAB-3). -/
def wheelOwner (p : Nat) : Nat :=
  if p % 2 = 0 then 0 else if p = 1 ∨ p = 7 ∨ p = 13 then 1 else if p = 11 ∨ p = 17 then 3 else 2

/-- The class that a slot of class `owner` is granted to, or lent to, among the classes that wait. -/
def slotClass (waiting : List Nat) (owner : Nat) : Option Nat :=
  (List.range 4).find? (fun c => decide (owner ≤ c) && waiting.contains c)

/-- The next position, from `pos` on, that a waiting class can take, and that class. -/
def wheelGrant (waiting : List Nat) (pos : Nat) : Option (Nat × Nat) :=
  ((List.range 20).filterMap (fun k => (slotClass waiting (wheelOwner ((pos + k) % 20))).map (fun c => ((pos + k) % 20, c)))).head?

/-- The waiting request that target `t` accepts next, with the wheel position of its slot. -/
def State.nextGrant (s : State) (t : Nat) : Option (Req × Nat) :=
  let rs := s.fab.waiting.filter (fun r => r.target == t)
  match wheelGrant (rs.map (fun r => initClass r.init)) (Sparse.get (fun _ => 0) s.fab.wheel t) with
  | none => none
  | some (p, c) =>
    let mine := rs.filter (fun r => initClass r.init == c)
    let last := Sparse.find s.fab.served (4 * t + c)
    let after := mine.filter (fun r => match last with
      | some l => decide (l < r.init)
      | none => true)
    (minBy (fun r => r.init) (if after.isEmpty then mine else after)).map (fun r => (r, p))

/-- The soft and hard bounds of an initiator, in µs: fixed for the host bridge (Table FAB-1). -/
def State.softBound (s : State) (i : Nat) : Nat := if i = 13 then 5 else s.get (TWL_INIT.SOFT i)
def State.hardBound (s : State) (i : Nat) : Nat := if i = 13 then 6 else s.get (TWL_INIT.HARD i)

/-- Initiator `i` presents accesses: Twill runs, and a core among them is up. -/
def State.presents (s : State) (i : Nat) : Bool := s.twillRuns && (decide (2 < i) || s.coreUp i)

/-- A request waits at its target, under the bounds that hold now (R26, R47). -/
def State.queueRequest (s : State) (i a : Nat) (op : BusOp) : State :=
  { s with fab := { s.fab with waiting := s.fab.waiting ++ [⟨i, accessTarget a op, a, op, s.softBound i, s.hardBound i⟩] } }

/-- An access by initiator `i`: what a row that names a whole access does. It is granted in the cycle in which it is presented, or waits at its
target (R23, R25). -/
def State.accessNow (s : State) (i a : Nat) (op : BusOp) : State :=
  let c := s.refusalAt i a op
  if c ≠ 0 then s.refuseAccess i a op c
  else if s.mustWait (accessTarget a op) then s.queueRequest i a op
  else match s.access i i a op .clean with
    | (0, w, t) => t.served i w false
    | (c, _, t) => t.refuseAccess i a op c

/-- TWILL_REQUEST. Only the cores fetch. -/
def execTwillRequest (i : Fin 14) (addr : BitVec 24) (op : BusOp) (s : State) : Out :=
  let i := i.val
  let a := addr.toNat
  let fetch := match op with | .fetch => true | _ => false
  if !s.presents i || (fetch && decide (2 < i)) then go s
  else
    let c := s.refusalAt i a op
    if c ≠ 0 then go (s.refuseAccess i a op c)
    else go (s.queueRequest i a op)

/-- The granted request leaves its target: the wheel moves past its slot, and its class remembers who was served. -/
def State.takeGrant (s : State) (t : Nat) (r : Req) (p : Nat) : State :=
  { s with fab := { s.fab with
      waiting := eraseFirst (fun x => x == r) s.fab.waiting,
      wheel := Sparse.set (fun _ => 0) s.fab.wheel t ((p + 1) % 20),
      served := Sparse.insert s.fab.served (4 * t + initClass r.init) r.init } }

/-- A granted request of an initiator other than the bridge's waiting accesses: it is served, served delayed and counted, or refused with DATA_ERR. A
core whose own context word it is restarts (R26, R29, R600). -/
def State.grantRequest (s : State) (r : Req) (late context : Bool) (upset : Upset) : State :=
  match s.access r.init r.init r.addr r.op upset with
  | (0, w, u) => (if late then u.bump (TWL_CNT.DELAYED r.init) else u).served r.init w late
  | (c, _, u) =>
    let u := u.refuseAccess r.init r.addr r.op c
    if context && decide (r.init ≤ 2) then u.coreRestart r.init 4 else u

/-- MULTIWORD_LOW_READ. -/
def execMultiwordLowRead (i : Fin 14) (addr : BitVec 24) (s : State) : Out :=
  if s.presents i.val && !(latchedBy addr.toNat).isEmpty then go (s.accessNow i.val addr.toNat .read) else go s

/-- MULTIWORD_HIGH_WRITE. -/
def execMultiwordHighWrite (i : Fin 14) (addr : BitVec 24) (v : Word) (s : State) : Out :=
  if s.presents i.val && isHighWord addr.toNat then go (s.accessNow i.val addr.toNat (.write v)) else go s

/-! ### The STC port (R19, R404 to R409): its commands come from the holder of the STC lease -/

/-- A write of initiator `who` to STO_PCMD, with the checks of an access. -/
def State.portAccess (s : State) (who : Nat) (v : Nat) : Out :=
  if s.presents who then go (s.accessNow who STO_PCMD.addr (.write (BitVec.ofNat 32 v))) else go s

/-- The word of STO_PCMD that commands `cmd` on a region. -/
def portWord (cmd region : Nat) : Nat := (STO_PCMD.REGION.into (STO_PCMD.CMD.into 0 cmd) region).toNat

/-- READ, WRITE, SETPWR and SETPWW. -/
def execStoRead (who : Fin 14) (region : Fin 32) (s : State) : Out := s.portAccess who.val (portWord 2 region.val)
def execStoWrite (who : Fin 14) (region : Fin 32) (s : State) : Out := s.portAccess who.val (portWord 3 region.val)
def execStoSetPwr (who : Fin 14) (region : Fin 32) (s : State) : Out := s.portAccess who.val (portWord 4 region.val)
def execStoSetPww (who : Fin 14) (region : Fin 32) (s : State) : Out := s.portAccess who.val (portWord 5 region.val)

/-- STORE with a mask. -/
def execStoStore (who : Fin 14) (mask : BitVec 16) (s : State) : Out :=
  s.portAccess who.val (STO_PCMD.MASK.into (STO_PCMD.CMD.into 0 1) mask.toNat).toNat

/-- CLOSE. -/
def execTransferClose (who : Fin 14) (s : State) : Out := s.portAccess who.val (portWord 6 0)

/-- STAGING_WRITE: a write of initiator `i` through a staging path (R39, R204). -/
def execStagingWrite (i : Fin 14) (dated : Bool) (addr : BitVec 24) (v : Word) (s : State) : Out :=
  if s.presents i.val then go (s.accessNow i.val addr.toNat (.stage dated v)) else go s

/-- PDATA_ACCESS by initiator `who`: a write of `v`, or a read. -/
def execPdataAccess (who : Fin 14) (v : Option Word) (s : State) : Out :=
  if s.presents who.val then
    match v with
    | some w => go (s.accessNow who.val STO_PDATA.addr (.write w))
    | none => go (s.accessNow who.val STO_PDATA.addr .read)
  else go s

end Sys2Proof.Machine
end

