-- ==== Sys2Proof/Machine/HostIf.lean ====
section
/-! DEFINITION. The host bridge (chapter 06; chapter 20, R557): reads and writes of the 48 host registers in both protocols, the three
windows, the key, the clock set, the watchdog and the mailbox. A host row is a whole access, with how long it waited for Twill in
µs, rounded up. Host registers are named by A[6:1]. -/

namespace Sys2Proof.Machine

abbrev Half16 := BitVec 16

/-! ### Serving and refusing (R155, R173, R174, R178, R193, R199, R599) -/

/-- The bridge serves the bus: step 3 is reached, the chip is in Run, VIO_H is good, RESET_N is high, and D[15:0] have taken their Run meaning
(R63, R153). -/
def State.hostServes (s : State) : Bool := s.twillRuns && !s.pins.vioHBad && !s.pins.resetLow && s.pins.dRole == s.runRole

/-- A refused host access; a refusal with KEY raises KEY_REFUSE. -/
def State.hostRefuse (s : State) (code off : Nat) : State := (s.hostRefusal code off).raiseIf (code == 0xD) Ev.KEY_REFUSE

/-- A forwarded access that was accepted after 5 µs. -/
def State.hostDelayed (s : State) : State :=
  ((s.bump (TWL_CNT.DELAYED 13)).raiseIf (!s.on H_STAT.DELAYED) Ev.HOST_DELAYED).put H_STAT.DELAYED 1

/-- The data that a host read returns. -/
def State.hostReturns (s : State) (v : Nat) : State := { s with hst := { s.hst with data := BitVec.ofNat 16 v } }


/-- A forwarded write of a command register, whose Twill access goes to word `a`. -/
def State.forward (s : State) (off waited a : Nat) (f : State → State) : State :=
  if 6 < waited then (s.refuse 13 1 (busTarget a)).hostRefuse 1 off
  else if 5 < waited then f s.hostDelayed
  else f s

/-! ### The windows (R187 to R192) -/

def State.win (s : State) (n : Nat) : HostWindow := Sparse.get (fun _ => ⟨0, 0, 0, false, false⟩) s.hst.windows n

def State.setWin (s : State) (n : Nat) (w : HostWindow) : State :=
  { s with hst := { s.hst with windows := Sparse.set (fun _ => ⟨0, 0, 0, false, false⟩) s.hst.windows n w } }

/-- The word that window `n` addresses. -/
def State.winAddr (s : State) (n : Nat) : Nat := s.get (W_SEL.ADDRHI n) * 0x10000 + s.get (W_ADDR.ADDR n)

/-- Number of a window's register on the bus: 0 SEL, 1 ADDR, 2 DLO, 3 DHI, 4 STAT. -/
def winOff (n k : Nat) : Nat := 12 + 5 * n + k

/-- Prefetch applies: in serial mode always (R191). -/
def State.winPrefetches (s : State) (n : Nat) : Bool := s.on SYS_STRAP.HOSTMODE || s.on (W_SEL.PRE n)

/-- The read that window `n` makes, in its space. -/
def State.winReadOp (s : State) (n : Nat) : BusOp :=
  match s.get (W_SEL.SPACE n) with
  | 0 => .read
  | k => .stageRead (k == 2)

/-- The write that window `n` makes with the word `w`, in its space (R189, R192). -/
def State.winWriteOp (s : State) (n : Nat) (w : Word) : BusOp :=
  match s.get (W_SEL.SPACE n) with
  | 0 => .write w
  | k => .stage (k == 2) w

/-- The word that a write of Wn_DHI commits (R189). -/
def State.winWord (s : State) (n : Nat) (v : Half16) : Word := v ++ (s.win n).low

/-! ### Forwarded accesses (Table HST-1, R173, R177, R184) -/

/-- What the bridge asks of Twill for a forwarded access of register `off`, if that register is one of the forwarding kind (Table HST-1). -/
def State.forwardOp (s : State) (off : Nat) (write : Bool) (v : Half16) : Option (Nat × BusOp) :=
  if write then
    if off = 11 then some (EVT_HPEND.addr 0, .write 0) else if off = 27 then some (STG_CMD.addr, .write 0)
    else if off = 35 then some (CLK_STAT.addr, .write 0) else if off = 42 then some (PWR_REQ.addr, .write 0)
    else if off = 15 ∨ off = 20 ∨ off = 25 then
      let n := (off - 12) / 5
      some (s.winAddr n, s.winWriteOp n (s.winWord n v))
    else none
  else if off = 14 ∨ off = 19 ∨ off = 24 then
    let n := (off - 12) / 5
    if s.winPrefetches n then none else some (s.winAddr n, s.winReadOp n)
  else none

/-- The word that a forwarded access of register `off` names. -/
def State.forwardWord (s : State) (off : Nat) (write : Bool) : Option Nat := (s.forwardOp off write 0).map (·.1)

/-- The forwarding slot of a register: 0 to 2 the windows, 3 the shared one (R184). -/
def hostSlot (off : Nat) : Nat := (windowOf off).getD 3

/-- A host access that is refused with FENCED (R599). A forwarded one is a Twill access too, counted and recorded (R29); a lease command among them
leaves NOT_HOLDER (R35). The lease register is reached in the live space alone. -/
def State.hostFenced (s : State) (off : Nat) (write : Bool) (v : Half16) : State :=
  let s := match s.forwardOp off write v with
    | some (a, op) => s.refuseAccess 13 a op 5
    | none => s
  ((s.windowCode off 5).hostRefuse 5 off).hostReturns 0

/-- What a host access does while the bridge serves: FENCED, with 0 as data, while the bridge is fenced. -/
def State.hostAct (s : State) (off : Nat) (write : Bool) (v : Half16) (f : State → State) : State :=
  if s.fenced 13 then s.hostFenced off write v else f s

/-- A host access: none before the bridge serves. -/
def State.hostCycle (s : State) (off : Nat) (write : Bool) (v : Half16) (f : State → State) : Out :=
  if !s.hostServes then go s else go (s.hostAct off write v f)

/-- The request with which a forwarded access waits: the fabric decides no refusal at once, and its target does not grant it in the same
cycle (R23, R25, R28). SPACE 3 names no space. -/
def State.hostRequest (s : State) (off : Nat) (write : Bool) (v : Half16) : Option Req :=
  match s.forwardOp off write v with
  | none => none
  | some (a, op) =>
    let spaceless := match windowOf off with
      | some n => s.get (W_SEL.SPACE n) == 3
      | none => false
    if spaceless || s.refusalAt 13 a op != 0 || !s.mustWait (accessTarget a op) then none
    else some ⟨13, accessTarget a op, a, op, 5, 6⟩

/-- A forwarded access waits in its slot; in the parallel protocol WAIT_N holds the host (R177, R184). -/
def State.park (s : State) (x : HostAccess) : State :=
  { s with fab := { s.fab with waiting := s.fab.waiting ++ [x.req] }
           hst := { s.hst with slots := Sparse.insert s.hst.slots (hostSlot x.off) x }
           pins := { s.pins with waitLow := s.pins.waitLow || !s.on SYS_STRAP.HOSTMODE } }

/-- The access in a slot is over: the slot is free, and WAIT_N is released. -/
def State.unpark (s : State) (slot : Nat) : State :=
  { s with hst := { s.hst with slots := Sparse.erase s.hst.slots slot }, pins := { s.pins with waitLow := false } }

/-! ### The windows at work (R187 to R192) -/

/-- A prefetch begins. With SPACE 3 it is refused at once. -/
def State.winPrefetch (s : State) (n : Nat) : State :=
  let s := s.put (W_STAT.RDY n) 0
  if s.get (W_SEL.SPACE n) = 3 then ((s.refuse 13 8 31).put (W_STAT.CODE n) 8).put (W_STAT.BUSY n) 0
  else (s.setWin n { s.win n with stale := false }).put (W_STAT.BUSY n) 1

/-- After a completed DLO read or an accepted DHI write, the address advances where INC is 1, modulo 2^24 (R190). -/
def State.winAdvance (s : State) (n : Nat) : State :=
  if s.on (W_SEL.INC n) then
    let a := (s.winAddr n + 1) % 0x1000000
    let s := (s.put (W_SEL.ADDRHI n) (a / 0x10000)).put (W_ADDR.ADDR n) (a % 0x10000)
    if s.winPrefetches n then s.winPrefetch n else s
  else s

/-- The word that window `n` addresses, taken without its side effect (R175): the code and the word. A prefetch served delayed counts as the delayed
access of its window. DEDUCED (log 7). -/
def State.winTake (s : State) (n waited : Nat) (upset : Upset) : Nat × Word × State :=
  let a := s.winAddr n
  let r := 32 + n
  let op := s.winReadOp n
  if s.get (W_SEL.SPACE n) = 3 then (8, 0, s.refuse 13 8 31)
  else
    let c := s.refusalAt 13 a op
    let c := if c = 0 ∧ 6 < waited then 1 else c
    if c ≠ 0 then (c, 0, s.refuse 13 c (busTarget a))
    else
      let s := if 5 < waited then s.hostDelayed.put (W_STAT.DELAYED n) 1 else s
      if busTarget a ≤ 7 then
        match s.readCalico (a - calicoBase) upset with
        | (some w, t) => (0, w, t)
        | (none, t) => (7, 0, t.refuse 13 7 (busTarget a))
      else
        let w := s.wordFor r a
        let s := s.takeLatches r a
        match op with
        | .stageRead dated => (0, s.withStaged dated a w, s)
        | _ => (0, w, s)

/-- A completed read of the window's word has a side effect, so that a commit follows it (R175). -/
def State.winCommits (s : State) (n : Nat) : Bool := rcMask (s.winAddr n) != 0 || s.winAddr n == STO_PDATA.addr

/-- The commit of a completed window read that returned `w`, the chip having set or written the bits `since` after it was taken. It
is a further access, posted by the bridge, which waits `posted` µs and can be refused (R26, R175). -/
def State.winCommit (s : State) (n : Nat) (w since : Word) (posted : Nat) : State :=
  let a := s.winAddr n
  if !s.winCommits n then s
  else
    let c := s.refusalAt 13 a (s.winReadOp n)
    let c := if c = 0 ∧ 6 < posted then 1 else c
    if c ≠ 0 then (s.refuse 13 c (busTarget a)).put (W_STAT.CODE n) c
    else
      let s := if 5 < posted then s.bump (TWL_CNT.DELAYED 13) else s
      let s := if a = STO_PDATA.addr then s.pdataRead.2 else s
      s.commitRead a w since

/-- A completed read returns `w`: its low half to the host, its high half to Wn_DHI (R188). -/
def State.winReturn (s : State) (n : Nat) (w : Word) : State :=
  (s.setWin n { s.win n with high := w.extractLsb' 16 16 }).hostReturns (w.toNat % 0x10000)

/-- A refused access of a window. -/
def State.winRefuse (s : State) (n code off : Nat) : State := ((s.put (W_STAT.CODE n) code).hostRefuse code off).hostReturns 0

/-- A Wn_DLO read of a prefetched word (R191): the effect of reading one buffered word is committed once. With SPACE 3 the prefetch was refused with
DECODE, so that RDY is 0 and the read is refused with NOT_READY. DEDUCED (log 7). -/
def State.winBuffered (s : State) (n : Nat) (since : Word) (posted : Nat) : State :=
  if s.on (W_STAT.RDY n) then
    let w := (s.win n).buffer
    let done := (s.win n).done
    let s := ((s.setWin n { s.win n with done := true }).winReturn n w).put (W_STAT.CODE n) 0
    (if done then s else s.winCommit n w since posted).winAdvance n
  else s.winRefuse n 0xE (winOff n 2)

/-- A read of Wn_DLO that completes. -/
def State.winRead (s : State) (n waited : Nat) (upset : Upset) (since : Word) (posted : Nat) : State :=
  if s.winPrefetches n then s.winBuffered n since posted
  else match s.winTake n waited upset with
    | (0, w, s) =>
      let s := (s.put (W_STAT.CODE n) 0).winReturn n w
      (s.winCommit n w since posted).winAdvance n
    | (c, _, s) => s.winRefuse n c (winOff n 2)

/-- A write of Wn_DHI: the held low half and `v` are written as one word (R189). A refused one has no effect. DEDUCED (log 7). -/
def State.winWrite (s : State) (n waited : Nat) (v : Half16) : State :=
  let a := s.winAddr n
  let refused (s : State) (c : Nat) : State := (s.put (W_STAT.CODE n) c).hostRefuse c (winOff n 3)
  if s.get (W_SEL.SPACE n) = 3 then refused (s.refuse 13 8 31) 8
  else
    let op := s.winWriteOp n (s.winWord n v)
    let c := s.refusalAt 13 a op
    let c := if c = 0 ∧ 6 < waited then 1 else c
    if c ≠ 0 then refused (s.refuseAccess 13 a op c) c
    else
      let s := if 5 < waited then s.hostDelayed.put (W_STAT.DELAYED n) 1 else s
      let s := (s.access (32 + n) 13 a op .clean).2.2
      ((s.put (W_STAT.LOHELD n) 0).put (W_STAT.CODE n) 0).winAdvance n

/-- A write of Wn_DLO holds the low half in the bridge (R189). -/
def State.winHold (s : State) (n : Nat) (v : Half16) : State :=
  (s.setWin n { s.win n with low := v }).put (W_STAT.LOHELD n) 1

/-- A write of Wn_SEL or Wn_ADDR clears RDY; one of Wn_ADDR begins a prefetch (R187, R191). DEDUCED (log 7). -/
def State.winSelect (s : State) (n : Nat) (addr : Bool) (v : Half16) : State :=
  let s := s.put (W_STAT.RDY n) 0
  if addr then
    let s := s.put (W_ADDR.ADDR n) v.toNat
    if s.winPrefetches n then s.winPrefetch n else s.setWin n { s.win n with stale := true }
  else (s.writeFields (W_SEL.addr n) (BitVec.ofNat 32 v.toNat)).setWin n { s.win n with stale := true }

/-- PREFETCH_DONE: the word that a window reads ahead has come, or its read was refused. -/
def execPrefetchDone (n : Fin 3) (waited : Nat) (upset : Upset) (s : State) : Out :=
  let n := n.val
  if !s.twillRuns || !s.on (W_STAT.BUSY n) then go s
  else if (s.win n).stale then go (s.put (W_STAT.BUSY n) 0)
  else if s.refusalAt 13 (s.winAddr n) (s.winReadOp n) = 0 ∧ s.targetBusy (busTarget (s.winAddr n)) then go s
  else match s.winTake n waited upset with
    | (0, w, s) =>
      let s := s.setWin n { s.win n with buffer := w, done := false }
      go (((s.put (W_STAT.BUSY n) 0).put (W_STAT.RDY n) 1).put (W_STAT.CODE n) 0)
    | (c, _, s) => go ((s.put (W_STAT.BUSY n) 0).put (W_STAT.CODE n) c)

/-! ### The mailbox (R197, R198) -/

/-- A write of H_MBOX_TX. -/
def State.mailWrite (s : State) (v : Half16) : State :=
  if s.mbx.tx.length = 64 then s.hostRefuse 0xC 36
  else State.showMail { s with mbx := { s.mbx with tx := s.mbx.tx ++ [v] } }

/-- A word leaves the receive FIFO, at the completion of its read. -/
def State.mailPop (s : State) : State :=
  match s.mbx.rx with
  | [] => s
  | w :: rx =>
    let part := if s.mbx.part = 0 then w.toNat % 64 else s.mbx.part - 1
    State.showMail { s with mbx := { s.mbx with rx := rx, part := part } }

/-- The bytes that the words of a mailbox message carry, CTYPE in the header (R534). -/
def mailBytes (ws : List Half16) : List Byte := ws.flatMap (fun w => leBytes 2 w.toNat)

/-- A message of the host, taken as though it had come from the head-end; only CTYPE 0x12 to 0x14 are accepted (R549). -/
def State.mailTaken (s : State) (header : Half16) (body : List Half16) : State :=
  let ctype := header.toNat / 256
  let bytes := mailBytes body
  if s.pod then s
  else if 0x12 ≤ ctype ∧ ctype ≤ 0x14 ∧ 6 ≤ bytes.length then
    { s with inbox := s.inbox ++ [⟨3, s.get (CON_HEAD.ADDR 0), BitVec.ofNat 8 ctype :: bytes.drop 1, none, 0⟩] }
  else if conTypes.contains ctype then s
  else s.bump CON_CNT2.BADTYPE

/-- MBOX_MESSAGE: a header and all its words are in the transmit FIFO. -/
def execMboxMessage (s : State) : Out :=
  match s.mbx.tx with
  | [] => go s
  | h :: ws =>
    let len := h.toNat % 64
    if s.twillRuns && decide (len ≤ ws.length) then
      let s := State.showMail { s with mbx := { s.mbx with tx := ws.drop len } }
      go ((s.raiseIf s.mbx.tx.isEmpty Ev.MBOX_TXEMPTY).mailTaken h (ws.take len))
    else go s

/-- MBOX_DELIVER: the oldest queued message that fits whole is placed in the receive FIFO; a concentrator message counts as delivered
(R545). -/
def execMboxDeliver (s : State) : Out :=
  match s.mbx.queue with
  | [] => go s
  | m :: rest =>
    if s.twillRuns && decide (s.mbx.rx.length + m.words.length ≤ 64) then
      let s := State.showMail { s with mbx := { s.mbx with rx := s.mbx.rx ++ m.words, queue := rest } }
      match m.con with
      | some c => go (s.messageDelivered c)
      | none => go s
    else go s

/-- What H_CTRL.MBOXRST does: both FIFOs and the message queue are emptied. The chip has taken no message, so that MBOX_TXEMPTY is not raised. DESIGN
CHOICE (log 7). -/
def State.mailReset (s : State) : State := State.showMail { s with mbx := ⟨[], [], 0, []⟩ }

/-! ### The watchdog (R196) -/

/-- The count starts again; HOSTLOST is cleared, and a message that waits for the mailbox may go. -/
def State.wdgRestart (s : State) : State :=
  State.pump { (s.put H_STAT.HOSTLOST 0) with hst := { s.hst with wdgFrom := s.time.runCyc } }

/-- A write of H_WDG. -/
def State.wdgWrite (s : State) (v : Half16) : State :=
  if v.toNat / 256 = 0xA5 then s.wdgRestart
  else if v.toNat / 256 = 0 then (s.put H_WDG.PERIOD (v.toNat % 256)).wdgRestart
  else s

/-- HOST_WDG: PERIOD has run out. Messages that wait in the mailbox queue fail over (R544, R545). -/
def execHostWdg (s : State) : Out :=
  let period := s.get H_WDG.PERIOD
  if s.twillRuns && period != 0 && !s.on H_STAT.HOSTLOST && decide (period * 100000 ≤ cycUs (s.time.runCyc - s.hst.wdgFrom)) then
    let s := (s.put H_STAT.HOSTLOST 1).raise Ev.HOST_WDG
    let back := s.mbx.queue.filterMap (fun (m : MailOut) => m.con)
    let s := { s with mbx := { s.mbx with queue := s.mbx.queue.filter (fun m => m.con.isNone) } }
    go (back.foldl State.messageBack s)
  else go s

/-! ### The key and the clock (R193 to R195) -/

/-- A write of H_KEY. -/
def State.keyArm (s : State) (v : Half16) : State :=
  if v = 0x5AC3 then { (s.put H_STAT.ARMED 1) with hst := { s.hst with armedAt := s.time.runCyc } } else s.disarmKey

/-- KEY_TIMEOUT: 1 ms after arming. -/
def execKeyTimeout (s : State) : Out :=
  if s.on H_STAT.ARMED && s.twillRuns && decide (1000 ≤ cycUs (s.time.runCyc - s.hst.armedAt)) then go s.disarmKey else go s

/-- H_TIME_CTL.CMD = 1: the held value waits for the next boundary; DONE reads 0 until it has taken effect. -/
def State.clockRequest (s : State) : State :=
  { (s.put H_TIME_CTL.DONE 0) with hst := { s.hst with setPending := some s.hst.timeHeld } }

/-- CLOCK_SET_LOAD: the next 1/1024 s boundary of the RTC after the acceptance. -/
def execClockSetLoad (s : State) : Out :=
  match s.hst.setPending with
  | some v =>
    if s.umb.frozen || s.time.presc != 0 then go s
    else go (State.setClock ({ (s.put H_TIME_CTL.DONE 1) with hst := { s.hst with setPending := none } }) v 0)
  | none => go s

/-- A write of H_CTRL, with the key. -/
def State.ctrlWrite (s : State) (v : Half16) : State :=
  let s := if v.getLsbD 1 then s.winReset else s
  let s := if v.getLsbD 2 then s.mailReset else s
  if v.getLsbD 0 then s.softwareStart else s

/-! ### Events (R557) -/

/-- A write of H_EVT_ACK. -/
def State.evtAck (s : State) (v : Half16) : State :=
  if v.getLsbD 5 then s.ackBits s.hst.evtBank s.hst.evtSeen
  else
    let b := s.get H_EVT_BANK.BANK
    if b < 36 then s.ackBits b (BitVec.ofNat 32 (2 ^ (v.toNat % 32))) else s

/-- The host-pending bits of BANK; banks 36 to 63 read 0. -/
def State.evtWord (s : State) : Word := if s.get H_EVT_BANK.BANK < 36 then s.rd (EVT_HPEND.addr (s.get H_EVT_BANK.BANK)) else 0

/-! ### Host registers (R171, R172, Tables HST-7 to HST-29) -/

/-- The conflict code that H_STG_ERR shows next (R215). -/
def State.nextConflict (s : State) : Nat :=
  if s.stg.errNext < 64 then (s.rd (STG_CONF.addr s.stg.errNext)).toNat / 2 ^ 24 else 0

/-- H_PWR_STAT mirrors PWR_STAT and PWR_VBAT (Table HST-24). -/
def State.hostPower (s : State) : Nat :=
  let w := (s.rd PWR_STAT.addr).toNat
  w % 32 + 32 * s.get PWR_STAT.VDRVOK + 64 * s.get PWR_STAT.VLOST + 128 * s.get PWR_STAT.CUT
    + 256 * min 255 ((s.get PWR_VBAT.MV - 2000) / 10)

/-- The register word with the fields that mirror other registers. -/
def State.hostMirror (s : State) (off : Nat) : Nat :=
  let w := (s.rd (hostBase + off)).toNat
  match off with
  | 2 => w / 128 % 512 * 128 + 64 * (decide (s.get H_BUSERR.COUNT ≠ 0)).toNat + 32 * s.get H_STAT.DELAYED
      + 16 * s.meterReady.toNat + s.get SYS_BOOT.PHASE
  | 5 => (s.rd SYS_STRAP.addr).toNat % 16
  | 28 => (s.rd STG_STAT.addr).toNat % 0x10000
  | 29 => s.nextConflict
  | 30 => s.stagedAt / 1024 % 0x10000
  | 31 => s.stagedAt / 2 ^ 26 % 0x10000
  | 32 => s.time.rtc.toNat % 0x10000
  | 33 => s.hst.timeLatch % 0x10000
  | 34 => s.hst.timeLatch / 0x10000 % 0x10000
  | 37 => (s.mbx.rx.headD 0).toNat
  | 39 => if s.on SYS_STRAP.HOSTMODE then w else 0
  | 40 => w / 256 * 256 + w % 2 + (s.rd UMB_STAT.addr).toNat % 8 * 2
  | 41 => s.hostPower
  | 42 => 16 * s.get PWR_REQ.RESULT
  | 46 => s.get SYS_BYPASS.CLOSED + 2 * s.get LOP_STAT.REPEAT + 4 * (s.on LOP_STAT.REPEAT && s.on LOP_CFG.ROLE).toNat
      + 8 * s.get LOP_STAT.RING + 16 * min 127 (s.get LOP_STAT.NODES)
  | 47 => (s.rd SEA_STAT.addr).toNat % 32 + 64 * s.get SEA_CTR.CTR
  | _ => w

/-- What a read of host register `off` returns, without its effect; offsets from 0x60 read 0 (R9). -/
def State.hostPeek (s : State) (off : Nat) : Nat :=
  if 48 ≤ off then 0
  else if off = 9 then s.evtWord.toNat % 0x10000
  else if off = 10 then s.hst.evtSeen.toNat / 0x10000
  else if 12 ≤ off ∧ off < 27 ∧ (off - 12) % 5 = 2 then
    let n := (off - 12) / 5
    if s.on (W_STAT.RDY n) then (s.win n).buffer.toNat % 0x10000 else 0
  else if 12 ≤ off ∧ off < 27 ∧ (off - 12) % 5 = 3 then (s.win ((off - 12) / 5)).high.toNat
  else s.hostMirror off &&& (readMask (hostBase + off)).toNat

/-- The effect of a completed read of a local register that returned `v` (R175): a latch, a word removed, a code consumed, RC fields
cleared. -/
def State.hostCommit (s : State) (off : Nat) (v since : Word) : State :=
  match off with
  | 9 => { s with hst := { s.hst with evtBank := min 35 (s.get H_EVT_BANK.BANK), evtSeen := s.evtWord } }
  | 29 => if s.nextConflict = 0 then s else { s with stg := { s.stg with errNext := s.stg.errNext + 1 } }
  | 32 => { s with hst := { s.hst with timeLatch := s.time.rtc.toNat / 0x10000 } }
  | 37 => s.mailPop
  | 39 => if s.on SYS_STRAP.HOSTMODE then s.commitRead (hostBase + 39) v since else s
  | 40 => s.commitRead (hostBase + 40) v since
  | 45 => s.commitRead (hostBase + 45) v since
  | _ => s

/-- A completed read of a register other than a window's data. -/
def State.hostRead (s : State) (off : Nat) (since : Word) : State :=
  let v := s.hostPeek off
  (s.hostCommit off (BitVec.ofNat 32 v) since).hostReturns v

/-- A write that goes field by field; the mask register moves the IRQ pins. -/
def State.hostFields (s : State) (off : Nat) (v : Half16) : State :=
  let s := s.writeFields (hostBase + off) (BitVec.ofNat 32 v.toNat)
  if off = 7 then s.showPending else s

/-- A third of the held set value (R195). -/
def State.holdTime (s : State) (k : Nat) (v : Half16) : State :=
  let u := 2 ^ (16 * k)
  let t := s.hst.timeHeld
  { s with hst := { s.hst with timeHeld := t - t / u % 0x10000 * u + v.toNat * u } }

/-- H_STG_AT_LO and H_STG_AT_HI are the host view of STG_AT (R211). -/
def State.holdAt (s : State) (high : Bool) (v : Half16) : State :=
  let t := s.stagedAt / 1024
  let n := if high then t % 0x10000 + v.toNat * 0x10000 else t / 0x10000 % 0x10000 * 0x10000 + v.toNat
  (s.put STG_AT.AT (n % 2 ^ 22)).put STG_AT_H.AT (n / 2 ^ 22)

/-- Registers whose writes take the key (Table HST-1). -/
def keyed (off : Nat) : Bool := off == 3 || off == 35 || off == 42

/-- A write of a window's register. -/
def State.hostWindow (s : State) (n k waited : Nat) (v : Half16) : State :=
  match k with
  | 0 => s.winSelect n false v
  | 1 => s.winSelect n true v
  | 2 => s.winHold n v
  | 3 => s.winWrite n waited v
  | _ => s.hostFields (winOff n 4) v

/-- What a write of host register `off` does once the key is settled. -/
def State.hostEffect (s : State) (off waited : Nat) (v : Half16) : State :=
  match off with
  | 3 => s.ctrlWrite v
  | 4 => s.keyArm v
  | 11 => s.forward off waited (EVT_HPEND.addr 0) (fun s => s.evtAck v)
  | 27 => s.forward off waited STG_CMD.addr (fun s => s.stageCommand (v.toNat % 8) (v.getLsbD 3))
  | 30 => s.holdAt false v
  | 31 => s.holdAt true v
  | 32 => s.holdTime 0 v
  | 33 => s.holdTime 1 v
  | 34 => s.holdTime 2 v
  | 35 => s.forward off waited CLK_STAT.addr (fun s => if v.toNat % 4 = 1 then s.clockRequest else s)
  | 36 => s.mailWrite v
  | 42 => s.forward off waited PWR_REQ.addr (fun s => s.requestCode (v.toNat % 4))
  | 43 => s.wdgWrite v
  | _ => if 12 ≤ off ∧ off < 27 then s.hostWindow ((off - 12) / 5) ((off - 12) % 5) waited v else s.hostFields off v

/-- A write of host register `off` that completes: any write but one of H_KEY disarms the key, and a keyed register takes only the write
that disarms it (R193). Offsets from 0x60 ignore writes (R9). -/
def State.hostWrite (s : State) (off waited : Nat) (v : Half16) : State :=
  if 48 ≤ off then s
  else
    let armed := s.on H_STAT.ARMED
    let s := if off = 4 then s else s.disarmKey
    if keyed off && !armed then s.hostRefuse 0xD off
    else match s.hostRequest off true v with
      | some r => s.park ⟨off, true, v, 0, 0, r⟩
      | none => s.hostEffect off waited v

/-! ### The rows -/

/-- A row that is a write of one host register. -/
def State.hostWriteRow (s : State) (off waited : Nat) (v : Half16) : Out := s.hostCycle off true v (fun s => s.hostWrite off waited v)

/-- H_KEY_ARM: a write of H_KEY. -/
def execHKeyArm (v : BitVec 16) (s : State) : Out := s.hostWriteRow 4 0 v

/-- WINRST and MBOXRST: writes of H_CTRL. -/
def execWinrst (s : State) : Out := s.hostWriteRow 3 0 2
def execMboxrst (s : State) : Out := s.hostWriteRow 3 0 4

/-- WINDOW_SELECT_WRITE: of Wn_ADDR, or of Wn_SEL. -/
def execWindowSelectWrite (n : Fin 3) (address : Bool) (v : BitVec 16) (s : State) : Out :=
  s.hostWriteRow (winOff n.val address.toNat) 0 v

/-- WINDOW_DLO_READ: `whole` says that the strobe ended after WAIT_N was released (R178), `posted` how long its commit waits. -/
def execWindowDloRead (n : Fin 3) (waited : Nat) (upset : Upset) (since : Word) (whole : Bool) (posted : Nat) (s : State) : Out :=
  let off := winOff n.val 2
  s.hostCycle off false 0 (fun s =>
    if !(whole || s.on SYS_STRAP.HOSTMODE) then s.winRefuse n.val 0xB off
    else match s.hostRequest off false 0 with
      | some r => s.park ⟨off, false, 0, since, posted, r⟩
      | none => s.winRead n.val waited upset since posted)

/-- WINDOW_DLO_WRITE. -/
def execWindowDloWrite (n : Fin 3) (v : BitVec 16) (s : State) : Out :=
  s.hostWriteRow (winOff n.val 2) 0 v

/-- WINDOW_DHI_WRITE. -/
def execWindowDhiWrite (n : Fin 3) (waited : Nat) (v : BitVec 16) (s : State) : Out :=
  s.hostWriteRow (winOff n.val 3) waited v

/-! ### The outcome of an access that waits at its target (R26, R173, R177) -/

/-- A waiting host access is accepted after `waited` µs: it does what it would have done at once. -/
def State.hostResume (s : State) (slot : Nat) (x : HostAccess) (waited : Nat) (upset : Upset) : State :=
  let s := s.unpark slot
  if x.write then s.hostEffect x.off waited x.v else s.winRead ((x.off - 12) / 5) waited upset x.since x.posted

/-- ACCESS_ACCEPTED: the granted request has waited `waited` µs; `context` says that the word is one of the core's own context words. -/
def execAccessAccepted (t : Fin 20) (waited : Nat) (upset : Upset) (context : Bool) (s : State) : Out :=
  match s.nextGrant t.val with
  | none => go s
  | some (r, p) =>
    if !s.twillRuns || s.targetBusy t.val || decide (r.hard < waited) then go s
    else
      let s := s.takeGrant t.val r p
      match s.hst.slots.find? (fun x => x.2.req == r) with
      | some (k, x) => go (s.hostResume k x waited upset)
      | none => go (s.grantRequest r (decide (r.soft < waited)) context upset)

/-- HARD_BOUND_EXPIRY: the oldest waiting request of `i` is withdrawn; one of the host bridge ends its host access (R173). -/
def execHardBoundExpiry (i : Fin 14) (s : State) : Out :=
  match s.fab.waiting.find? (fun r => r.init == i.val) with
  | none => go s
  | some r =>
    if s.twillRuns then
      let t : State := { s with fab := { s.fab with waiting := eraseFirst (fun x => x == r) s.fab.waiting } }
      let t := t.refuseAccess r.init r.addr r.op 1
      match s.hst.slots.find? (fun x => x.2.req == r) with
      | some (k, x) =>
        let t := ((t.unpark k).windowCode x.off 1).hostRefuse 1 x.off
        go (if x.write then t else t.hostReturns 0)
      | none => go t
    else go s

/-- HOST_BOUND_EXPIRY: a forwarded access has not been accepted 6 µs after its strobe; `presented` says whether it had got past the posted
work ahead of it. A write has disarmed the key, and one that takes the key was let through by it. An access that waits in its slot is withdrawn from
its target. -/
def execHostBoundExpiry (off : BitVec 6) (write presented : Bool) (s : State) : Out :=
  s.hostCycle off.toNat write 0 (fun s =>
    match s.forwardWord off.toNat write with
    | none => s
    | some a =>
      match s.hst.slots.find? (fun x => x.2.off == off.toNat && x.2.write == write) with
      | some (k, x) =>
        let s : State := { s with fab := { s.fab with waiting := eraseFirst (fun r => r == x.req) s.fab.waiting } }
        let s := (((s.refuseAccess 13 x.req.addr x.req.op 1).unpark k).windowCode x.off 1).hostRefuse 1 x.off
        if write then s else s.hostReturns 0
      | none =>
      let armed := s.on H_STAT.ARMED
      let s := if write then s.disarmKey else s
      if write && keyed off.toNat && !armed then s.hostRefuse 0xD off.toNat
      else
        let s := if presented then s.refuse 13 1 (busTarget a) else s
        let s := (s.windowCode off.toNat 1).hostRefuse 1 off.toNat
        if write then s else s.hostReturns 0)

/-- The forwarding slot of register `off` is occupied: by an access that waits, by a prefetch (Table HST-16), or, as the operand says, by a commit or an
access that has still to be resolved (R184). -/
def State.slotTaken (s : State) (off : Nat) (occupied : Bool) : Bool :=
  occupied || (Sparse.find s.hst.slots (hostSlot off)).isSome || match windowOf off with
    | some n => s.on (W_STAT.BUSY n)
    | none => false

/-- A serial write needs its slot: it is forwarded, or it is one of Wn_ADDR, which starts a prefetch (R184, R191). DEDUCED (log 7). -/
def State.writeNeedsSlot (s : State) (off : Nat) : Bool :=
  (s.forwardWord off true).isSome || match windowOf off with
    | some n => off == winOff n 1
    | none => false

/-- A write that a serial frame carries. -/
def State.serialWrite (s : State) (off waited : Nat) (occupied : Bool) (v : Half16) : State :=
  if s.writeNeedsSlot off && s.slotTaken off occupied && !(keyed off && !s.on H_STAT.ARMED) then (s.disarmKey).hostRefuse 0xA off
  else s.hostWrite off waited v

/-- A read that a serial frame carries. One of a buffered word whose commit needs an occupied slot has no effect (R184). -/
def State.serialRead (s : State) (off : Nat) (occupied : Bool) (since : Word) (posted : Nat) : State :=
  if 12 ≤ off ∧ off < 27 ∧ (off - 12) % 5 = 2 then
    let n := (off - 12) / 5
    if s.on (W_STAT.RDY n) && s.winCommits n && !(s.win n).done && s.slotTaken off occupied then s.hostRefuse 0xA off
    else s.winBuffered n since posted
  else s.hostRead off since

/-- What a frame leaves in H_SER_STAT: LASTOK, and a count of frames with more than 32 edges (R183). DEDUCED (log 7). -/
def State.serialMarks (s : State) (edges : Nat) (good : Bool) : State :=
  let s := if 32 < edges then (s.bump H_SER_STAT.EXTRA).raise Ev.SER_EXTRA else s
  s.putB H_SER_STAT.LASTOK good

/-- What SDO carries in a frame, most significant bit first: H_STAT bits 7:0 as they stood when SEL_N fell, the read data, the chip's CRC, and ones from
edge 33 on (R180, R186, Table HST-5). -/
def State.driveSdo (s : State) (data : Half16) (crc edges : Nat) : State :=
  let w : BitVec 32 := BitVec.ofNat 8 (s.hostPeek 2) ++ data ++ BitVec.ofNat 8 crc
  { s with hst := { s.hst with sdo := (List.range 32).map (fun k => w.getLsbD (31 - k)) ++ List.replicate (edges - 32) true } }

/-- SEL_N falls and rises again, D[15:4] standing as the board drives them. -/
def State.selFalls (s : State) (driven level : BitVec 12) : State :=
  { s with pins := { s.pins with selArmed := true, spareDriven := driven, spareLevel := level } }

/-- SERIAL_FRAME: SEL_N rises after `edges` edges; `bits` are the first 32 bits of SDI, the first of them in bit 31. `occupied` says that the
slot that the frame needs is still taken by an earlier access, `waited` is how long a forwarded write waits; `high` says that SEL_N had been
high for 20 ns since the reset release before it fell, without which no frame starts (R62); `posted` is how long the commit of a read waits;
`driven` and `level` are what the board gives D[15:4]. -/
def execSerialFrame (bits : BitVec 32) (edges waited : Nat) (occupied : Bool) (since : Word) (high : Bool) (posted : Nat)
    (driven level : BitVec 12) (s : State) : Out :=
  let armed := s.pins.selArmed || high
  let s := s.selFalls driven level
  if !s.hostServes || !s.on SYS_STRAP.HOSTMODE || !armed || decide (edges < 32) then go s
  else
    let cmd := bits.toNat / 2 ^ 24
    let off := cmd / 2 % 64
    let read := bits.getLsbD 31
    let data : Half16 := if read then BitVec.ofNat 16 (if s.fenced 13 then 0 else s.hostPeek off) else bits.extractLsb' 8 16
    let crc := crc8 [BitVec.ofNat 8 cmd, data.extractLsb' 8 8, data.extractLsb' 0 8]
    let s := s.driveSdo (if read then data else 0) crc edges
    let good := !bits.getLsbD 24 && crc == bits.toNat % 256
    if !good then go (((s.serialMarks edges false).bump H_SER_STAT.CRCERR).raise Ev.SER_CRC)
    else if read then go ((s.hostAct off false 0 (fun s => s.serialRead off occupied since posted)).serialMarks edges true)
    else go ((s.serialMarks edges true).hostAct off true data (fun s => s.serialWrite off waited occupied data))

/-- SER_SHORT: SEL_N rises after 1 to 31 edges. -/
def execSerShort (high : Bool) (driven level : BitVec 12) (s : State) : Out :=
  let armed := s.pins.selArmed || high
  let s := s.selFalls driven level
  if s.hostServes && s.on SYS_STRAP.HOSTMODE && armed then go ((s.bump H_SER_STAT.SHORT).raise Ev.SER_SHORT) else go s

/-- H_TIME_LO_READ, H_EVT_LO_READ, MBOX_RX_READ and STG_ERR_READ: completed reads. -/
def execHTimeLoRead (s : State) : Out := s.hostCycle 32 false 0 (fun s => s.hostRead 32 0)
def execHEvtLoRead (s : State) : Out := s.hostCycle 9 false 0 (fun s => s.hostRead 9 0)
def execMboxRxRead (s : State) : Out := s.hostCycle 37 false 0 (fun s => s.hostRead 37 0)
def execStgErrRead (s : State) : Out := s.hostCycle 29 false 0 (fun s => s.hostRead 29 0)

/-- CLOCK_SET_REQUEST: a write of H_TIME_CTL with CMD 1. -/
def execClockSetRequest (waited : Nat) (s : State) : Out := s.hostWriteRow 35 waited 1

/-- WDG_KICK and WDG_SET_PERIOD. -/
def execWdgKick (s : State) : Out := s.hostWriteRow 43 0 0xA500
def execWdgSetPeriod (period : BitVec 8) (s : State) : Out := s.hostWriteRow 43 0 (BitVec.ofNat 16 period.toNat)

/-- MBOX_TX_WRITE. -/
def execMboxTxWrite (v : BitVec 16) (s : State) : Out := s.hostWriteRow 36 0 v

/-- H_EVT_ACK. -/
def execHEvtAck (v : BitVec 16) (waited : Nat) (s : State) : Out := s.hostWriteRow 11 waited v

/-- REGISTER_WRITE: over Twill, or on the host bus, where a local write whose strobe is cut short is recorded and has no effect, and a forwarded one takes
effect when Twill accepts it, whenever its strobe ends (R178). -/
def execRegisterWrite (loc : RegAt) (waited : Nat) (v : Word) (s : State) : Out :=
  match loc with
  | .deep i a => if s.presents i.val then go (s.accessNow i.val a.toNat (.write v)) else go s
  | .host off whole =>
    let w := v.extractLsb' 0 16
    s.hostCycle off.toNat true w (fun s =>
      if whole || (s.forwardWord off.toNat true).isSome then s.hostWrite off.toNat waited w
      else if s.on SYS_STRAP.HOSTMODE then s else s.hostRefuse 0xB off.toNat)

/-- RC_READ_COMPLETE: a read that returned `returned` completes, the chip having set or written the bits `since` after it (R175). -/
def execRcReadComplete (loc : RegAt) (returned since : Word) (s : State) : Out :=
  match loc with
  | .deep i a =>
    if s.presents i.val then
      let c := s.refusalAt i.val a.toNat .read
      if c ≠ 0 then go (s.refuseAccess i.val a.toNat .read c) else go ((s.commitRead a.toNat returned since).served i.val returned false)
    else go s
  | .host off whole =>
    s.hostCycle off.toNat false 0 (fun s =>
      if whole then (s.hostCommit off.toNat returned since).hostReturns returned.toNat
      else if s.on SYS_STRAP.HOSTMODE then s else s.hostRefuse 0xB off.toNat)

end Sys2Proof.Machine
end

