-- ==== Sys2Proof/Machine/Local.lean ====
section
/-! DEFINITION. The local read-out unit's events (chapter 21): publications, the optical port, buttons and the display, pulse outputs
and inputs. -/

namespace Sys2Proof.Machine

/-- EPOCH_PUBLICATION of the oldest tail, 40 ms after its boundary by the Twill clock, and what APC's local services take from it (R249, R250, R579,
R592). -/
def execEpochPublication (s : State) : Out :=
  match s.fir.tails with
  | e :: _ => if s.measuring && s.tailReached e 40 then go s.publishEpoch.localPublish else go s
  | [] => go s

/-! ### The optical port (R581 to R584) -/

/-- ASCII of a text. -/
def ascii (t : String) : List Byte := t.toList.map (fun c => BitVec.ofNat 8 c.toNat)

def CRLF : List Byte := [0x0D, 0x0A]

/-- 1,500 ms in AO ticks. -/
def optLimit : Nat := 1536

/-- The port listens (R139, R582, Table BAL-10). -/
def State.optListens (s : State) : Bool :=
  s.apcRuns && s.on LOC_OPT.EN && !s.on SYS_PINCFG.OPTDIS && s.on PWR_STAT.VIOLOK && !s.on CLK_STAT.SYSSRC

def State.optStage (s : State) (st : OptStage) : State :=
  { s with loc := { s.loc with opt := { s.loc.opt with stage := st, tick := s.time.aoTick } } }

def State.optSend (s : State) (st : OptStage) (bytes : List Byte) : State :=
  { s with loc := { s.loc with opt := ⟨st, s.time.aoTick, bytes⟩ } }

/-- A parity error, a bad block check character, or 1,500 ms without a character ends the session (R584). -/
def State.optError (s : State) : State := ((s.bump LOC_OSTAT.ERRORS).raise Ev.OPT_ERROR).optEnd

/-- The device address of a request message, if the message is one: "/?" address "!" CR LF. -/
def requestAddress (msg : List Byte) : Option (List Byte) :=
  match msg with
  | 0x2F :: 0x3F :: rest =>
    let a := rest.take (rest.length - 3)
    if 3 ≤ rest.length ∧ rest.drop (rest.length - 3) = 0x21 :: CRLF then some a else none
  | _ => none

/-- OPT_REQUEST: a request message whose address is empty or the device's opens a session (R582). -/
def execOptRequest (msg : List Byte) (s : State) : Out :=
  let own := trimNul (wordBytes [s.rd (LOC_ADDR.addr 0), s.rd (LOC_ADDR.addr 1)])
  if s.optListens && s.loc.opt.stage == .idle then
    match requestAddress msg with
    | some a => if a.isEmpty || a == own then go (State.put (s.optStage .requested) LOC_OSTAT.ACTIVE 1) else go s
    | none => go s
  else go s

/-- The identification message: manufacturer mark, the proposed baud rate in mode C, the rest of the text (R581, R582). PRESUMED (log 18). -/
def State.identMessage (s : State) : List Byte :=
  let text := trimNul (wordBytes ((List.range 4).map (fun j => s.rd (LOC_IDENT.addr j))))
  let z : List Byte := if s.on LOC_OPT.MODE then [BitVec.ofNat 8 (0x30 + s.get LOC_OPT.ZMAX)] else []
  0x2F :: text.take 3 ++ z ++ text.drop 3 ++ CRLF

/-- OPT_IDENT_SEND: in mode A the data message follows directly. -/
def execOptIdentSend (s : State) : Out :=
  if s.optListens && s.loc.opt.stage == .requested && s.optDue then
    go (s.optSend (if s.on LOC_OPT.MODE then .ackWait else .readoutDue) s.identMessage)
  else go s

/-- OPT_ACK with option select characters Z and Y; `bad` says that a character had a parity error (R581, R584, R586). -/
def execOptAck (z y : Byte) (bad : Bool) (s : State) : Out :=
  if s.optListens && s.loc.opt.stage == .ackWait then
    if bad then go s.optError
    else
      let n := z.toNat - 0x30
      if z.toNat < 0x30 ∨ s.get LOC_OPT.ZMAX < n then go s.optEnd
      else if y = 0x30 then go (State.put (s.optStage .readoutDue) LOC_OSTAT.BAUD n)
      else if y = 0x36 ∧ s.on LOC_OPT.VSEN = true then go (State.put (s.optStage .w6) LOC_OSTAT.BAUD n)
      else go s.optEnd
  else go s

/-- The text of a unit code (Table LOC-2). PRESUMED (log 18). -/
def unitText (u : Nat) : List Byte :=
  match u with
  | 0 => []
  | 1 => ascii "Wh"
  | 2 => ascii "kWh"
  | 3 => ascii "MWh"
  | 4 => ascii "L"
  | 5 => ascii "m3"
  | 6 => ascii "L/h"
  | 7 => ascii "m3/h"
  | 8 => ascii "W"
  | 9 => ascii "kW"
  | 10 => Config.degreeChar :: ascii "C"
  | 11 => ascii "K"
  | 12 => ascii "bar"
  | 13 => ascii "V"
  | 14 => ascii "%"
  | _ => ascii "h"

/-- The character of a digit, in decimal or hexadecimal. -/
def digitChar (d : Nat) : Byte := BitVec.ofNat 8 (if d < 10 then 0x30 + d else 0x37 + d)

/-- A value as the data message writes it: its digits with the point before the last DEC of them (R583). -/
def State.valueText (s : State) (n : Nat) (x : ItemValue) : List Byte :=
  match s.format n x with
  | none => []
  | some f =>
    let dec := if isTime x then 0 else s.get (LOC_ITEM_A.DEC n)
    if f.dashes then List.replicate (if f.past then s.get (LOC_ITEM_A.DIGITS n) else f.digits.length) 0x2D
    else
      let cs := f.digits.map digitChar
      let whole := cs.length - dec
      (if f.neg then [0x2D] else []) ++ cs.take whole ++ (if dec = 0 then [] else 0x2E :: cs.drop whole)

/-- The data line of item `n`: ID(value*unit); a time has no unit (R580, R583). -/
def State.dataLine (s : State) (n : Nat) : List Byte :=
  let x := (s.loc.values[n]?).getD .dashes
  let unit := if isTime x then [] else unitText (s.get (LOC_ITEM_A.UNIT n))
  trimNul (s.itemId n) ++ [0x28] ++ s.valueText n x ++ (if unit.isEmpty then [] else 0x2A :: unit) ++ [0x29] ++ CRLF

/-- The block check character: the exclusive or of what follows the first character, up to and with ETX. -/
def bcc (bs : List Byte) : Byte := bs.foldl (fun x b => x ^^^ b) 0

/-- The data message over list 3 (R583). -/
def State.dataMessage (s : State) : List Byte :=
  let body := ((s.listItems 3).filter (fun n => decide (n < 128))).flatMap s.dataLine ++ [0x21] ++ CRLF ++ [0x03]
  0x02 :: body ++ [bcc body]

/-- The data message is sent: the items of one publication, counted, with VALUE_OVF where one does not fit (R579, R583). -/
def State.sendReadout (s : State) : State :=
  let s := s.optSend .sending s.dataMessage
  let past := (s.listItems 3).any (fun n => match s.loc.values[n]? with
    | some x => (match s.format n x with
      | some f => f.past
      | none => false)
    | none => false)
  ((s.raiseIf past Ev.VALUE_OVF).bump LOC_OSTAT.READOUTS).raise Ev.OPT_READOUT

/-- OPT_ACK_TIMEOUT: no acknowledgement within 1,500 ms; the data message goes out at 300 baud (R582). -/
def execOptAckTimeout (s : State) : Out :=
  if s.optListens && s.loc.opt.stage == .ackWait && decide (s.loc.opt.tick + optLimit ≤ s.time.aoTick) then
    go (s.put LOC_OSTAT.BAUD 0).sendReadout
  else go s

/-- OPT_READOUT: 200 ms after the acknowledgement in mode C, directly after the identification in mode A. -/
def execOptReadout (s : State) : Out :=
  if s.optListens && s.loc.opt.stage == .readoutDue && (s.optDue || !s.on LOC_OPT.MODE) then go s.sendReadout else go s

/-- OPT_SILENCE: 1,500 ms without a character while one is awaited (R584). -/
def execOptSilence (s : State) : Out :=
  let waits := match s.loc.opt.stage with
    | .w6 => true
    | _ => false
  if s.apcRuns && waits && decide (s.loc.opt.tick + optLimit ≤ s.time.aoTick) then go s.optError else go s

/-- The value of a hexadecimal character. -/
def hexDigit (c : Byte) : Option Nat :=
  let n := c.toNat
  if 0x30 ≤ n ∧ n ≤ 0x39 then some (n - 0x30)
  else if 0x41 ≤ n ∧ n ≤ 0x46 then some (n - 0x37)
  else if 0x61 ≤ n ∧ n ≤ 0x66 then some (n - 0x57)
  else none

/-- The bytes that hexadecimal characters spell, two for each. -/
def hexBytes : List Byte → Option (List Byte)
  | [] => some []
  | [_] => none
  | a :: b :: rest =>
    match hexDigit a, hexDigit b, hexBytes rest with
    | some x, some y, some bs => some (BitVec.ofNat 8 (16 * x + y) :: bs)
    | _, _, _ => none

/-- What stands between the parentheses of SOH "W6" STX "(" … ")" ETX, if the message has that form (R586). -/
def w6Body (msg : List Byte) : Option (List Byte) :=
  match msg with
  | 0x01 :: 0x57 :: 0x36 :: 0x02 :: 0x28 :: rest =>
    if 2 ≤ rest.length ∧ rest.drop (rest.length - 2) = [0x29, 0x03] then some (rest.take (rest.length - 2)) else none
  | _ => none

/-- OPT_VS_REQ: a message through the optical head with its last character the BCC; `bad` says that a character had a parity
error. A credential is written and OPEN requested once BUSY is 0; an empty message writes CLOSE; a malformed one is answered
NAK (R586). -/
def execOptVsReq (msg : List Byte) (bad : Bool) (s : State) : Out :=
  if s.optListens && s.loc.opt.stage == .w6 then
    let m := msg.take (msg.length - 1)
    if bad || msg.getLastD 0 != bcc (m.drop 1) then go s.optError
    else
      match w6Body m with
      | some [] => go (s.closeCommand.optStage (.w6Answer ACK))
      | some hex => match hexBytes hex with
        | some cred => if cred.length = 16 then go (s.optStage (.w6Busy cred)).optOpen else go (s.optStage (.w6Answer NAK))
        | none => go (s.optStage (.w6Answer NAK))
      | none => go (s.optStage (.w6Answer NAK))
  else go s

/-- OPT_START_BIT_WAKE: the start bit of a character on OPT_RX wakes the chip (R585). -/
def execOptStartBitWake (s : State) : Out := if s.on SYS_PINCFG.OPTDIS then go s else go (s.wake Wake.opt)

/-- OPT_MESSAGE_END: the last character of the data message is sent (R584). -/
def execOptMessageEnd (s : State) : Out := if s.loc.opt.stage = .sending && !s.umb.frozen then go s.optEnd else go s

/-! ### Buttons and the display (R590, R591) -/

/-- One item on through the current list, or back, wrapping; the error item stands ahead of entry 0 of list 0 (R589). -/
def State.moveItem (s : State) (back : Bool) : State :=
  let l := s.get LOC_DSTAT.LIST
  let n := (s.listItems l).length
  let k := s.get LOC_DSTAT.ITEM
  let err := l == 0 && s.on SEA_STAT.ALARM
  let on := s.loc.onErr && err
  let (k2, e2) :=
    if back then
      if on then (n - 1, n == 0) else if k = 0 then (if err then (0, true) else (n - 1, false)) else (k - 1, false)
    else
      if on then (0, n == 0) else if k + 1 < n then (k + 1, false) else (0, err)
  State.updateDisplay (State.put { s with loc := { s.loc with onErr := e2 } } LOC_DSTAT.ITEM k2)

def State.buttonDown (s : State) (n : Nat) : Bool := (Sparse.find s.loc.down n).isSome

/-- BUTTON_PRESS: the button's event, a wake, and its action on the display; the press that turns the display on does that alone
(Table LOC-4). A press before APC runs is of a button that is low at the start, and is ignored until it is released. -/
def execButtonPress (n : Fin 4) (s : State) : Out :=
  let k := n.val
  if s.umb.frozen || (s.get SYS_PINCFG.BTNDIS).testBit k || s.buttonDown k || s.loc.ignored.testBit k then go s
  else
    let s := s.wake Wake.btn
    if !(s.mode == .run || s.mode == .doze) || !s.boot.steps.testBit 5 then
      go { s with loc := { s.loc with ignored := s.loc.ignored ||| 2 ^ k } }
    else
      let s := { s with loc := { s.loc with down := Sparse.insert s.loc.down k s.time.aoTick, lastPress := some s.time.aoTick } }
      let s := (s.put LOC_BTN.LEVEL (s.get LOC_BTN.LEVEL ||| 2 ^ k)).raise (Ev.BTN0 + k)
      if !s.apcRuns || !s.on SYS_STRAP.LCDEN then go s
      else if !s.on LOC_DSTAT.ON then go s.displayOn
      else if k = 0 then go (s.moveItem false)
      else if k = 1 then go (s.moveItem true)
      else go s.updateDisplay

/-- BTN_LONG: a press has been held for 2 s. -/
def execBtnLong (n : Fin 4) (s : State) : Out :=
  let k := n.val
  match Sparse.find s.loc.down k with
  | none => go s
  | some t =>
    if s.umb.frozen || s.loc.long.testBit k || decide (s.time.aoTick < t + 2048) then go s
    else
      let s := State.raise { s with loc := { s.loc with long := s.loc.long ||| 2 ^ k } } Ev.BTN_LONG
      if !s.apcRuns || !s.on LOC_DSTAT.ON then go s
      else match k with
        | 0 => go (s.showList ((s.get LOC_DSTAT.LIST + 1) % 3))
        | 1 => go (s.showList 0)
        | 2 => go { s with loc := { s.loc with test := some s.time.aoTick } }
        | _ => go s

/-- BUTTON_RELEASE. -/
def execButtonRelease (n : Fin 4) (s : State) : Out :=
  let k := n.val
  let off (m : Nat) : Nat := m &&& (15 - 2 ^ k)
  if s.umb.frozen then go s
  else
    let s := { s with loc := { s.loc with down := Sparse.erase s.loc.down k, long := off s.loc.long, ignored := off s.loc.ignored } }
    go (s.put LOC_BTN.LEVEL (off (s.get LOC_BTN.LEVEL)))

/-- DISPLAY_TEST_END: 2 s after the display test began. -/
def execDisplayTestEnd (s : State) : Out :=
  match s.loc.test with
  | some t => if s.apcRuns && decide (t + 2048 ≤ s.time.aoTick) then go { s with loc := { s.loc with test := none } } else go s
  | none => go s

/-- No button has been pressed for `secs` seconds. -/
def State.noPressFor (s : State) (secs : Nat) : Bool := match s.loc.lastPress with
  | some t => decide (t + secs * 1024 ≤ s.time.aoTick)
  | none => true

/-- TIMEOUT seconds have passed since the latest press, and the display has not yet returned to list 0 (R591). -/
def State.returnDue (s : State) : Bool := match s.loc.lastPress with
  | some t => let due := t + s.get LOC_LCD.TIMEOUT * 1024
    decide (due ≤ s.time.aoTick) && decide (s.loc.lastScroll < due)
  | none => false

/-- DISPLAY_SCROLL: the display advances through list 0 (R590). -/
def execDisplayScroll (s : State) : Out :=
  let every := s.get LOC_LCD.SCROLL
  if s.apcRuns && s.on LOC_DSTAT.ON && s.get LOC_DSTAT.LIST == 0 && every != 0 && s.noPressFor (s.get LOC_LCD.TIMEOUT) && !s.returnDue
      && decide (s.loc.lastScroll + every * 1024 ≤ s.time.aoTick) then
    go { s.moveItem false with loc := { (s.moveItem false).loc with lastScroll := s.time.aoTick } }
  else go s

/-- DISPLAY_OFF: in MODE 1, ONTIME seconds after the latest press. -/
def execDisplayOff (s : State) : Out :=
  if s.apcRuns && s.on LOC_DSTAT.ON && s.on LOC_LCD.MODE && s.noPressFor (s.get LOC_LCD.ONTIME) then go s.displayOff else go s

/-- DISPLAY_TIMEOUT: TIMEOUT seconds without a press return the display to list 0, item 0 (R591). -/
def execDisplayTimeout (s : State) : Out :=
  if s.apcRuns && s.on LOC_DSTAT.ON && s.returnDue then go (s.showList 0) else go s

/-! ### What the segments show (R587, R588) -/

/-- Segments a to g, bit s for segment s, of a character that has a seven-segment form. -/
def segmentsOf (c : Nat) : Nat :=
  let table : List (Nat × Nat) :=
    [(0x2D, 0x40), (0x30, 0x3F), (0x31, 0x06), (0x32, 0x5B), (0x33, 0x4F), (0x34, 0x66), (0x35, 0x6D), (0x36, 0x7D),
     (0x37, 0x07), (0x38, 0x7F), (0x39, 0x6F), (0x41, 0x77), (0x43, 0x39), (0x45, 0x79), (0x46, 0x71), (0x48, 0x76),
     (0x4C, 0x38), (0x50, 0x73), (0x55, 0x3E), (0x62, 0x7C), (0x64, 0x5E), (0x6E, 0x54), (0x6F, 0x5C), (0x72, 0x50), (0x74, 0x78)]
  (Sparse.find table c).getD 0

/-- The character that shows a hexadecimal digit. -/
def digitShape (d : Nat) : Nat := [0x30, 0x31, 0x32, 0x33, 0x34, 0x35, 0x36, 0x37, 0x38, 0x39, 0x41, 0x62, 0x43, 0x64, 0x45, 0x46].getD d 0x20

/-- The characters of a value in positions 0 to 11, right-aligned, leading zeros blanked, and the positions whose point is
lit. -/
def State.valueCells (s : State) (n : Nat) (x : ItemValue) : List Nat × List Nat :=
  let pad (cs : List Nat) : List Nat := List.replicate (12 - cs.length) 0x20 ++ cs.drop (cs.length - 12)
  match s.format n x with
  | none => (List.replicate 12 0x20, [])
  | some f =>
    if f.dashes then (pad (List.replicate (if f.past then s.get (LOC_ITEM_A.DIGITS n) else f.digits.length) 0x2D), [])
    else if isTime x then
      let len := f.digits.length
      (pad (f.digits.map digitShape), (List.range (len / 2 - 1)).map (fun k => 12 - len + 2 * k + 1))
    else
      let dec := s.get (LOC_ITEM_A.DEC n)
      let keep := f.digits.drop (min (f.digits.length - (dec + 1)) (f.digits.takeWhile (· == 0)).length)
      (pad ((if f.neg then [0x2D] else []) ++ keep.map digitShape), if dec = 0 then [] else [11 - dec])

/-- Symbols 0 to 15 of Table LOC-3; `mp` is the item's metering point. -/
def State.fixedSymbol (s : State) (mp k : Nat) : Bool :=
  let points := List.range (mpCount s.pod)
  match k with
  | 0 => s.on SEA_STAT.ALARM
  | 1 => s.on PWR_STAT.BATLOW
  | 2 => points.any (fun i => s.on (MED_MP1.H2HIGH i))
  | 3 => points.any (fun i => (s.point i).reverse)
  | 4 => s.on SEA_STAT.SESSION
  | 5 => s.on SEA_STAT.VSW
  | 6 => points.any (fun i => s.on (FLO_CFG.EN i) && s.on (MED_MP1.UNKNOWN i))
  | 7 => s.loc.opt.stage != .idle
  | _ => decide (8 ≤ k ∧ k < 16) && s.get (BIL_MP_NOW.TARIFF mp) == k - 8

/-- The logical segments that are on (R587, R588): none before the first publication, all of them in a display test. Where METER_READY is never
reached no publication comes, and the display shows the legal alarm (R167). -/
def State.segments (s : State) : List Nat :=
  let pos (d c : Nat) : List Nat := ((List.range 7).filter (fun k => (segmentsOf c).testBit k)).map (fun k => 8 * d + k)
  if !s.on LOC_DSTAT.ON then []
  else if s.loc.test.isSome then List.range 192
  else
    let item := s.shownItem
    let mp := match item with
      | some (some n) => s.get (LOC_ITEM_A.MP n)
      | _ => 0
    let symbols := ((List.range 16).filter (s.fixedSymbol mp)).map (128 + ·)
      ++ ((List.range 32).filter (fun k => (s.get LOC_SYM.S).testBit k)).map (160 + ·)
    if s.loc.values.isEmpty && !s.on SYS_BOOT.ROMFAIL then []
    else match item with
      | none => symbols
      | some none =>
        let code := if s.loc.values.isEmpty then s.get SEA_STAT.ACAUSE else s.loc.errValue
        let cs := digitsIn 10 (max 1 (digitCount 10 10 code)) code
        (List.range cs.length).flatMap (fun k => pos (12 - cs.length + k) (digitShape (cs.getD k 0)))
          ++ pos 12 0x45 ++ pos 13 0x72 ++ pos 14 0x72 ++ symbols
      | some (some n) =>
        let (cells, points) := s.valueCells n ((s.loc.values[n]?).getD .dashes)
        let unit := s.get (LOC_ITEM_A.UNIT n)
        (List.range 12).flatMap (fun d => pos d (cells.getD d 0x20)) ++ points.map (fun d => 8 * d + 7)
          ++ (List.range 4).flatMap (fun k => pos (12 + k) ((s.itemId n).getD k 0).toNat)
          ++ (if unit = 0 then [] else [128 + 16 + unit]) ++ symbols

/-- The COM and SEG of a logical segment, if LOC_SEGk maps it. -/
def State.segmentPins (s : State) (k : Nat) : Option (Nat × Nat) :=
  let m := s.get (if k % 2 = 0 then LOC_SEG.MAP0 (k / 2) else LOC_SEG.MAP1 (k / 2))
  if m / 8 = 127 then none else some (m % 8, m / 8)

/-- The COM and SEG pairs that the display drives: none outside Run and Doze and in a freeze (Table BAL-5). -/
def State.displayPins (s : State) : List (Nat × Nat) :=
  if (s.mode == .run || s.mode == .doze) && !s.umb.frozen then s.segments.filterMap s.segmentPins else []

/-! ### Pulses (R592 to R594) -/

/-- PULSE_END: a pulse, or the open time after it, of WIDTH ms ends. -/
def execPulseEnd (n : Fin 4) (s : State) : Out :=
  let p := s.pulseOut n.val
  let done := decide (p.since * 1000 + s.get (LOC_PO_CFG.WIDTH n.val) * 32768 ≤ (s.time.cyc + 1) * 1000)
  if s.apcRuns && done then
    match p.stage with
    | .closed => go (s.setPulseOut n.val { p with stage := .gap, since := s.time.cyc })
    | .gap => go ((s.setPulseOut n.val { p with stage := .idle, since := 0 }).startPulse n.val)
    | _ => go s
  else go s

/-- PULSE_INPUT_EDGE: a filtered edge on PIn, which counts where EDGE selects it, in Run and Doze (R594). -/
def execPulseInputEdge (n : Fin 4) (rising : Bool) (s : State) : Out :=
  let k := n.val
  let live := (s.mode == .run || s.mode == .doze) && !s.umb.frozen && s.on PWR_STAT.VIOLOK
  if live && !(s.get SYS_PINCFG.PIDIS).testBit k then
    let level := (s.pins.inputs &&& (15 - 2 ^ k)) + (if rising then 2 ^ k else 0)
    let s := { s with pins := { s.pins with inputs := level } }
    if s.on (LOC_PI_CFG.EDGE k) == rising then go (s.wr (LOC_PI_CNT.addr k) (s.rd (LOC_PI_CNT.addr k) + 1)) else go s
  else go s

end Sys2Proof.Machine
end

