-- ==== Sys2Proof/Machine/Pls.lean ====
section
/-! DEFINITION. The commands of power-line signalling (chapter 15): loading and sending trains, receiving frames,
acknowledgements, routing. -/

namespace Sys2Proof.Machine

/-! ### Loading (R443, R449, R456, R498) -/

/-- A message becomes an own frame at NWC: too long, or without a valid route in mesh mode, it is dropped, counted, and goes back to
its service; without protection where REQUIRE asks for it, it goes back (R455, R456, R496). -/
def State.plsAccept (s : State) (o : Outgoing) : State :=
  match s.routeFor o.dst with
  | none => (s.bump PLS_CNT2.TTLDROP).serviceBack o.service
  | some (routing, route, next) =>
    let plain := s.plsPlain 0 routing o.slot.isSome o.ackreq o.dst next route o.payload
    let len := plain.length + 2 + (if o.slot.isSome then 8 else 0)
    if 192 < len ∨ len < 25 then (s.bump PLS_CNT2.TTLDROP).serviceBack o.service
    else if (s.get SEC_CFG.REQUIRE).testBit 0 && o.slot.isNone then s.serviceBack o.service
    else
      let f : OutFrame := ⟨[], plain, o.slot, next, o.ackreq, false, 0, false, o.service⟩
      let s := s.nextSeq
      let s := if s.on PLS_CFG.ROLE && routing == 1 then
        match s.candFind o.dst with
        | some d => { s with pls := { s.pls with awaited := match s.bestCand d with
            | some r => Sparse.insert s.pls.awaited o.dst r
            | none => s.pls.awaited } }
        | none => s
        else s
      { s with pls := { s.pls with own := s.pls.own ++ [f] } }

/-- Every page of SR07 is recalled, so that routed frames may be sent (R455). -/
def State.routesReady (s : State) : Bool := (regionPageList 7).all (fun p => !s.boot.unrecalled.contains p)

/-- A message that goes in one hop whatever the tables of SR07 hold: it may be sent before they are recalled (R455). -/
def State.oneHop (s : State) (o : Outgoing) : Bool :=
  o.dst == broadcast || (!s.on PLS_CFG.NETMODE && !s.on PLS_CFG.ROLE && match s.routeFor o.dst with
    | some (routing, _, _) => routing == 0
    | none => false)

/-- The messages for power-line signalling that services have handed to NWC and that may be sent. -/
def State.takeLoads (s : State) : List Outgoing × State :=
  let mine (o : Outgoing) : Bool := o.transport == 0 && (s.routesReady || s.oneHop o)
  (s.con.toLoad.filter mine, { s with con := { s.con with toLoad := s.con.toLoad.filter (fun o => !mine o) } })

/-- The frames that the next train takes: own frames before relays, those of one link receiver, at most 8 (R440, R443,
R444). -/
def State.trainChoice (s : State) : List OutFrame :=
  let may (f : OutFrame) : Bool := s.routesReady || (plsHeader f.plain).routing == 0
  let own := s.pls.own.filter may
  let q := if own.isEmpty then s.pls.relays.filter may else own
  match q with
  | [] => []
  | f :: _ => (q.filter (fun g => g.next == f.next)).take 8

/-- The counter that a protected frame carries. -/
def frameCtr (f : OutFrame) : Nat := leAt f.bytes ((plsHeader f.bytes).body + 1) 4

/-- The channel takes a counter for each frame that enters the transmitter for the first time: the frames that go, with their
counters, and those that wait for RESV_STORED; a refused one goes back to its service (R498 to R500). -/
def State.takeCounters (s : State) (fs : List OutFrame) : List (OutFrame × Nat) × List OutFrame × State :=
  fs.foldl (fun (x : List (OutFrame × Nat) × List OutFrame × State) f =>
    let (now, wait, s) := x
    match f.slot with
    | none => (now ++ [(f, 0)], wait, s)
    | some n =>
      if f.relay then (now ++ [(f, 0)], wait, s)
      else if !f.bytes.isEmpty then (now ++ [(f, frameCtr f)], wait, s)
      else match s.takeCounter n 0 with
        | (.taken c, t) => (now ++ [(f, c)], wait, t)
        | (.wait, t) => (now, wait ++ [f], t)
        | (.refused, t) => (now, wait, t.serviceBack f.service)) ([], [], s)

/-- A frame as it goes into a train: MORE says whether another follows. A relay goes as it stands. -/
def State.plsForm (s : State) (f : OutFrame) (ctr : Nat) (more : Bool) : OutFrame :=
  if f.relay then f
  else
    let fc := byteAt f.plain 0
    let p := plsHcs (putBytes f.plain 0 [BitVec.ofNat 8 (fc - (if fc.testBit 3 then 8 else 0) + 8 * more.toNat)])
    let body := match f.slot with
      | none => p
      | some n => s.protect (plsShape p) n ctr p
    { f with plain := p, bytes := withCrc body }

/-- PLS_TRAIN_LOAD: NWC takes its messages and loads a train into the transmitter while it holds the PTX lease, and releases
the lease (R443). -/
def execPlsTrainLoad (own : List NetMessage) (s : State) : Out :=
  if !s.plsEnabled || !s.coreUp 2 then go s
  else
    let mine := own.map (fun m => (⟨0, m.dst.toNat, m.payload, m.slot.map Fin.val, m.ackreq && m.dst.toNat != broadcast,
      false, false, false, .plain⟩ : Outgoing))
    let s := { s with con := { s.con with toLoad := s.con.toLoad ++ mine } }
    if (s.lease 3).holder ≠ some 2 then go (s.refuse 2 4 13)
    else
      let (loads, s) := s.takeLoads
      let s := loads.foldl State.plsAccept s
      if s.pls.train.isSome then go (s.giveUpLease 2 3).showPls
      else
        let fs := s.trainChoice
        let ownGoes := fs.any (fun f => s.pls.own.contains f)
        let rest (q : List OutFrame) : List OutFrame := q.filter (fun f => !fs.contains f)
        let s := { s with pls := { s.pls with own := rest s.pls.own, relays := if ownGoes then s.pls.relays else rest s.pls.relays } }
        let (now, wait, s) := s.takeCounters fs
        let late := (s.pls.relays.filter (fun f => !f.delayed)).length
        let s := if ownGoes && !now.isEmpty then
          State.bumpBy { s with pls := { s.pls with relays := s.pls.relays.map (fun f => { f with delayed := true }) } }
            PLS_CNT3.RELAYDELAY late else s
        let s := { s with pls := { s.pls with own := wait ++ s.pls.own } }
        let n := now.length
        let frames := ((List.range n).zip now).map (fun x => s.plsForm x.2.1 x.2.2 (decide (x.1 + 1 < n)))
        match frames with
        | [] => go (s.giveUpLease 2 3).showPls
        | f :: _ =>
          let t : Train := ⟨frames, f.next, s.repetition f.next, s.get PLS_PHY.SPAN, frames.flatMap (fun g => frameSymbols g.bytes),
            0, false, .backoff, 0, s.rd PLS_PHY.addr⟩
          go (State.giveUpLease { s with pls := { s.pls with train := some t, counted := 0 } } 2 3).showPls

/-! ### Sending (R439, R425 to R428, R446) -/

/-- The exponent of CW (R439). -/
def State.cwExp (s : State) : Nat := max (s.get PLS_MAC.CWMIN) (min s.pls.cw (s.get PLS_MAC.CWMAX))

/-- PLS_BACKOFF_END: 16 idle half-cycles have passed and the back-off of `r` slots drawn has been counted down; the train
starts. -/
def execPlsBackoffEnd (r : Nat) (s : State) : Out :=
  match s.pls.train with
  | some t =>
    if s.plsRunning ∧ t.stage = .backoff ∧ !s.mediumBusy ∧ s.plsLocked ∧ s.pls.ackDue.isNone ∧ r < 2 ^ s.cwExp ∧ 16 ≤ s.pls.idle
        ∧ 8 * r ≤ s.pls.counted then
      go (State.showPls { s with pls := { s.pls with train := some { t with stage := .sending, pos := 0 }, weak := [], gap := 0 } })
    else go s
  | none => go s

/-- The phases of a half-cycle: the timing phase, and with COUPLE the other ones whose trackers are locked (R427). -/
def State.plsPhases (s : State) : List Nat :=
  let p := s.get PLS_CFG.PHASE
  if s.on PLS_CFG.COUPLE then p :: [0, 1, 2].filter (fun q => q != p && s.on (CLK_ZC.LOCK q)) else [p]

def wave (ws : List PhaseWave) (p : Nat) : PhaseWave := ws.getD p ⟨[0, 0, 0, 0], 0, 0, 0⟩

/-- The transmitter's half-cycle: a pulse in the slot of the symbol due, or, while the timing phase is unlocked, none, with the
count going on (R425, R446). -/
def State.sendHalf (s : State) (t : Train) (ws : List PhaseWave) : State :=
  let t2 := { t with pos := t.pos + 1 }
  if !s.plsLocked then
    let s := { s with pls := { s.pls with train := some t2, gap := s.pls.gap + 1, pulse := none } }
    if s.on PLS_STAT.PAUSED then s else ((s.put PLS_STAT.PAUSED 1).bump PLS_CNT2.PAUSES).raise Ev.TX_PAUSE
  else
    let s := if s.on PLS_STAT.PAUSED then (s.put PLS_STAT.PAUSED 0).raise Ev.TX_RESUME else s
    let ps := s.plsPhases
    let sends := decide (t.pos < t.length)
    let weak := if sends then ps.foldl (fun m p =>
        Sparse.insert m p (if (wave ws p).peak < phyItxmin t.phy then (Sparse.find s.pls.weak p).getD 0 + 1 else 0)) s.pls.weak
      else s.pls.weak
    let pulse := if sends then some (t.slot t.pos, ps) else none
    { s with pls := { s.pls with train := some t2, gap := 0, weak, pulse } }

/-- The receiver's half-cycle: its summed energies, or an erasure (R427, R429, R445, R447). -/
def State.receiveHalf (s : State) (ws : List PhaseWave) : State :=
  let p := s.get PLS_CFG.PHASE
  let det := match s.pls.rx with
    | some r => phyDetmin r.phy
    | none => s.get PLS_PHY.DETMIN
  let es := s.plsPhases.foldl (fun acc q => addLists acc (wave ws q).slots) [0, 0, 0, 0]
  let w := wave ws p
  let erased := s.get (CLK_ZC.HOLD p) != 0 || !s.plsLocked || decide (det < w.early) || decide (det < w.late)
    || (decideSlot det es).isNone
  let energy := s.plsPhases.any (fun q => (wave ws q).slots.any (fun e => decide (det < e)))
  let quiet := if energy then 0 else s.pls.quiet + 1
  let half : Option (List Nat) := if erased then none else some es
  let rx := s.pls.rx.map (fun (r : TrainRx) => { r with line := half :: r.line, erased := if erased then r.erased + 1 else 0 })
  let hold := s.pls.holdBusy && decide (quiet < 16)
  let s := { s with pls := { s.pls with recent := (s.pls.recent * 2 + energy.toNat) % 256, quiet, rx, pulse := none, holdBusy := hold } }
  if s.mediumBusy then { s with pls := { s.pls with idle := 0 } }
  else if s.pls.idle < 16 then { s with pls := { s.pls with idle := s.pls.idle + 1 } }
  else { s with pls := { s.pls with counted := s.pls.counted + 1 } }

/-- PLS_HALF_CYCLE. -/
def execPlsHalfCycle (waves : List PhaseWave) (s : State) : Out :=
  if !s.plsRunning then go s
  else
    let locks := (List.range 3).foldl (fun m n => m + 2 ^ n * (s.on (CLK_ZC.LOCK n)).toNat) 0
    let s := s.put PLS_STAT.LOCK locks
    let s := { s with pls := { s.pls with ackDue := s.pls.ackDue.map (fun (a : AckDue) => { a with left := a.left - 1 }) } }
    match s.pls.train with
    | some t =>
      if t.stage = .sending then
        let held := s.pls.held.map (fun (t : Train) => { t with left := t.left - (t.stage == .ackWait).toNat })
        go (State.sendHalf { s with pls := { s.pls with held, idle := 0, recent := 0, quiet := 0 } } t waves)
      else
        let t2 : Train := { t with left := t.left - (t.stage == .ackWait).toNat }
        let s := { s with pls := { s.pls with train := some t2 } }
        go (s.receiveHalf waves)
    | none => go (s.receiveHalf waves)

/-- Half-cycles in which an acknowledgement may come: 8, a train of 26 bytes, and 16 (R441). -/
def ackWindow (r span : Nat) : Nat := 8 + trainLength r span (8 * 26 + 6) + 16

/-- TRAIN_END: the flush has been sent. After an acknowledgement train the own train that it held back goes on. -/
def execTrainEnd (s : State) : Out :=
  match s.pls.train with
  | some t =>
    if t.stage = .sending ∧ t.length ≤ t.pos then
      let s := (s.bump PLS_CNT0.TRAINS).raise Ev.TRAIN_SENT
      let wants := !t.ack && t.frames.any (fun f => f.ackreq) && t.next != broadcast
      let t2 := if t.ack then s.pls.held else if wants then some { t with stage := .ackWait, left := ackWindow t.r t.span } else none
      go (State.showPls { s with pls := { s.pls with train := t2, held := if t.ack then none else s.pls.held, pulse := none, gap := 0,
                                                     idle := 0, counted := if t.ack then s.pls.counted else 0 } })
    else go s
  | none => go s

/-- TX_FAULT: eight pulses in a row peak below ITXMIN on a phase (R428). -/
def execTxFault (phase : Fin 3) (s : State) : Out :=
  let sending := match s.pls.train with
    | some t => t.stage == .sending
    | none => false
  if decide (8 ≤ (Sparse.find s.pls.weak phase.val).getD 0) && sending then
    go (State.raise ({ s with pls := { s.pls with weak := [] } } : State).abandonTrain Ev.TX_FAULT)
  else go s

/-- TRAIN_ABANDONED: LOCK has not returned after GAPMAX half-cycles (R446). -/
def execTrainAbandoned (s : State) : Out :=
  if s.on PLS_STAT.PAUSED ∧ s.get PLS_MAC.GAPMAX ≤ s.pls.gap then go (s.abandonTrain.raise Ev.TRAIN_ABANDONED) else go s

/-! ### Receiving (R436 to R440, R447) -/

/-- PREAMBLE_DETECT: a receiver that does not send takes R from the start word (R438, R442). -/
def execPreambleDetect (code : Fin 3) (s : State) : Out :=
  let sending := match s.pls.train with
    | some t => t.stage == .sending
    | none => false
  if !s.plsRunning || sending || s.pls.rx.isSome then go s
  else
    let rx : TrainRx := ⟨repeatOf (code.val + 1), s.get PLS_PHY.SPAN, [], 0, 0, 0, false, 0, none, 0, s.rd PLS_PHY.addr⟩
    go (State.showPls { s with pls := { s.pls with idle := 0, rx := some rx } })

/-- The reception of a train ends; where a frame of it asked for an acknowledgement, that falls due 8 half-cycles later (R436, R440,
R447). DEDUCED (log 36). -/
def State.endReception (s : State) (r : TrainRx) : State :=
  let due : Option AckDue := if r.ackreq then some ⟨r.prev, r.r, r.good, 8⟩ else s.pls.ackDue
  State.showPls { s with pls := { s.pls with rx := none, ackDue := due } }

/-- GAP_ERASED: more than GAPMAX erased half-cycles in a row end the reception (R447). -/
def execGapErased (s : State) : Out :=
  match s.pls.rx with
  | some r =>
    if s.get PLS_MAC.GAPMAX < r.erased then go ((s.endReception r).raise Ev.GAP_ERASED)
    else go s
  | none => go s

/-- What a security check lets through: the payload, and the slot and counter where it was protected. -/
def State.plsSecure (s : State) (bytes : List Byte) : Option (List Byte × Option (Nat × Nat)) × State :=
  let h := plsHeader bytes
  let noCrc := bytes.take (bytes.length - 2)
  if h.type ≠ 0 ∧ !h.sec then (some (noCrc.drop h.body, none), s)
  else
    match s.checkFrame (plsShape bytes) h.sec (s.counterOf h.src) noCrc with
    | .pass p => (some (p, if h.sec then some (byteAt bytes h.body % 32, leAt bytes (h.body + 1) 4) else none), s)
    | .forgery => (none, s.countForgery)
    | .copy _ => (none, s.countReplay)
    | .replay => (none, s.countReplay)

/-- A frame to be relayed: TTL and hops, link addresses, the next link sequence, RIDX, a new CRC (R444, R450). -/
def State.plsForward (s : State) (bytes : List Byte) (next ridx : Nat) : State :=
  let h := plsHeader bytes
  if h.ttl ≤ 1 then (s.bump PLS_CNT2.TTLDROP).raise Ev.PLS_TTL_DROP
  else
    let bs := bytes.take (bytes.length - 2)
    let bs := putBytes bs 13 (leBytes 4 (s.get PLS_ADDR.ADDR) ++ leBytes 4 next)
    let bs := putBytes bs 21 [BitVec.ofNat 8 (h.ttl - 1 + 16 * min 15 (h.hops + 1)), BitVec.ofNat 8 s.pls.seq]
    let bs := if h.routing = 1 then putBytes bs 23 [BitVec.ofNat 8 (byteAt bs 23 % 16 + 16 * ridx)] else bs
    s.nextSeq.plsRelay ⟨withCrc bs, bs, none, next, h.ackreq && next != broadcast, true, 0, false, .plain⟩

/-- A frame that has passed every test is delivered or relayed (R437, R450, R455). -/
def State.plsRoute (s : State) (bytes payload : List Byte) (sec : Option (Nat × Nat)) : State :=
  let h := plsHeader bytes
  let own := s.get PLS_ADDR.ADDR
  let s := match sec with
    | some (n, c) => s.acceptCounter h.src n c
    | none => s
  let deliver (s : State) : State := s.deliver (h.dst == own) ⟨0, h.src, payload, sec.map Prod.fst, (sec.map Prod.snd).getD 0⟩
  let s := if h.routing = 1 && !h.up && h.dst == own then
    { s with pls := { s.pls with upRoute := some (h.src, ((List.range h.rcnt).map (plsRepeater bytes)).reverse) } } else s
  let s := if s.on PLS_CFG.ROLE && h.dst == own then
    match s.candFind h.src, Sparse.find s.pls.awaited h.src with
    | some d, some r => State.scoreGood { s with pls := { s.pls with awaited := Sparse.erase s.pls.awaited h.src } } d r
    | _, _ => s
    else s
  if h.dst = own ∨ h.dst = broadcast then deliver s
  else if h.routing = 1 then
    let i := h.ridx + 1
    s.plsForward bytes (if i < h.rcnt then plsRepeater bytes i else h.dst) (min i h.rcnt)
  else if h.routing = 2 then
    match s.meshHop h.dst with
    | some n => s.plsForward bytes n 0
    | none => s.bump PLS_CNT2.TTLDROP
  else s

/-- An acknowledgement of the train awaited: its frames with a 1 are done, the others return to NWC; R, d and CW
follow (R439 to R442, R453). -/
def State.plsAcked (s : State) (prev bits : Nat) : State :=
  match s.pls.train with
  | some t =>
    if t.stage = .ackWait ∧ t.next = prev then
      let n := t.frames.length
      let done := ((List.range n).zip t.frames).filter (fun x => bits.testBit x.1) |>.map Prod.snd
      let rest := ((List.range n).zip t.frames).filter (fun x => !bits.testBit x.1) |>.map Prod.snd
      let s := { s with pls := { s.pls with train := none, cw := s.get PLS_MAC.CWMIN } }
      let s := s.trainOutcome prev true
      let s := done.foldl (fun s f =>
        let dst := (plsHeader f.plain).dst
        let s := if s.on PLS_CFG.ROLE && dst == f.next then
          match s.candFind dst, Sparse.find s.pls.awaited dst with
          | some d, some r => State.scoreGood { s with pls := { s.pls with awaited := Sparse.erase s.pls.awaited dst } } d r
          | _, _ => s
          else s
        s.serviceDone f.service) s
      (s.plsBackAll (rest.filter (fun f => f.ackreq))).showPls
    else s
  | none => s

/-- A frame with a good CRC whose NET is this node's. -/
def State.plsTaken (s : State) (bytes : List Byte) (refused : Option Denial) (wrong total : Nat) : State :=
  let h := plsHeader bytes
  let own := s.get PLS_ADDR.ADDR
  let s := s.hearNeighbour h.prev
  if h.next ≠ own ∧ h.next ≠ broadcast then s
  else
    let s := (s.bump PLS_CNT1.FRAMES).raise Ev.FRAME_RX
    if Sparse.find s.pls.taken h.prev = some h.seq then s.updateF h.prev wrong total
    else
      let s := { s with pls := { s.pls with taken := Sparse.insert s.pls.taken h.prev h.seq } }
      if refused.isSome then ((s.denied 10 refused).bump PLS_CNT3.RXDROP).raise Ev.PLS_RX_DROP
      else if h.type = 1 then (s.updateF h.prev wrong total).plsAcked h.prev (byteAt bytes h.body)
      else match s.plsSecure bytes with
        | (none, s) => s
        | (some (payload, sec), s) =>
          let s := s.updateF h.prev wrong total
          if h.type = 0 then s.plsRoute bytes payload sec
          else if h.type = 2 ∧ s.on PLS_CFG.NETMODE then
            match s.nbrFind h.prev with
            | some n => (piecesOf 7 23 payload).foldl (fun s e => if e.length = 7 then s.takeRoute h.prev (s.get (PLS_NBR_B.LC n)) e else s) s
            | none => s
          else s

/-- PLS_FRAME_RECEIVED: the next frame of the train being received, as the decoder gives it; `refused` says that Twill refused
the write of a taken frame (R436, R437, R443). It happens once the frame's symbols have arrived, and the bytes are a most likely
content of them. -/
def execPlsFrameReceived (bytes : List (BitVec 8)) (refused : Option Denial) (s : State) : Out :=
  match s.pls.rx with
  | none => go s
  | some r =>
    let line := r.line.reverse
    let ready (n : Nat) : Bool := decide ((r.symbols + n) * r.r + 56 * r.span ≤ r.line.length)
    let obs (n : Nat) : List (Option Nat) :=
      (List.range n).map (fun i => decidedSymbol (phyDetmin r.phy) line r.r r.span (r.symbols + i))
    if bytes.length < 3 then go s
    else if crc8 (bytes.take 2) ≠ byteAt bytes 2 ∨ byteAt bytes 1 < 25 ∨ 192 < byteAt bytes 1 then
      if ready 24 then
        let s := (s.bump PLS_CNT2.HCSFAIL).raise Ev.HCS_FAIL
        go (State.endReception { s with pls := { s.pls with holdBusy := true, quiet := 0 } } r)
      else go s
    else
      let len := byteAt bytes 1
      let n := 8 * len + 6
      if bytes.length = len ∧ ready n ∧ decodes (obs n) bytes then
        let h := plsHeader bytes
        let good := crcGood bytes
        let mine := good && h.net == s.get PLS_CFG.NETID
        let forMe := mine && h.next == s.get PLS_ADDR.ADDR
        let coded := frameSymbols bytes
        let halves := (List.range (n * r.r)).map (fun i =>
          (line.getD (lineIndex r.span (r.symbols * r.r + i)) none, coded.getD (i / r.r) 0))
        let wrong := (halves.filter (fun x => match x.1 with
          | none => true
          | some es => decideSlot (phyDetmin r.phy) es != some x.2)).length
        let bits := r.good + (if good then 2 ^ r.index else 0)
        let r : TrainRx := { r with symbols := r.symbols + n, index := r.index + 1, good := bits, ackreq := r.ackreq || (forMe && h.ackreq), prev := if forMe then h.prev else r.prev }
        let s := { s with pls := { s.pls with rx := some r } }
        let s := if good then s else (s.bump PLS_CNT1.FECFAIL).raise Ev.FEC_FAIL
        let s := if mine then s.plsTaken bytes refused wrong (n * r.r) else s
        go (if h.more ∧ r.index < 8 then s.showPls else s.endReception r)
      else go s

/-! ### Acknowledgements (R440, R441) -/

/-- PLS_ACK_SEND: 8 half-cycles after the end of the train, without back-off and in the same R. -/
def execPlsAckSend (s : State) : Out :=
  match s.pls.ackDue with
  | some a =>
    let sending := match s.pls.train with
      | some t => t.stage == .sending
      | none => false
    if s.plsRunning ∧ a.left = 0 ∧ !sending ∧ s.plsLocked then
      let p := s.plsPlain 1 0 false false a.dest a.dest [] [BitVec.ofNat 8 a.bits]
      let f : OutFrame := ⟨withCrc p, p, none, a.dest, false, false, 0, false, .plain⟩
      let t : Train := ⟨[f], a.dest, a.r, s.get PLS_PHY.SPAN, frameSymbols f.bytes, 0, true, .sending, 0, s.rd PLS_PHY.addr⟩
      let s := s.nextSeq
      go (State.showPls { s with pls := { s.pls with train := some t, held := s.pls.train, ackDue := none, weak := [], gap := 0 } })
    else go s
  | none => go s

/-- PLS_ACK_TIMEOUT: no acknowledgement in time: CW doubles, d and R follow, and the frames return to NWC. -/
def execPlsAckTimeout (s : State) : Out :=
  match s.pls.train with
  | some t =>
    if t.stage = .ackWait ∧ t.left = 0 then
      let s := { s with pls := { s.pls with train := none, cw := min (s.get PLS_MAC.CWMAX) (s.cwExp + 1) } }
      let s := s.trainOutcome t.next false
      go (s.plsBackAll (t.frames.filter (fun f => f.ackreq))).showPls
    else go s
  | none => go s

/-! ### Mesh (R452, R454) -/

/-- An advertisement is due: none has been sent since the start, ADV minutes have passed since the latest one, or, a minute after it, a route's cost
has changed (R454). DESIGN CHOICE (log 36): the first one is due at once. -/
def State.advertDue (s : State) : Bool := match s.pls.advertAt with
  | none => true
  | some t => decide (t + s.get PLS_MAC.ADV * 61440 ≤ s.time.aoTick) || (s.pls.costMoved && decide (t + 61440 ≤ s.time.aoTick))

/-- ROUTE_ADVERTISEMENT: the node advertises itself and its routes, 23 entries a frame; broken routes cost 65,535. -/
def execRouteAdvertisement (s : State) : Out :=
  if s.plsEnabled && s.on PLS_CFG.NETMODE && s.routesReady && s.advertDue then
    let adv := (s.pls.advert + 2) % 256
    let s := { s with pls := { s.pls with advert := adv, advertAt := some s.time.aoTick, costMoved := false } }
    let entry (dest cost seq : Nat) : List Byte := leBytes 4 dest ++ leBytes 2 cost ++ [BitVec.ofNat 8 seq]
    let es := entry (s.get PLS_ADDR.ADDR) 0 adv :: ((List.range 128).filter (fun n => s.on (PLS_RT_C.VALID n))).map (fun n =>
      entry (s.get (PLS_RT_A.DEST n)) (if s.on (PLS_RT_C.BROKEN n) then 65535 else s.get (PLS_RT_C.COST n)) (s.get (PLS_RT_C.SEQ n)))
    go (State.showPls ((piecesOf (23 * 7) 6 es.flatten).foldl (fun s body =>
      let p := s.plsPlain 2 0 false false broadcast broadcast [] body
      let f : OutFrame := ⟨[], p, none, broadcast, false, false, 0, false, .plain⟩
      State.nextSeq { s with pls := { s.pls with own := s.pls.own ++ [f] } }) s))
  else go s

/-- NBR_LOST: a neighbour heard from in no frame for three advertisement periods is removed, and its routes are broken (R452). -/
def execNbrLost (n : Fin 32) (s : State) : Out :=
  let x := s.plsNbr n
  if s.plsEnabled && s.on PLS_CFG.NETMODE && s.get (PLS_NBR_A.ADDR n) != 0
      && decide (x.heard + 3 * s.get PLS_MAC.ADV * 61440 ≤ s.time.aoTick) then
    let addr := s.get (PLS_NBR_A.ADDR n)
    let s := (s.wrTable (PLS_NBR_A.addr n) (fun _ => 0)).wrTable (PLS_NBR_B.addr n) (fun _ => 0)
    go (((s.setPlsNbr n ⟨0, 0, 0, false⟩).breakRoutes addr).raise Ev.NBR_LOST)
  else go s

end Sys2Proof.Machine
end

