-- ==== Sys2Proof/Machine/Dispatch.lean ====
section
/-! DEFINITION. Which meaning each command has: one arm per constructor of Instr, in the opcode table's order. -/

namespace Sys2Proof.Machine

/-- The effect of a command on everything but the queue of waiting commands. -/
def exec (i : Instr) (s : State) : Host.Outcome State Fault Refusal :=
  match i with
  | .registerWrite loc waited v => Sys2Proof.Machine.execRegisterWrite loc waited v s
  | .rcReadComplete loc returned since => Sys2Proof.Machine.execRcReadComplete loc returned since s
  | .multiwordLowRead ini addr => Sys2Proof.Machine.execMultiwordLowRead ini addr s
  | .multiwordHighWrite ini addr v => Sys2Proof.Machine.execMultiwordHighWrite ini addr v s
  | .rtcEnd => Sys2Proof.Machine.execRtcEnd s
  | .twillRequest ini addr op => Sys2Proof.Machine.execTwillRequest ini addr op s
  | .accessAccepted t waited upset context => Sys2Proof.Machine.execAccessAccepted t waited upset context s
  | .hardBoundExpiry ini => Sys2Proof.Machine.execHardBoundExpiry ini s
  | .leaseAcquire ini k also => Sys2Proof.Machine.execLeaseAcquire ini k also s
  | .leaseRenew ini k also => Sys2Proof.Machine.execLeaseRenew ini k also s
  | .leaseRelease ini k also => Sys2Proof.Machine.execLeaseRelease ini k also s
  | .leaseRevoke k also => Sys2Proof.Machine.execLeaseRevoke k also s
  | .domainResetEnd ini => Sys2Proof.Machine.execDomainResetEnd ini s
  | .targetFlush k => Sys2Proof.Machine.execTargetFlush k s
  | .powerOnReset sup => Sys2Proof.Machine.execPowerOnReset sup s
  | .strapPresample samples => Sys2Proof.Machine.execStrapPresample samples s
  | .pinReset => Sys2Proof.Machine.execPinReset s
  | .softwareStart => Sys2Proof.Machine.execSoftwareStart s
  | .rstoreCut => Sys2Proof.Machine.execRstoreCut s
  | .internalResetRelease sup a b c => Sys2Proof.Machine.execInternalResetRelease sup a b c s
  | .oscillatorsUp lfxo => Sys2Proof.Machine.execOscillatorsUp lfxo s
  | .hostReady high => Sys2Proof.Machine.execHostReady high s
  | .meterReady romGood => Sys2Proof.Machine.execMeterReady romGood s
  | .apcRunning => Sys2Proof.Machine.execApcRunning s
  | .nwcRunning => Sys2Proof.Machine.execNwcRunning s
  | .settledPageRecall refused => Sys2Proof.Machine.execSettledPageRecall refused s
  | .recallSettled => Sys2Proof.Machine.execRecallSettled s
  | .frzNFall high => Sys2Proof.Machine.execFrzNFall high s
  | .freezeAccept programming receiving loopIn cut stood => Sys2Proof.Machine.execFreezeAccept programming receiving loopIn cut stood s
  | .imageReady => Sys2Proof.Machine.execImageReady s
  | .umbraPortEnable falls => Sys2Proof.Machine.execUmbraPortEnable falls s
  | .umbraAdvance fell rises => Sys2Proof.Machine.execUmbraAdvance fell rises s
  | .umbraRewind rises => Sys2Proof.Machine.execUmbraRewind rises s
  | .frzNRise => Sys2Proof.Machine.execFrzNRise s
  | .resumeAccept high => Sys2Proof.Machine.execResumeAccept high s
  | .spanEnd high => Sys2Proof.Machine.execSpanEnd high s
  | .bypassSwitch => Sys2Proof.Machine.execBypassSwitch s
  | .bypassSettled => Sys2Proof.Machine.execBypassSettled s
  | .bypassFault => Sys2Proof.Machine.execBypassFault s
  | .bypassRetry => Sys2Proof.Machine.execBypassRetry s
  | .violLoss => Sys2Proof.Machine.execViolLoss s
  | .viohLoss => Sys2Proof.Machine.execViohLoss s
  | .viohBack high => Sys2Proof.Machine.execViohBack high s
  | .pfTrigger t vmain => Sys2Proof.Machine.execPfTrigger t vmain s
  | .pfRide hold vmain => Sys2Proof.Machine.execPfRide hold vmain s
  | .pfDeclared => Sys2Proof.Machine.execPfDeclared s
  | .holdFloor => Sys2Proof.Machine.execHoldFloor s
  | .pfStoreEnd => Sys2Proof.Machine.execPfStoreEnd s
  | .mainsBack => Sys2Proof.Machine.execMainsBack s
  | .holdokReached => Sys2Proof.Machine.execHoldokReached s
  | .holdFault => Sys2Proof.Machine.execHoldFault s
  | .vbatNewCell => Sys2Proof.Machine.execVbatNewCell s
  | .batend => Sys2Proof.Machine.execBatend s
  | .vbatSample mv => Sys2Proof.Machine.execVbatSample mv s
  | .vdrvFault => Sys2Proof.Machine.execVdrvFault s
  | .dozeRequest => Sys2Proof.Machine.execDozeRequest s
  | .listenRequest => Sys2Proof.Machine.execListenRequest s
  | .vaultRequest => Sys2Proof.Machine.execVaultRequest s
  | .modeStoreDone => Sys2Proof.Machine.execModeStoreDone s
  | .autoDoze other => Sys2Proof.Machine.execAutoDoze other s
  | .scheduledWake other => Sys2Proof.Machine.execScheduledWake other s
  | .rtcAlarm => Sys2Proof.Machine.execRtcAlarm s
  | .hostWake => Sys2Proof.Machine.execHostWake s
  | .warmStart source => Sys2Proof.Machine.execWarmStart source s
  | .lfxoFail => Sys2Proof.Machine.execLfxoFail s
  | .lfxoBack => Sys2Proof.Machine.execLfxoBack s
  | .hfxoFail => Sys2Proof.Machine.execHfxoFail s
  | .spllUnlock => Sys2Proof.Machine.execSpllUnlock s
  | .hfxoRestartTry count => Sys2Proof.Machine.execHfxoRestartTry count s
  | .hfxoBack => Sys2Proof.Machine.execHfxoBack s
  | .hfxoStartTimeout lfxo => Sys2Proof.Machine.execHfxoStartTimeout lfxo s
  | .epllUnlock k => Sys2Proof.Machine.execEpllUnlock k s
  | .epllRelock k => Sys2Proof.Machine.execEpllRelock k s
  | .lpoRange => Sys2Proof.Machine.execLpoRange s
  | .lpoBack => Sys2Proof.Machine.execLpoBack s
  | .lpoCalibrate freq => Sys2Proof.Machine.execLpoCalibrate freq s
  | .xoMismatchCount count => Sys2Proof.Machine.execXoMismatchCount count s
  | .zeroCrossing phase t => Sys2Proof.Machine.execZeroCrossing phase t s
  | .zcMissed phase => Sys2Proof.Machine.execZcMissed phase s
  | .hKeyArm v => Sys2Proof.Machine.execHKeyArm v s
  | .keyTimeout => Sys2Proof.Machine.execKeyTimeout s
  | .winrst => Sys2Proof.Machine.execWinrst s
  | .mboxrst => Sys2Proof.Machine.execMboxrst s
  | .windowSelectWrite n address v => Sys2Proof.Machine.execWindowSelectWrite n address v s
  | .prefetchDone n waited upset => Sys2Proof.Machine.execPrefetchDone n waited upset s
  | .windowDloRead n waited upset since whole posted => Sys2Proof.Machine.execWindowDloRead n waited upset since whole posted s
  | .windowDloWrite n v => Sys2Proof.Machine.execWindowDloWrite n v s
  | .windowDhiWrite n waited v => Sys2Proof.Machine.execWindowDhiWrite n waited v s
  | .hostBoundExpiry off write presented => Sys2Proof.Machine.execHostBoundExpiry off write presented s
  | .serialFrame bits edges waited occupied since high posted driven level => Sys2Proof.Machine.execSerialFrame bits edges waited occupied since high posted driven level s
  | .serShort high driven level => Sys2Proof.Machine.execSerShort high driven level s
  | .hTimeLoRead => Sys2Proof.Machine.execHTimeLoRead s
  | .hEvtLoRead => Sys2Proof.Machine.execHEvtLoRead s
  | .clockSetRequest waited => Sys2Proof.Machine.execClockSetRequest waited s
  | .clockSetLoad => Sys2Proof.Machine.execClockSetLoad s
  | .wdgKick => Sys2Proof.Machine.execWdgKick s
  | .wdgSetPeriod period => Sys2Proof.Machine.execWdgSetPeriod period s
  | .hostWdg => Sys2Proof.Machine.execHostWdg s
  | .mboxTxWrite v => Sys2Proof.Machine.execMboxTxWrite v s
  | .mboxMessage => Sys2Proof.Machine.execMboxMessage s
  | .mboxRxRead => Sys2Proof.Machine.execMboxRxRead s
  | .mboxDeliver => Sys2Proof.Machine.execMboxDeliver s
  | .stgErrRead => Sys2Proof.Machine.execStgErrRead s
  | .stagingWrite ini dated addr v => Sys2Proof.Machine.execStagingWrite ini dated addr v s
  | .stgCheck dated => Sys2Proof.Machine.execStgCheck dated s
  | .stgCheckDone => Sys2Proof.Machine.execStgCheckDone s
  | .stgApply dated => Sys2Proof.Machine.execStgApply dated s
  | .stgApplyCheckDone => Sys2Proof.Machine.execStgApplyCheckDone s
  | .stgDiscard dated => Sys2Proof.Machine.execStgDiscard dated s
  | .commitPoint => Sys2Proof.Machine.execCommitPoint s
  | .setTakesEffect refused => Sys2Proof.Machine.execSetTakesEffect refused s
  | .epochBoundary => Sys2Proof.Machine.execEpochBoundary s
  | .shotPreparation n rings cals => Sys2Proof.Machine.execShotPreparation n rings cals s
  | .forwardFire n vdrv => Sys2Proof.Machine.execForwardFire n vdrv s
  | .driveFault port => Sys2Proof.Machine.execDriveFault port s
  | .captureClose p cap => Sys2Proof.Machine.execCaptureClose p cap s
  | .reverseFire n vdrv rings cals => Sys2Proof.Machine.execReverseFire n vdrv rings cals s
  | .unitRelease n => Sys2Proof.Machine.execUnitRelease n s
  | .shotProcessed e refused => Sys2Proof.Machine.execShotProcessed e refused s
  | .flowCutoff nge refused => Sys2Proof.Machine.execFlowCutoff nge refused s
  | .tempConversion c conv => Sys2Proof.Machine.execTempConversion c conv s
  | .bridgeConversion k conv => Sys2Proof.Machine.execBridgeConversion k conv s
  | .epochPublication => Sys2Proof.Machine.execEpochPublication s
  | .bilCmdClose mask => Sys2Proof.Machine.execBilCmdClose mask s
  | .resettr mask => Sys2Proof.Machine.execResettr mask s
  | .vswChange low => Sys2Proof.Machine.execVswChange low s
  | .sessionOpen => Sys2Proof.Machine.execSessionOpen s
  | .sessionOpenResult => Sys2Proof.Machine.execSessionOpenResult s
  | .sessionClose => Sys2Proof.Machine.execSessionClose s
  | .sessionTimeout => Sys2Proof.Machine.execSessionTimeout s
  | .lockoutEnd => Sys2Proof.Machine.execLockoutEnd s
  | .patchInstall => Sys2Proof.Machine.execPatchInstall s
  | .patchTestsDone refused => Sys2Proof.Machine.execPatchTestsDone refused s
  | .patchRemove core => Sys2Proof.Machine.execPatchRemove core s
  | .storePeriod => Sys2Proof.Machine.execStorePeriod s
  | .storeStart => Sys2Proof.Machine.execStoreStart s
  | .storePageDone good => Sys2Proof.Machine.execStorePageDone good s
  | .storeDone => Sys2Proof.Machine.execStoreDone s
  | .stoStore who mask => Sys2Proof.Machine.execStoStore who mask s
  | .stoRead who region => Sys2Proof.Machine.execStoRead who region s
  | .stoWrite who region => Sys2Proof.Machine.execStoWrite who region s
  | .stoSetPwr who region => Sys2Proof.Machine.execStoSetPwr who region s
  | .stoSetPww who region => Sys2Proof.Machine.execStoSetPww who region s
  | .transferClose who => Sys2Proof.Machine.execTransferClose who s
  | .accessCheckDone => Sys2Proof.Machine.execAccessCheckDone s
  | .stoLockoutEnd c => Sys2Proof.Machine.execStoLockoutEnd c s
  | .pdataAccess who v => Sys2Proof.Machine.execPdataAccess who v s
  | .stcFabricRetry refused => Sys2Proof.Machine.execStcFabricRetry refused s
  | .resvStored => Sys2Proof.Machine.execResvStored s
  | .plsTrainLoad own => Sys2Proof.Machine.execPlsTrainLoad own s
  | .plsBackoffEnd r => Sys2Proof.Machine.execPlsBackoffEnd r s
  | .trainEnd => Sys2Proof.Machine.execTrainEnd s
  | .txFault phase => Sys2Proof.Machine.execTxFault phase s
  | .preambleDetect code => Sys2Proof.Machine.execPreambleDetect code s
  | .plsFrameReceived bytes refused => Sys2Proof.Machine.execPlsFrameReceived bytes refused s
  | .plsAckSend => Sys2Proof.Machine.execPlsAckSend s
  | .plsAckTimeout => Sys2Proof.Machine.execPlsAckTimeout s
  | .trainAbandoned => Sys2Proof.Machine.execTrainAbandoned s
  | .gapErased => Sys2Proof.Machine.execGapErased s
  | .routeAdvertisement => Sys2Proof.Machine.execRouteAdvertisement s
  | .nbrLost n => Sys2Proof.Machine.execNbrLost n s
  | .radioFrameLoad own => Sys2Proof.Machine.execRadioFrameLoad own s
  | .radioBackoffEnd r => Sys2Proof.Machine.execRadioBackoffEnd r s
  | .ccaDone busy => Sys2Proof.Machine.execCcaDone busy s
  | .txDone => Sys2Proof.Machine.execTxDone s
  | .gauzeFrameReceived bytes rssi refused => Sys2Proof.Machine.execGauzeFrameReceived bytes rssi refused s
  | .radioAckSend => Sys2Proof.Machine.execRadioAckSend s
  | .radioAckReceived bytes => Sys2Proof.Machine.execRadioAckReceived bytes s
  | .radioAckTimeout => Sys2Proof.Machine.execRadioAckTimeout s
  | .dutyTimeout => Sys2Proof.Machine.execDutyTimeout s
  | .gwaitExpiry => Sys2Proof.Machine.execGwaitExpiry s
  | .glintMatch pattern => Sys2Proof.Machine.execGlintMatch pattern s
  | .rxwinExpiry => Sys2Proof.Machine.execRxwinExpiry s
  | .relayDelayEnd k => Sys2Proof.Machine.execRelayDelayEnd k s
  | .wmbTelegram air => Sys2Proof.Machine.execWmbTelegram air s
  | .wmbRx telegram good => Sys2Proof.Machine.execWmbRx telegram good s
  | .keyUpdate slot size use => Sys2Proof.Machine.execKeyUpdate slot size use s
  | .keyErase slot => Sys2Proof.Machine.execKeyErase slot s
  | .secRaiseLimit => Sys2Proof.Machine.execSecRaiseLimit s
  | .loopMessageLoad own => Sys2Proof.Machine.execLoopMessageLoad own s
  | .loopPoll => Sys2Proof.Machine.execLoopPoll s
  | .loopBroadcast => Sys2Proof.Machine.execLoopBroadcast s
  | .loopDiscover => Sys2Proof.Machine.execLoopDiscover s
  | .loopFrameRepeat bytes stalled refused => Sys2Proof.Machine.execLoopFrameRepeat bytes stalled refused s
  | .loopViolation cells transitions => Sys2Proof.Machine.execLoopViolation cells transitions s
  | .loopAbortRx => Sys2Proof.Machine.execLoopAbortRx s
  | .loopReturn bytes after broken stalled refused => Sys2Proof.Machine.execLoopReturn bytes after broken stalled refused s
  | .loopNoReturn => Sys2Proof.Machine.execLoopNoReturn s
  | .loopSilent => Sys2Proof.Machine.execLoopSilent s
  | .stationLoss => Sys2Proof.Machine.execStationLoss s
  | .reportDue => Sys2Proof.Machine.execReportDue s
  | .podJoin => Sys2Proof.Machine.execPodJoin s
  | .podJoinResp => Sys2Proof.Machine.execPodJoinResp s
  | .podReport => Sys2Proof.Machine.execPodReport s
  | .podDown => Sys2Proof.Machine.execPodDown s
  | .podRemove => Sys2Proof.Machine.execPodRemove s
  | .readStore => Sys2Proof.Machine.execReadStore s
  | .conTransit => Sys2Proof.Machine.execConTransit s
  | .conCmdRemove index => Sys2Proof.Machine.execConCmdRemove index s
  | .forwardCycle => Sys2Proof.Machine.execForwardCycle s
  | .podSilent n => Sys2Proof.Machine.execPodSilent n s
  | .heldExpired => Sys2Proof.Machine.execHeldExpired s
  | .eventRaise => Sys2Proof.Machine.execEventRaise s
  | .hEvtAck v waited => Sys2Proof.Machine.execHEvtAck v waited s
  | .legalEntryWrite good => Sys2Proof.Machine.execLegalEntryWrite good s
  | .openEntryWrite good => Sys2Proof.Machine.execOpenEntryWrite good s
  | .optRequest msg => Sys2Proof.Machine.execOptRequest msg s
  | .optIdentSend => Sys2Proof.Machine.execOptIdentSend s
  | .optAck z y bad => Sys2Proof.Machine.execOptAck z y bad s
  | .optAckTimeout => Sys2Proof.Machine.execOptAckTimeout s
  | .optReadout => Sys2Proof.Machine.execOptReadout s
  | .optSilence => Sys2Proof.Machine.execOptSilence s
  | .optVsReq msg bad => Sys2Proof.Machine.execOptVsReq msg bad s
  | .buttonPress n => Sys2Proof.Machine.execButtonPress n s
  | .btnLong n => Sys2Proof.Machine.execBtnLong n s
  | .buttonRelease n => Sys2Proof.Machine.execButtonRelease n s
  | .displayTestEnd => Sys2Proof.Machine.execDisplayTestEnd s
  | .displayScroll => Sys2Proof.Machine.execDisplayScroll s
  | .displayOff => Sys2Proof.Machine.execDisplayOff s
  | .displayTimeout => Sys2Proof.Machine.execDisplayTimeout s
  | .pulseEnd n => Sys2Proof.Machine.execPulseEnd n s
  | .pulseInputEdge n rising => Sys2Proof.Machine.execPulseInputEdge n rising s
  | .coreWdg c => Sys2Proof.Machine.execCoreWdg c s
  | .coreRestartDone c => Sys2Proof.Machine.execCoreRestartDone c s
  | .tempSample value => Sys2Proof.Machine.execTempSample value s
  | .optStartBitWake => Sys2Proof.Machine.execOptStartBitWake s
  | .vaultRetentionLoss => Sys2Proof.Machine.execVaultRetentionLoss s
  | .vdrvBack => Sys2Proof.Machine.execVdrvBack s
  | .violBack => Sys2Proof.Machine.execViolBack s
  | .plsHalfCycle waves => Sys2Proof.Machine.execPlsHalfCycle waves s
  | .dutyBudgetFits => Sys2Proof.Machine.execDutyBudgetFits s
  | .pendingFrameSend => Sys2Proof.Machine.execPendingFrameSend s
  | .optMessageEnd => Sys2Proof.Machine.execOptMessageEnd s

end Sys2Proof.Machine
end

