-- ==== Sys2Proof/Machine/Idle.lean ====
section
/-! DEFINITION. What the part does with no command waiting: one cycle of the RTC source, 1/32,768 s, and what the cores and the power management
do of themselves in it (the model's choice of a tick; the table has no row for one). -/

namespace Sys2Proof.Machine

/-- The RTC count has been lost, and the AO power-on reset has not been released: nothing counts (R118). -/
def State.aoDown (s : State) : Bool := s.mode == .reset && s.pwr.vaultLost && s.pwr.aoReset

/-- One cycle of the time base: the AO tick and its divider always (R125); the RTC and its divider of 32 but in a freeze, the count
holding at its maximum (R15, R379); the cycles in which the Twill clock runs (R36); the freeze span in a freeze. The
programming of a buffered page has begun (R25), unless the store is to end before it (R103, R151). -/
def State.tickTime (s : State) : State :=
  let t := s.time
  let rolls := t.presc == 31
  let presc := if s.umb.frozen then t.presc else (t.presc + 1) % 32
  let rtc := if s.umb.frozen || !rolls || t.rtc == 0xFFFFFFFFFFFF then t.rtc else t.rtc + 1
  let time : TimeBase :=
    { rtc := rtc, presc := presc,
      aoTick := if t.aoPresc = 31 then t.aoTick + 1 else t.aoTick, aoPresc := (t.aoPresc + 1) % 32,
      cyc := t.cyc + 1, runCyc := if s.twillRuns then t.runCyc + 1 else t.runCyc }
  { s with time := time, umb := if s.umb.frozen then { s.umb with span := s.umb.span + 1 } else s.umb,
           sto := { s.sto with atBoundary := s.sto.atBoundary && s.pwr.storeCut } }

/-- A running core serves its pending bits and clears them (R558); LGC keeps the bit of a legal entry that waits for the legal queue (R565). -/
def State.servePending (s : State) (c : Nat) : State :=
  if s.coreUp c && s.coreStarted c then
    let s := s.clearRange (EVT_CPEND.addr c 0) (EVT_CPEND.addr c 35)
    if c = 0 then s.evt.legalWait.foldl (fun s x => s.setBit (EVT_CPEND.addr 0 (x.2.source / 32)) (x.2.source % 32)) s else s
  else s

/-- Twill serves the energy engine and the loop controller: their crossing queues drain (R129, R130). -/
def State.drainQueues (s : State) : State := if s.twillRuns then s.drainResults.drainLoop else s

/-- The cores, while Twill runs. -/
def State.serveCores (s : State) : State := if s.twillRuns then [0, 1, 2].foldl State.servePending s else s

/-- One cycle with no command: time; D[15:0] take their meaning, for no host cycle is on the bus (R63); the crossing queues; the end of a Doze entry, or
a mode request that may now begin (R98, R113); the cores; the display and an external-relay by-pass, which come back after Doze (R526, R590), and
an answer of the optical port (R586). DESIGN CHOICE (log 3). -/
def State.tick (s : State) : State :=
  if s.aoDown then s
  else
    let s := s.tickTime
    let s := if s.umb.frozen || !s.hst.slots.isEmpty then s else State.takeRole { s with pins := { s.pins with csHigh := true } }
    let s := s.drainQueues
    let s := (if s.pwr.dozeEntry then s.endDozeEntry else s.beginRequest).serveCores
    let s := if s.netRunning then s.bypassIfRelay else s
    if s.twillRuns then s.displayRun.optAnswerDue else s

end Sys2Proof.Machine
end

