-- ==== Sys2Proof/Safety.lean ====
section
/-! DEFINITION. What counts as a sound state, and the words in which statements say what a command leaves alone: the register bits outside
named fields, and the waiting raises of other sources. -/

namespace Sys2Proof.Machine

/-- The register store is in canonical form: addresses strictly rising, no word at its Reset value. -/
def State.regsWf (s : State) : Bool := Sparse.wf resetWord s.regs

/-- Every memory is in canonical form: Calico, the vault, the shadow SRAM, the store array. -/
def State.memoriesWf (s : State) : Bool :=
  Memory.wf s.calico && Memory.wf s.vault && Memory.wf s.sto.sram && Memory.wf s.sto.array

/-- A sound state. -/
def State.Sound (s : State) : Prop := s.regsWf = true ∧ s.memoriesWf = true

/-- Bit `b` of word `a` lies in one of the fields. -/
def inFields (fs : List Fd) (a b : Nat) : Prop := ∃ f ∈ fs, f.addr = a ∧ f.lo ≤ b ∧ b ≤ f.hi

/-- Every register bit of `t` outside the fields reads as in `s`. -/
def State.onlyFields (s t : State) (fs : List Fd) : Prop :=
  ∀ a b, ¬ inFields fs a b → (t.rd a).getLsbD b = (s.rd a).getLsbD b

/-- Every register word of `t` outside the words reads as in `s`. -/
def State.onlyWords (s t : State) (ws : List Nat) : Prop := ∀ a, a ∉ ws → t.rd a = s.rd a

/-- A raise of source `src` waits at its handshake. -/
def State.raised (s : State) (src : Nat) : Prop := ∃ r ∈ s.evt.raises, r.src = src

end Sys2Proof.Machine
end

