-- ==== Sys2Proof/WellFormed.lean ====
section
/-! DEFINITION. Which commands are well formed: what the operands of a command must satisfy beyond their types. -/

namespace Sys2Proof

/-- Only LGC, APC, NWC and the host bridge send lease commands, and so only they use the STC port (R42, R597). -/
def leaseSender (i : Fin 14) : Bool := decide (i.val ≤ 2) || i.val == 13

/-- The lease commands of one cycle come from senders of lease commands, at most one from each (R42, R43). -/
def oncePerSender (cs : List LeaseCmd) : Bool := cs.all (fun c => leaseSender c.init) && decide ((cs.map (fun c => c.init)).Nodup)

/-- The other commands of the cycle of a command of `i`. -/
def sameCycle (i : Fin 14) (cs : List LeaseCmd) : Bool := oncePerSender cs && cs.all (fun c => c.init != i)

/-- Only the three cores fetch (R40); only the targets without addresses in deep space are reached by an offset inside them. -/
def fetchByCore (i : Fin 14) : BusOp → Bool
  | .fetch => decide (i.val ≤ 2)
  | .inner t _ => t.val == 8 || t.val == 9 || (decide (11 ≤ t.val) && decide (t.val ≤ 13))
  | _ => true

/-- A host read with a side effect names one of the 48 host registers (Table HST-1). -/
def onRegister : RegAt → Bool
  | .deep _ _ => true
  | .host off _ => decide (off.toNat < 48)

/-- A capture holds at most the 4 ms of samples at 64 MS/s that its window can be long (R230, Table FIR-3). -/
def Capture.wellFormed (c : Capture) : Bool := decide (c.samples.length ≤ 256000)

/-- A message for a frame carries at least one byte, and no more than the largest frame (Tables PLS-4, RAD-3, LOP-3). -/
def payloadFits (m : NetMessage) : Bool := !m.payload.isEmpty && decide (m.payload.length ≤ 255)

/-- A frame or a message on a line has at least one byte, and no more than the longest of them. -/
def frameFits (bytes : List (BitVec 8)) : Bool := !bytes.isEmpty && decide (bytes.length ≤ 1024)

/-- The command is well formed. -/
def Instr.wellFormed : Instr → Bool
  | .rcReadComplete loc _ _ => onRegister loc
  | .twillRequest i _ op => fetchByCore i op
  | .leaseAcquire i _ also => leaseSender i && sameCycle i also
  | .leaseRenew i _ also => leaseSender i && sameCycle i also
  | .leaseRelease i _ also => leaseSender i && sameCycle i also
  | .leaseRevoke _ also => oncePerSender also
  | .zeroCrossing _ t => decide (0 ≤ t)
  | .serialFrame _ edges _ _ _ _ _ _ _ => decide (32 ≤ edges)
  | .captureClose _ cap => cap.wellFormed
  | .stoStore who _ => leaseSender who
  | .stoRead who _ => leaseSender who
  | .stoWrite who _ => leaseSender who
  | .stoSetPwr who _ => leaseSender who
  | .stoSetPww who _ => leaseSender who
  | .transferClose who => leaseSender who
  | .pdataAccess who _ => leaseSender who
  | .plsTrainLoad own => own.all (fun m => payloadFits m)
  | .plsFrameReceived bytes _ => frameFits bytes
  | .radioFrameLoad own => own.all (fun m => payloadFits m)
  | .gauzeFrameReceived bytes _ _ => frameFits bytes
  | .radioAckReceived bytes => frameFits bytes
  | .wmbTelegram air => decide (0 < air)
  | .wmbRx telegram _ => frameFits telegram
  | .loopMessageLoad own => own.all (fun m => payloadFits m)
  | .loopFrameRepeat bytes _ _ => frameFits bytes
  | .loopReturn bytes _ _ _ _ => frameFits bytes
  | .optRequest msg => frameFits msg
  | .optVsReq msg _ => frameFits msg
  | .plsHalfCycle waves => waves.length == 3 && waves.all (fun w => w.slots.length == 4)
  | .registerWrite .. | .multiwordLowRead .. | .multiwordHighWrite .. | .rtcEnd | .accessAccepted ..
  | .hardBoundExpiry .. | .domainResetEnd .. | .targetFlush .. | .powerOnReset ..
  | .strapPresample .. | .pinReset | .softwareStart | .rstoreCut | .internalResetRelease .. | .oscillatorsUp ..
  | .hostReady .. | .meterReady .. | .apcRunning | .nwcRunning | .settledPageRecall .. | .recallSettled
  | .frzNFall .. | .freezeAccept .. | .imageReady | .umbraPortEnable .. | .umbraAdvance .. | .umbraRewind .. | .frzNRise
  | .resumeAccept .. | .spanEnd .. | .bypassSwitch | .bypassSettled | .bypassFault | .bypassRetry | .violLoss
  | .viohLoss | .viohBack .. | .pfTrigger .. | .pfRide .. | .pfDeclared | .holdFloor | .pfStoreEnd | .mainsBack
  | .holdokReached | .holdFault | .vbatNewCell | .batend | .vbatSample .. | .vdrvFault | .dozeRequest
  | .listenRequest | .vaultRequest | .modeStoreDone | .autoDoze .. | .scheduledWake .. | .rtcAlarm | .hostWake
  | .warmStart .. | .lfxoFail | .lfxoBack | .hfxoFail | .spllUnlock | .hfxoRestartTry .. | .hfxoBack
  | .hfxoStartTimeout .. | .epllUnlock .. | .epllRelock .. | .lpoRange | .lpoBack | .lpoCalibrate ..
  | .xoMismatchCount .. | .zcMissed .. | .hKeyArm .. | .keyTimeout | .winrst | .mboxrst | .windowSelectWrite ..
  | .prefetchDone .. | .windowDloRead .. | .windowDloWrite .. | .windowDhiWrite .. | .hostBoundExpiry ..
  | .serShort .. | .hTimeLoRead | .hEvtLoRead | .clockSetRequest .. | .clockSetLoad | .wdgKick | .wdgSetPeriod ..
  | .hostWdg | .mboxTxWrite .. | .mboxMessage | .mboxRxRead | .mboxDeliver | .stgErrRead | .stagingWrite ..
  | .stgCheck .. | .stgCheckDone | .stgApply .. | .stgApplyCheckDone | .stgDiscard .. | .commitPoint
  | .setTakesEffect .. | .epochBoundary | .shotPreparation .. | .forwardFire .. | .driveFault .. | .reverseFire ..
  | .unitRelease .. | .shotProcessed .. | .flowCutoff .. | .tempConversion .. | .bridgeConversion ..
  | .epochPublication | .bilCmdClose .. | .resettr .. | .vswChange .. | .sessionOpen | .sessionOpenResult
  | .sessionClose | .sessionTimeout | .lockoutEnd | .patchInstall | .patchTestsDone .. | .patchRemove ..
  | .storePeriod | .storeStart | .storePageDone .. | .storeDone | .accessCheckDone | .stoLockoutEnd ..
  | .stcFabricRetry .. | .resvStored | .plsBackoffEnd .. | .trainEnd | .txFault .. | .preambleDetect ..
  | .plsAckSend | .plsAckTimeout | .trainAbandoned | .gapErased | .routeAdvertisement | .nbrLost ..
  | .radioBackoffEnd .. | .ccaDone .. | .txDone | .radioAckSend | .radioAckTimeout | .dutyTimeout | .gwaitExpiry
  | .glintMatch .. | .rxwinExpiry | .relayDelayEnd .. | .keyUpdate .. | .keyErase .. | .secRaiseLimit | .loopPoll
  | .loopBroadcast | .loopDiscover | .loopViolation .. | .loopAbortRx | .loopNoReturn | .loopSilent | .stationLoss
  | .reportDue | .podJoin | .podJoinResp | .podReport | .podDown | .podRemove | .readStore | .conTransit
  | .conCmdRemove .. | .forwardCycle | .podSilent .. | .heldExpired | .eventRaise | .hEvtAck ..
  | .legalEntryWrite .. | .openEntryWrite .. | .optIdentSend | .optAck .. | .optAckTimeout | .optReadout
  | .optSilence | .buttonPress .. | .btnLong .. | .buttonRelease .. | .displayTestEnd | .displayScroll
  | .displayOff | .displayTimeout | .pulseEnd .. | .pulseInputEdge .. | .coreWdg .. | .coreRestartDone ..
  | .tempSample .. | .optStartBitWake | .vaultRetentionLoss | .vdrvBack | .violBack | .dutyBudgetFits
  | .pendingFrameSend | .optMessageEnd => true

end Sys2Proof
end

