-- ==== Sys2Proof/Certificates/Slice0/Obligations.lean ====
section
/-! DEFINITION. The statements of the model, for the provers. An `Effect` says of one command where it completes: under conditions on the state and
the operands it answers a next state, what that state holds, and what it leaves alone. An obligation gathers the effects of one family. -/

namespace Sys2Proof.Machine

/-! ### Clocks (chapter 04) -/

/-- LFXO_FAIL (R137, R144, Table CLK-5): the RTC and the LFXO domains move to the LPO, and the failure is counted and reported; a crystal that is
still to start has 1.5 s for it. -/
def Effect.lfxoFail : Prop := ∀ s : State, s.clk.lfxoFailed = false →
    (s.on CLK_STAT.LFXOOK = true ∨ 1500000 ≤ cycUs (s.time.cyc - s.boot.released)) →
  ∃ t, exec .lfxoFail s = .next t ∧ t.on CLK_STAT.LFXOOK = false ∧ t.on CLK_STAT.RTCSRC = true
    ∧ t.get CLK_FAIL.LFXO = min 255 (s.get CLK_FAIL.LFXO + 1) ∧ t.evt = (s.raise Ev.LFXO_FAIL).evt
    ∧ s.onlyFields t [CLK_STAT.LFXOOK, CLK_STAT.RTCSRC, CLK_FAIL.LFXO]
    ∧ t = { s with regs := t.regs, evt := t.evt, clk := { s.clk with lfxoFailed := true } }

/-- LFXO_BACK (R137): at a 1/1024 s boundary the RTC and its domains return to LFXO. -/
def Effect.lfxoBack : Prop := ∀ s : State, s.on CLK_STAT.RTCSRC = true → s.time.presc = 0 → s.clk.lfxoFailed = true →
  ∃ t, exec .lfxoBack s = .next t ∧ t.on CLK_STAT.LFXOOK = true ∧ t.on CLK_STAT.RTCSRC = false
    ∧ t.evt = (s.raise Ev.LFXO_BACK).evt ∧ s.onlyFields t [CLK_STAT.LFXOOK, CLK_STAT.RTCSRC]
    ∧ t = { s with regs := t.regs, evt := t.evt, clk := { s.clk with lfxoFailed := false } }

/-- HFXO_FAIL (R139) outside a freeze: the system domains move to the SRO, what the front ends had under way ends, and the failure is counted and
reported. Memories, the store, the power sequence and the time base stay as they are. -/
def Effect.hfxoFail : Prop := ∀ s : State, s.oscOn = true → s.umb.frozen = false → s.on CLK_STAT.HFXOOK = true →
  ∃ t, exec .hfxoFail s = .next t ∧ t.on CLK_STAT.HFXOOK = false ∧ t.on CLK_STAT.SPLLOK = false ∧ t.on CLK_STAT.SYSSRC = true
    ∧ t.get CLK_FAIL.HFXO = min 255 (s.get CLK_FAIL.HFXO + 1) ∧ t.raised Ev.HFXO_FAIL
    ∧ t.pls.rx = none ∧ t.rad.active = none ∧ t.on SYS_BYPASS.CLOSED = true ∧ t.loc.opt.stage = .idle
    ∧ t.calico = s.calico ∧ t.pwr = s.pwr ∧ t.time = s.time ∧ t.mode = s.mode ∧ t.pending = s.pending

/-- SPLL_UNLOCK (R137) outside a freeze: as for an HFXO failure, but HFXO itself is good. -/
def Effect.spllUnlock : Prop := ∀ s : State, s.oscOn = true → s.umb.frozen = false → s.on CLK_STAT.HFXOOK = true → s.on CLK_STAT.SPLLOK = true →
  ∃ t, exec .spllUnlock s = .next t ∧ t.on CLK_STAT.HFXOOK = true ∧ t.on CLK_STAT.SPLLOK = false ∧ t.on CLK_STAT.SYSSRC = true
    ∧ t.get CLK_FAIL.SPLL = min 255 (s.get CLK_FAIL.SPLL + 1) ∧ t.raised Ev.SPLL_UNLOCK
    ∧ t.pls.rx = none ∧ t.rad.active = none ∧ t.on SYS_BYPASS.CLOSED = true ∧ t.loc.opt.stage = .idle
    ∧ t.calico = s.calico ∧ t.pwr = s.pwr ∧ t.time = s.time ∧ t.mode = s.mode ∧ t.pending = s.pending

/-- HFXO_RESTART_TRY (R137, R140) against LFXO: a count in window is counted, and one outside it begins the counts afresh. -/
def Effect.hfxoRestartTry : Prop := ∀ (s : State) (count : Nat), s.oscOn = true → s.on CLK_STAT.SYSSRC = true → s.on CLK_STAT.RTCSRC = false →
  ∃ t, exec (.hfxoRestartTry count) s = .next t
    ∧ t.clk.hfxoGood = (if 37463 ≤ count ∧ count ≤ 37537 then s.clk.hfxoGood + 1 else 0)
    ∧ t = { s with clk := { s.clk with hfxoGood := t.clk.hfxoGood } }

/-- HFXO_BACK (R137, R142): after four counts in a row the system domains return to HFXO and the SPLL. -/
def Effect.hfxoBack : Prop := ∀ s : State, s.oscOn = true → s.on CLK_STAT.SYSSRC = true → 4 ≤ s.clk.hfxoGood →
  ∃ t, exec .hfxoBack s = .next t ∧ t.on CLK_STAT.HFXOOK = true ∧ t.on CLK_STAT.SPLLOK = true ∧ t.on CLK_STAT.SYSSRC = false
    ∧ t.clk.hfxoGood = 0 ∧ t.umb.stopped = false ∧ t.raised Ev.HFXO_BACK
    ∧ s.onlyFields t [CLK_STAT.HFXOOK, CLK_STAT.SPLLOK, CLK_STAT.SYSSRC, SYS_BYPASS.CLOSED, LOP_STAT.REPEAT, LOP_STAT.RING, LOP_STAT.STATION]
    ∧ t = { s with regs := t.regs, evt := t.evt, clk := t.clk, umb := t.umb, bypass := t.bypass, lop := t.lop }

/-- EPLL_UNLOCK (R137): the bit of the engine falls and the others stay; the loss is counted and reported. -/
def Effect.epllUnlock : Prop := ∀ (s : State) (k : Fin 4), s.oscOn = true → s.umb.frozen = false → (s.get CLK_STAT.EPLLOK).testBit k = true →
  ∃ t, exec (.epllUnlock k) s = .next t
    ∧ (∀ j, (t.get CLK_STAT.EPLLOK).testBit j = ((s.get CLK_STAT.EPLLOK).testBit j && j != k.val))
    ∧ t.get CLK_FAIL.EPLL = min 255 (s.get CLK_FAIL.EPLL + 1) ∧ t.raised Ev.EPLL_UNLOCK
    ∧ t.calico = s.calico ∧ t.vault = s.vault ∧ t.sto = s.sto ∧ t.pls = s.pls ∧ t.rad = s.rad ∧ t.lop = s.lop

/-- EPLL_RELOCK (R137): the bit of the engine rises, on a reference that runs, and the others stay. -/
def Effect.epllRelock : Prop := ∀ (s : State) (k : Fin 4), s.oscOn = true → s.umb.frozen = false → (k = 0 ∨ s.pod = false) →
    s.on CLK_STAT.HFXOOK = true →
  ∃ t, exec (.epllRelock k) s = .next t
    ∧ (∀ j, (t.get CLK_STAT.EPLLOK).testBit j = ((s.get CLK_STAT.EPLLOK).testBit j || j == k.val))
    ∧ s.onlyFields t [CLK_STAT.EPLLOK] ∧ t = { s with regs := t.regs }

/-- LPO_RANGE (R137). -/
def Effect.lpoRange : Prop := ∀ s : State, s.on CLK_STAT.LPOOK = true → s.on CLK_STAT.LFXOOK = true → s.clocksOn.contains 1 = true →
  ∃ t, exec .lpoRange s = .next t ∧ t.on CLK_STAT.LPOOK = false ∧ t.evt = (s.raise Ev.LPO_RANGE).evt
    ∧ s.onlyFields t [CLK_STAT.LPOOK]
    ∧ t = { s with regs := t.regs, evt := t.evt, clk := { s.clk with lpoSince := s.time.cyc } }

/-- LPO_BACK (R137): 16 s after the loss. -/
def Effect.lpoBack : Prop := ∀ s : State, s.on CLK_STAT.LFXOOK = true → s.clocksOn.contains 1 = true →
    16000000 ≤ cycUs (s.time.cyc - s.clk.lpoSince) →
  ∃ t, exec .lpoBack s = .next t ∧ t.on CLK_STAT.LPOOK = true ∧ s.onlyFields t [CLK_STAT.LPOOK] ∧ t = { s with regs := t.regs }

/-- LPO_CALIBRATE (R138): the frequency measured goes into CLK_LPO. -/
def Effect.lpoCalibrate : Prop := ∀ (s : State) (f : BitVec 22), s.oscOn = true → s.umb.frozen = false → s.on CLK_STAT.RTCSRC = true →
    s.on CLK_STAT.HFXOOK = true →
  ∃ t, exec (.lpoCalibrate f) s = .next t ∧ t.get CLK_LPO.FREQ = f.toNat
    ∧ s.onlyFields t [CLK_LPO.FREQ] ∧ t = { s with regs := t.regs }

/-- XO_MISMATCH_COUNT (R140): a count outside the window sets MISMATCH and is reported. -/
def Effect.xoMismatchCount : Prop := ∀ (s : State) (count : Nat), s.oscOn = true → s.umb.frozen = false → s.on CLK_STAT.LFXOOK = true →
    s.on CLK_STAT.HFXOOK = true → s.on CLK_STAT.SPLLOK = true → s.on CLK_STAT.MISMATCH = false → (count < 37463 ∨ 37537 < count) →
  ∃ t, exec (.xoMismatchCount count) s = .next t ∧ t.on CLK_STAT.MISMATCH = true ∧ t.evt = (s.raise Ev.XO_MISMATCH).evt
    ∧ s.onlyFields t [CLK_STAT.MISMATCH]
    ∧ t = { s with regs := t.regs, evt := t.evt, clk := { s.clk with mismatchGood := 0 } }

/-- XO_MISMATCH_COUNT (R140): the fourth count in a row within the window clears MISMATCH. -/
def Effect.xoMismatchClears : Prop := ∀ (s : State) (count : Nat), s.oscOn = true → s.umb.frozen = false → s.on CLK_STAT.LFXOOK = true →
    s.on CLK_STAT.HFXOOK = true → s.on CLK_STAT.SPLLOK = true → s.on CLK_STAT.MISMATCH = true → 37463 ≤ count → count ≤ 37537 →
    3 ≤ s.clk.mismatchGood →
  ∃ t, exec (.xoMismatchCount count) s = .next t ∧ t.on CLK_STAT.MISMATCH = false
    ∧ s.onlyFields t [CLK_STAT.MISMATCH] ∧ t = { s with regs := t.regs, clk := { s.clk with mismatchGood := 0 } }

/-- ZERO_CROSSING (R135): within 300 µs of the prediction, the reference moves by a quarter of the error and the half-cycle by a sixteenth of it,
HOLD clears, and the tracker stays locked. Times are in 1/19.2 µs. -/
def Effect.zeroCrossing : Prop := ∀ (s : State) (k : Fin 3) (e : Int), s.trackersRun = true → (s.tracker k).stage = .locked → e.natAbs ≤ 5760 →
  ∃ t, exec (.zeroCrossing k ((s.tracker k).r + (s.tracker k).p + e)) s = .next t
    ∧ (t.tracker k).r = (s.tracker k).r + (s.tracker k).p + roundDiv e 4 ∧ (t.tracker k).p = (s.tracker k).p + roundDiv e 16
    ∧ (t.tracker k).stage = .locked ∧ t.on (CLK_ZC.LOCK k) = true ∧ t.get (CLK_ZC.HOLD k) = 0
    ∧ s.onlyFields t [CLK_ZC.HALF k, CLK_ZC.LOCK k, CLK_ZC.HOLD k]
    ∧ t = { s with regs := t.regs, clk := { s.clk with trackers := t.clk.trackers } }

/-- ZERO_CROSSING (R136): the 32nd half-cycle of settling locks the tracker. -/
def Effect.zeroCrossingLocks : Prop := ∀ (s : State) (k : Fin 3) (e : Int), s.trackersRun = true → (s.tracker k).stage = .settle 31 →
    e.natAbs ≤ 5760 →
  ∃ t, exec (.zeroCrossing k ((s.tracker k).r + (s.tracker k).p + e)) s = .next t
    ∧ (t.tracker k).stage = .locked ∧ t.on (CLK_ZC.LOCK k) = true ∧ t.evt = (s.raise Ev.ZC_LOCK).evt
    ∧ s.onlyFields t [CLK_ZC.HALF k, CLK_ZC.LOCK k, CLK_ZC.HOLD k]
    ∧ t = { s with regs := t.regs, evt := t.evt, clk := { s.clk with trackers := t.clk.trackers } }

/-- ZERO_CROSSING (R135): a crossing outside the window is ignored, counted and held over, up to 16 times in a row. -/
def Effect.zeroCrossingIgnored : Prop := ∀ (s : State) (k : Fin 3) (x : Int), s.trackersRun = true → (s.tracker k).stage = .locked →
    (s.tracker k).missed = false → 5760 < (x - ((s.tracker k).r + (s.tracker k).p)).natAbs → (s.tracker k).hold < 16 →
  ∃ t, exec (.zeroCrossing k x) s = .next t ∧ t.get (CLK_ZC.HOLD k) = (s.tracker k).hold + 1 ∧ t.on (CLK_ZC.LOCK k) = true
    ∧ (t.tracker k).r = (s.tracker k).r + (s.tracker k).p ∧ (t.tracker k).p = (s.tracker k).p
    ∧ t.get (CLK_ZC.IGNORED k) = min 255 (s.get (CLK_ZC.IGNORED k) + 1) ∧ t.evt = (s.raise Ev.ZC_IGNORED).evt
    ∧ s.onlyFields t [CLK_ZC.HALF k, CLK_ZC.LOCK k, CLK_ZC.HOLD k, CLK_ZC.IGNORED k]
    ∧ t = { s with regs := t.regs, evt := t.evt, clk := { s.clk with trackers := t.clk.trackers } }

/-- ZC_MISSED (R135): a crossing that is not seen counts as deviating and is held over. -/
def Effect.zcMissed : Prop := ∀ (s : State) (k : Fin 3), s.trackersRun = true → (s.tracker k).stage = .locked → (s.tracker k).hold < 16 →
  ∃ t, exec (.zcMissed k) s = .next t ∧ t.get (CLK_ZC.HOLD k) = (s.tracker k).hold + 1 ∧ t.on (CLK_ZC.LOCK k) = true
    ∧ (t.tracker k).r = (s.tracker k).r + (s.tracker k).p ∧ t.evt = (s.raise Ev.ZC_IGNORED).evt
    ∧ s.onlyFields t [CLK_ZC.HALF k, CLK_ZC.LOCK k, CLK_ZC.HOLD k, CLK_ZC.IGNORED k]
    ∧ t = { s with regs := t.regs, evt := t.evt, clk := { s.clk with trackers := t.clk.trackers } }

/-- ZC_MISSED (R135): the 17th deviation in a row clears LOCK. -/
def Effect.zcLost : Prop := ∀ (s : State) (k : Fin 3), s.trackersRun = true → (s.tracker k).stage = .locked → 16 ≤ (s.tracker k).hold →
  ∃ t, exec (.zcMissed k) s = .next t ∧ t.on (CLK_ZC.LOCK k) = false ∧ t.evt = (s.raise Ev.ZC_LOST).evt
    ∧ s.onlyFields t [CLK_ZC.HALF k, CLK_ZC.LOCK k, CLK_ZC.HOLD k]
    ∧ t = { s with regs := t.regs, evt := t.evt, clk := { s.clk with trackers := t.clk.trackers } }

/-- RTC_END (R15): the count holds at its end, and this is reported. -/
def Effect.rtcEnd : Prop := ∀ s : State, s.time.rtc = 0xFFFFFFFFFFFF → s.clk.rtcEnded = false →
  ∃ t, exec .rtcEnd s = .next t ∧ t.time.rtc = 0xFFFFFFFFFFFF ∧ t.evt = (s.raise Ev.RTC_END).evt
    ∧ t = { s with evt := t.evt, clk := { s.clk with rtcEnded := true } }

/-- TEMP_SAMPLE (R626). -/
def Effect.tempSample : Prop := ∀ (s : State) (v : BitVec 16), ((s.mode = .run ∧ s.umb.frozen = false) ∨ s.mode = .doze) → s.shed = false →
  ∃ t, exec (.tempSample v) s = .next t ∧ t.get SYS_TEMP.TEMP = v.toNat
    ∧ s.onlyFields t [SYS_TEMP.TEMP] ∧ t = { s with regs := t.regs }

/-! ### Supplies, power failures and modes (chapter 03) -/

/-- VIOL_LOSS (R81, R448): the VIO_L outputs are off, the by-pass closes, and no power-line reception and no optical session goes on. -/
def Effect.violLoss : Prop := ∀ s : State, s.on PWR_STAT.VIOLOK = true →
  ∃ t, exec .violLoss s = .next t ∧ t.on PWR_STAT.VIOLOK = false ∧ t.on SYS_BYPASS.CLOSED = true ∧ t.pls.rx = none
    ∧ t.raised Ev.VIOL_LOSS ∧ t.calico = s.calico ∧ t.vault = s.vault ∧ t.sto.array = s.sto.array ∧ t.mode = s.mode ∧ t.time = s.time
    ∧ t.pwr = s.pwr ∧ t.rad = s.rad ∧ t.loc = { s.loc with opt := { s.loc.opt with stage := .idle } } ∧ t.pending = s.pending

/-- VIOL_BACK (R67). Only the by-pass of the external-relay type may act with it (R526). -/
def Effect.violBack : Prop := ∀ s : State,
  ∃ t, exec .violBack s = .next t ∧ t.on PWR_STAT.VIOLOK = true
    ∧ s.onlyFields t [PWR_STAT.VIOLOK, SYS_BYPASS.CLOSED, LOP_STAT.REPEAT, LOP_STAT.RING, LOP_STAT.STATION]
    ∧ (s.relayType = false → s.onlyFields t [PWR_STAT.VIOLOK] ∧ t = { s with regs := t.regs })
    ∧ t = { s with regs := t.regs, evt := t.evt, bypass := t.bypass, lop := t.lop }

/-- VIOH_LOSS (R116): a chip that is not in reset stops driving the host bus, and ignores its inputs. -/
def Effect.viohLoss : Prop := ∀ s : State, s.pins.vioHBad = false → s.mode ≠ .reset →
  ∃ t, exec .viohLoss s = .next t ∧ t.on PWR_STAT.VIOHOK = false ∧ t.pins.vioHBad = true ∧ t.pins.dRole = .floating ∧ t.pins.dOut = none
    ∧ t.pins.waitLow = false ∧ t.evt = (s.raise Ev.VIOH_LOSS).evt ∧ s.onlyFields t [PWR_STAT.VIOHOK]
    ∧ t = { s with regs := t.regs, evt := t.evt, pins := t.pins, pwr := { s.pwr with presample := none } }

/-- VIOH_LOSS in reset (R58, R649): the pre-sample of the straps does not stand, and nothing is raised. -/
def Effect.viohLossInReset : Prop := ∀ s : State, s.pins.vioHBad = false → s.mode = .reset →
  ∃ t, exec .viohLoss s = .next t ∧ t.on PWR_STAT.VIOHOK = false ∧ t.pins.vioHBad = true ∧ t.pwr.presample = none
    ∧ s.onlyFields t [PWR_STAT.VIOHOK] ∧ t = { s with regs := t.regs, pins := t.pins, pwr := { s.pwr with presample := none } }

/-- VIOH_BACK (R63, R116): the host bus is heard again, and D[15:0] take their meaning where CS_N, and D0 in serial mode, has been high. -/
def Effect.viohBack : Prop := ∀ (s : State) (high : Bool),
  ∃ t, exec (.viohBack high) s = .next t ∧ t.on PWR_STAT.VIOHOK = true ∧ t.pins.vioHBad = false ∧ s.onlyFields t [PWR_STAT.VIOHOK]
    ∧ (high = true → t.pins.dRole = t.busRole) ∧ (high = false → t.pins.dRole = s.pins.dRole ∨ t.pins.dRole = .floating)
    ∧ t = { s with regs := t.regs, pins := { s.pins with vioHBad := false, csHigh := high, dRole := t.pins.dRole } }

/-- VDRV_FAULT (R115, R256): no member of an event in preparation stays armed. -/
def Effect.vdrvFault : Prop := ∀ s : State,
  ∃ t, exec .vdrvFault s = .next t ∧ t.on PWR_STAT.VDRVOK = false ∧ t.evt = (s.raise Ev.VDRV_FAULT).evt
    ∧ (∀ e, t.fir.cur = some e → ∀ v ∈ e.events, ∀ m ∈ v.members, m.armed = false)
    ∧ s.onlyFields t [PWR_STAT.VDRVOK] ∧ t = { s with regs := t.regs, evt := t.evt, fir := t.fir }

/-- VDRV_BACK (R115). -/
def Effect.vdrvBack : Prop := ∀ s : State,
  ∃ t, exec .vdrvBack s = .next t ∧ t.on PWR_STAT.VDRVOK = true ∧ s.onlyFields t [PWR_STAT.VDRVOK] ∧ t = { s with regs := t.regs }

/-- BATEND (R108): in the Hub profile the bit is set without any power failure. -/
def Effect.batend : Prop := ∀ s : State, s.pod = false → s.on PWR_STAT.BATEND = false →
  ∃ t, exec .batend s = .next t ∧ t.on PWR_STAT.BATEND = true ∧ t.evt = (s.raise Ev.BATEND).evt
    ∧ s.onlyFields t [PWR_STAT.BATEND] ∧ t = { s with regs := t.regs, evt := t.evt }

/-- VBAT_SAMPLE (R107): the sample goes into PWR_VBAT, and BATLOW is 1 while the latest three samples lie below the threshold. -/
def Effect.vbatSample : Prop := ∀ (s : State) (mv : BitVec 12), s.mode = .run → s.umb.frozen = false → s.shed = false →
    s.boot.steps.testBit 3 = true →
  ∃ t, exec (.vbatSample mv) s = .next t ∧ t.get PWR_VBAT.MV = mv.toNat
    ∧ t.pwr.lowSamples = (if mv.toNat < 2000 + 10 * s.get PWR_CFG.BATLOW then min 3 (s.pwr.lowSamples + 1) else 0)
    ∧ t.on PWR_STAT.BATLOW = decide (t.pwr.lowSamples = 3)
    ∧ (t.pwr.lowSamples = 3 → s.on PWR_STAT.BATLOW = false → t.raised Ev.BATLOW)
    ∧ s.onlyFields t [PWR_VBAT.MV, PWR_STAT.BATEND, PWR_STAT.BATLOW]
    ∧ t = { s with regs := t.regs, evt := t.evt, pwr := { s.pwr with lowSamples := t.pwr.lowSamples } }

/-- VAULT_RETENTION_LOSS (R118): the vault and the RTC count are lost. The arrays stay. -/
def Effect.vaultRetentionLoss : Prop := ∀ s : State,
  ∃ t, exec .vaultRetentionLoss s = .next t ∧ t.vault = [] ∧ t.time.rtc = 0 ∧ t.pwr.vaultLost = true
    ∧ t.calico = s.calico ∧ t.sto.sram = s.sto.sram ∧ t.sto.array = s.sto.array ∧ t.mode = s.mode ∧ t.evt = s.evt
    ∧ t.pending = s.pending

/-- PF_TRIGGER (R87, R88, R99, Table PWR-6): in a hub in Run whose hold-up supply is charged, PFAIL starts the deglitch. -/
def Effect.pfTrigger : Prop := ∀ (s : State) (vmain : Bool), s.pod = false → s.mode = .run → s.pwr.pf = .none → s.on PWR_STAT.HOLDOK = true →
  ∃ t, exec (.pfTrigger .pfail vmain) s = .next t ∧ t.on PWR_STAT.PFLOW = true ∧ t.pwr.pf = .deglitch ∧ t.pwr.dip = true
    ∧ s.onlyFields t [PWR_STAT.PFLOW]
    ∧ t = { s with regs := t.regs, pwr := { s.pwr with pf := .deglitch, dip := true, vmainBad := !vmain } }

/-- PF_TRIGGER (R99, Table PWR-6): in a pod in Run, VBAT end sets BATEND and starts the deglitch. -/
def Effect.pfTriggerPod : Prop := ∀ (s : State) (vmain : Bool), s.pod = true → s.mode = .run → s.pwr.pf = .none →
    s.on PWR_STAT.BATEND = false →
  ∃ t, exec (.pfTrigger .vbat vmain) s = .next t ∧ t.on PWR_STAT.BATEND = true ∧ t.pwr.pf = .deglitch ∧ t.evt = (s.raise Ev.BATEND).evt
    ∧ s.onlyFields t [PWR_STAT.BATEND]
    ∧ t = { s with regs := t.regs, evt := t.evt, pwr := { s.pwr with pf := .deglitch, dip := true, vmainBad := false } }

/-- PF_RIDE (R87, R101, R106): the dip is counted as ridden through, in the register and in the vault; HOLDOK and the AO source follow their
supplies again. -/
def Effect.pfRide : Prop := ∀ (s : State) (hold vmain : Bool), s.pod = false → s.pwr.pf = .deglitch →
  ∃ t, exec (.pfRide hold vmain) s = .next t ∧ t.on PWR_STAT.PFLOW = false ∧ t.pwr.pf = .none ∧ t.pwr.dip = false
    ∧ t.get PWR_PF.RIDES = min 255 (s.get PWR_PF.RIDES + 1) ∧ t.evt = (s.raise Ev.PF_RIDE).evt
    ∧ t.on PWR_STAT.HOLDOK = hold ∧ t.on PWR_STAT.AOSRC = !vmain
    ∧ s.onlyFields t [PWR_STAT.PFLOW, PWR_PF.RIDES, PWR_STAT.HOLDOK, PWR_STAT.AOSRC]
    ∧ (∀ b, (b < 16 ∨ 24 ≤ b) → Memory.byte t.vault b = Memory.byte s.vault b)
    ∧ t = { s with regs := t.regs, vault := t.vault, evt := t.evt, pwr := { s.pwr with pf := .none, dip := false, vmainBad := !vmain } }

/-- PF_DECLARED (R102): the load is shed and the store of every dirty page begins. -/
def Effect.pfDeclared : Prop := ∀ s : State, s.pwr.pf = .deglitch → s.umb.frozen = false →
  ∃ t, exec .pfDeclared s = .next t ∧ t.pwr.pf = .storing ∧ t.pwr.request = none ∧ t.pwr.dozeEntry = false
    ∧ t.pins.dRole = .floating ∧ t.pins.dOut = none ∧ t.fab.waiting = [] ∧ t.fir.cur = none
    ∧ (∃ r, t.sto.run = some r ∧ r.region = 16 ∧ r.count = 0) ∧ t.time = s.time ∧ t.pending = s.pending

/-- PF_DECLARED during a reset store (R165): the store goes on with the pages still dirty. -/
def Effect.pfDeclaredInResetStore : Prop := ∀ s : State, s.pwr.pf = .resetStore → s.pwr.dip = true → s.umb.frozen = false →
  ∃ t, exec .pfDeclared s = .next t ∧ t.pwr.pf = .storing ∧ t.get PWR_PF.PFS = min 255 (s.get PWR_PF.PFS + 1)
    ∧ t.evt = (s.raise Ev.PF_DECLARED).evt ∧ s.onlyFields t [PWR_PF.PFS]
    ∧ t = { s with regs := t.regs, vault := t.vault, evt := t.evt, pwr := { s.pwr with pf := .storing, storeCut := false } }

/-- HOLD_FLOOR (R103). -/
def Effect.holdFloor : Prop := ∀ s : State, s.pwr.pf = .storing → s.storesOn = true →
  ∃ t, exec .holdFloor s = .next t ∧ t = { s with pwr := { s.pwr with storeCut := true, pfCut := true } }

/-- PF_STORE_END (R102): the record is written, AO moves to VBAT and the chip enters Vault. -/
def Effect.pfStoreEnd : Prop := ∀ (s : State) (r : StoreRun), s.pwr.pf = .storing → s.sto.run = some r → r.todo = [] → r.count < 1024 →
  ∃ t, exec .pfStoreEnd s = .next t ∧ t.mode = .vault ∧ t.pwr.pf = .none ∧ t.pwr.pfVault = true ∧ t.get PWR_PF.PAGES = r.count
    ∧ t.on PWR_STAT.AOSRC = true ∧ t.on PWR_STAT.HOLDOK = false ∧ s.onlyFields t [PWR_PF.PAGES, PWR_STAT.AOSRC, PWR_STAT.HOLDOK]
    ∧ t = { s with regs := t.regs, vault := t.vault, mode := .vault, pwr := t.pwr, sto := { s.sto with run := none } }

/-- MAINS_BACK (R104): in a Vault entered by a power failure a warm start begins, and is held. -/
def Effect.mainsBack : Prop := ∀ s : State, s.regsWf = true → s.pod = false → s.mode = .vault → s.pwr.pfVault = true → s.on SEA_STAT.SESSION = false →
  ∃ t, exec .mainsBack s = .next t ∧ t.mode = .reset ∧ t.pwr.holdWarm = true ∧ t.on PWR_STAT.PFLOW = false
    ∧ t.get PWR_WCAUSE.CAUSES = 64 ∧ t.raised Ev.MAINS_BACK ∧ t.vault = s.vault ∧ t.sto.array = s.sto.array ∧ t.time = s.time
    ∧ t.pending = s.pending

/-- HOLDOK_REACHED (R106). -/
def Effect.holdokReached : Prop := ∀ s : State, s.pwr.dip = false →
  ∃ t, exec .holdokReached s = .next t ∧ t.on PWR_STAT.HOLDOK = true ∧ s.onlyFields t [PWR_STAT.HOLDOK] ∧ t = { s with regs := t.regs }

/-- HOLD_FAULT (R106): the hub starts anyway, and the next start reports it. -/
def Effect.holdFault : Prop := ∀ s : State, s.pod = false → s.mode = .reset → s.on PWR_STAT.HOLDOK = false → s.pwr.holdWarm = false →
  ∃ t, exec .holdFault s = .next t ∧ t = { s with pwr := { s.pwr with holdFault := true } }

/-- VBAT_NEW_CELL (R104): a pod that VBAT sent into Vault wakes. -/
def Effect.vbatNewCell : Prop := ∀ s : State, s.regsWf = true → s.pod = true → s.mode = .vault → s.pwr.pfVault = true → s.pwr.pfVbat = true →
    s.on SEA_STAT.SESSION = false →
  ∃ t, exec .vbatNewCell s = .next t ∧ t.mode = .reset ∧ t.on PWR_STAT.BATEND = false ∧ t.get PWR_WCAUSE.CAUSES = 128
    ∧ t.vault = s.vault ∧ t.sto.array = s.sto.array ∧ t.time = s.time ∧ t.pending = s.pending

/-- DOZE_REQUEST (R98): accepted, and it begins or waits for the chip to be idle. -/
def Effect.dozeRequest : Prop := ∀ s : State, s.twillRuns = true → s.pwr.pf ≠ .storing →
  ∃ t, exec .dozeRequest s = .next t ∧ t.get PWR_REQ.RESULT = 1 ∧ (t.pwr.dozeEntry = true ∨ t.pwr.request = some .doze)
    ∧ t = { s with regs := t.regs, evt := t.evt, bypass := t.bypass, pwr := t.pwr, lop := t.lop, loc := t.loc }

/-- LISTEN_REQUEST (R98): in a pod without an enabled metering point. -/
def Effect.listenRequest : Prop := ∀ s : State, s.twillRuns = true → s.pwr.pf ≠ .storing → s.pod = true → s.on (FLO_CFG.EN 0) = false →
  ∃ t, exec .listenRequest s = .next t ∧ t.get PWR_REQ.RESULT = 1 ∧ t.pwr.request = some .listen
    ∧ s.onlyFields t [PWR_REQ.RESULT, STO_STAT.PENDING] ∧ t = { s with regs := t.regs, pwr := t.pwr }

/-- LISTEN_REQUEST (R98): refused in the Hub profile. -/
def Effect.listenRefused : Prop := ∀ s : State, s.twillRuns = true → s.pwr.pf ≠ .storing → s.pod = false →
  ∃ t, exec .listenRequest s = .next t ∧ t.get PWR_REQ.RESULT = 2 ∧ t.evt = (s.raise Ev.MODE_REFUSED).evt
    ∧ s.onlyFields t [PWR_REQ.RESULT] ∧ t = { s with regs := t.regs, evt := t.evt }

/-- VAULT_REQUEST (R98): with no metering point enabled. -/
def Effect.vaultRequest : Prop := ∀ s : State, s.twillRuns = true → s.pwr.pf ≠ .storing → (∀ i, i < 4 → s.on (FLO_CFG.EN i) = false) →
  ∃ t, exec .vaultRequest s = .next t ∧ t.get PWR_REQ.RESULT = 1 ∧ t.pwr.request = some .vault
    ∧ s.onlyFields t [PWR_REQ.RESULT, STO_STAT.PENDING] ∧ t = { s with regs := t.regs, pwr := t.pwr }

/-- MODE_STORE_DONE (R401): the mode asked for is entered. -/
def Effect.modeStoreDone : Prop := ∀ (s : State) (m : Mode), s.pwr.request = some m → s.pwr.dozeEntry = true → s.sto.run = none →
    s.get STO_STAT.PENDING = 0 → s.mode = .run → s.shed = false → s.umb.frozen = false →
  ∃ t, exec .modeStoreDone s = .next t ∧ t.mode = m ∧ t.pwr.request = none ∧ t.pwr.dozeEntry = false ∧ t.fir.cur = none
    ∧ t.on SYS_BYPASS.CLOSED = true ∧ t.on LOC_DSTAT.ON = false ∧ t.pins.dRole = .floating
    ∧ t = { s with regs := t.regs, evt := t.evt, mode := m, bypass := t.bypass, pwr := t.pwr, pins := t.pins, fir := t.fir, arv := t.arv,
                   stg := t.stg, lop := t.lop, loc := t.loc }

/-- AUTO_DOZE (R93): Doze entry begins. -/
def Effect.autoDoze : Prop := ∀ (s : State) (other : Bool), s.on PWR_CFG.FLOOR = true → s.idleNow = true → s.workWithin 2000 other = false →
    s.pwr.request = none →
  ∃ t, exec (.autoDoze other) s = .next t ∧ t.pwr.dozeEntry = true ∧ t.on SYS_BYPASS.CLOSED = true
    ∧ t = { s with regs := t.regs, evt := t.evt, bypass := t.bypass, pwr := t.pwr, lop := t.lop, loc := t.loc }

/-- How the chip leaves Doze for the wake source `b` (R94, R95): Run, the source alone in PWR_WCAUSE, and Calico unchanged but for the banks not
retained. -/
def State.leftDoze (s t : State) (b : Nat) : Prop :=
  t.mode = .run ∧ t.get PWR_WCAUSE.CAUSES = 2 ^ b ∧ s.onlyFields t [PWR_WCAUSE.CAUSES]
    ∧ (∀ a, (∀ j < 4, (s.get PWR_BANK.RET).testBit j = false → a / 0x40000 ≠ j + 2) → Memory.byte t.calico a = Memory.byte s.calico a)
    ∧ t = { s with regs := t.regs, calico := t.calico, mode := .run, fab := t.fab, pins := t.pins }

/-- SCHEDULED_WAKE (R94), 450 µs before the work. -/
def Effect.scheduledWake : Prop := ∀ (s : State) (other : Bool), s.mode = .doze → s.pwr.dozeEntry = false → s.workWithin 450 other = true →
  ∃ t, exec (.scheduledWake other) s = .next t ∧ s.leftDoze t 5

/-- SCHEDULED_WAKE during a Doze entry of its own (R113): the entry is abandoned. -/
def Effect.scheduledWakeAbandons : Prop := ∀ (s : State) (other : Bool), s.mode = .run → s.pwr.dozeEntry = true → s.pwr.request = none →
    s.warmStarting = false → s.workWithin 450 other = true →
  ∃ t, exec (.scheduledWake other) s = .next t ∧ t.get PWR_WCAUSE.CAUSES = 32 ∧ s.onlyFields t [PWR_WCAUSE.CAUSES]
    ∧ t = { s with regs := t.regs, pwr := { s.pwr with dozeEntry := false } }

/-- RTC_ALARM (R96): the RTC reaches PWR_ALARM, which lay ahead when Doze was entered, with the source enabled. -/
def Effect.rtcAlarm : Prop := ∀ s : State, s.mode = .doze → (s.rd PWR_WAKE.addr).getLsbD 0 = true → s.alarm ≠ 0 → s.time.rtc.toNat = s.alarm →
    s.time.presc = 0 → s.pwr.enteredAt < s.alarm →
  ∃ t, exec .rtcAlarm s = .next t ∧ s.leftDoze t 0

/-- HOST_WAKE (R114) with the source enabled. -/
def Effect.hostWake : Prop := ∀ s : State, s.mode = .doze → (s.rd PWR_WAKE.addr).getLsbD 2 = true → s.pins.vioHBad = false →
  ∃ t, exec .hostWake s = .next t ∧ s.leftDoze t 2

/-- WARM_START (R94, R96, R116, R148): from a Vault or Listen that was asked for, by ALARM as the RTC reaches it, BTN, HOST or OPT where enabled, FRZ or
VSW; HOST and FRZ with VIO_H good. The vault, the arrays and the time base stay. -/
def Effect.warmStart : Prop := ∀ (s : State) (b : Fin 10), (s.mode = .vault ∨ s.mode = .listen) → s.pwr.pfVault = false →
    ([0, 1, 2, 4].contains b.val && (s.rd PWR_WAKE.addr).getLsbD b.val || [8, 9].contains b.val) = true →
    (b = 0 → s.alarm ≠ 0 ∧ s.time.rtc.toNat = s.alarm ∧ s.time.presc = 0 ∧ s.pwr.enteredAt < s.alarm) →
    (b = 2 ∨ b = 8 → s.pins.vioHBad = false) → s.on SEA_STAT.SESSION = false →
  ∃ t, exec (.warmStart b) s = .next t ∧ t.mode = .reset ∧ t.get PWR_WCAUSE.CAUSES = 2 ^ b.val ∧ t.boot.steps = 0
    ∧ t.vault = s.vault ∧ t.sto.array = s.sto.array ∧ t.time = s.time ∧ t.pending = s.pending

/-! ### Reset and start-up (chapter 05) -/

/-- POWER_ON_RESET (R148): the internal reset is asserted, and a power-on start is recorded. The arrays, the logs and the vault stay. -/
def Effect.powerOnReset : Prop := ∀ (s : State) (sup : Supplies), s.pwr.pf ≠ .storing → s.on SEA_STAT.SESSION = false →
  ∃ t, exec (.powerOnReset sup) s = .next t ∧ t.mode = .reset ∧ t.pwr.sources.testBit 0 = true ∧ t.pwr.presample = none ∧ t.boot.steps = 0
    ∧ t.calico = [] ∧ t.sto.sram = [] ∧ t.vault = s.vault ∧ t.sto.array = s.sto.array ∧ t.evt.legalLog = s.evt.legalLog
    ∧ t.evt.openLog = s.evt.openLog ∧ t.time = s.time ∧ t.pending = s.pending

/-- STRAP_PRESAMPLE (R649): the majority of three samples of D0, taken once VIO_H is good. -/
def Effect.strapPresample : Prop := ∀ (s : State) (x : BitVec 3), s.mode = .reset → s.pwr.sources.testBit 0 = true → s.pwr.aoReset = false →
  ∃ t, exec (.strapPresample x) s = .next t ∧ t.on PWR_STAT.VIOHOK = true ∧ s.onlyFields t [PWR_STAT.VIOHOK]
    ∧ t = { s with regs := t.regs, pwr := { s.pwr with
        presample := some (decide (2 ≤ (x.getLsbD 0).toNat + (x.getLsbD 1).toNat + (x.getLsbD 2).toNat)) } }

/-- PIN_RESET in Run (R150, R151): the drivers of the host bus stop, the source is recorded, and the reset store runs or, with nothing to store, the
internal reset is asserted. -/
def Effect.pinReset : Prop := ∀ s : State, s.mode = .run → s.pwr.pf = .none → s.umb.frozen = false →
  ∃ t, exec .pinReset s = .next t ∧ t.pins.dRole = .floating ∧ t.pins.dOut = none ∧ t.pwr.sources.testBit 1 = true
    ∧ (t.pwr.pf = .resetStore ∨ t.mode = .reset) ∧ t.time = s.time ∧ t.pending = s.pending

/-- PIN_RESET in Vault or Listen (R148): nothing is dirty, and the internal reset is asserted. -/
def Effect.pinResetAsleep : Prop := ∀ s : State, (s.mode = .vault ∨ s.mode = .listen) → s.pwr.pf ≠ .storing → s.on SEA_STAT.SESSION = false →
  ∃ t, exec .pinReset s = .next t ∧ t.mode = .reset ∧ t.pwr.sources.testBit 1 = true ∧ t.boot.steps = 0 ∧ t.vault = s.vault
    ∧ t.sto.array = s.sto.array ∧ t.time = s.time ∧ t.pending = s.pending

/-- SOFTWARE_START in Run (R148, R151). -/
def Effect.softwareStart : Prop := ∀ s : State, s.twillRuns = true → s.pwr.pf = .none →
  ∃ t, exec .softwareStart s = .next t ∧ t.pins.dRole = .floating ∧ t.pwr.sources.testBit 2 = true
    ∧ (t.pwr.pf = .resetStore ∨ t.mode = .reset) ∧ t.time = s.time ∧ t.pending = s.pending

/-- RSTORE_CUT (R151). -/
def Effect.rstoreCut : Prop := ∀ s : State, s.pwr.pf = .resetStore → s.storesOn = true →
  ∃ t, exec .rstoreCut s = .next t ∧ t = { s with pwr := { s.pwr with storeCut := true, rstoreCut := true } }

/-- INTERNAL_RESET_RELEASE of a warm start (R117, R148, R149, R152): with its supplies good, Run begins at step 1 and the cause is reported. -/
def Effect.internalResetRelease : Prop := ∀ (s : State) (sup : Supplies) (a b c : BitVec 4), s.mode = .reset → s.pwr.sources = 8 →
    suppliesGood sup s.pod = true → s.holdReady s.pod = true →
  ∃ t, exec (.internalResetRelease sup a b c) s = .next t ∧ t.mode = .run ∧ t.boot.steps = 2 ∧ t.get SYS_RCAUSE.CAUSE = 4
    ∧ t.get SYS_RCAUSE.SEEN = 8 ∧ t.pwr.sources = 0 ∧ t.pwr.pfVault = false ∧ t.calico = s.calico ∧ t.sto.array = s.sto.array
    ∧ t.pending = s.pending

/-- INTERNAL_RESET_RELEASE of a power-on start (R58, R152, R649): three equal samples of D[3:0] with the profile of the pre-sample set the straps. -/
def Effect.internalResetReleaseStraps : Prop := ∀ (s : State) (sup : Supplies) (a : BitVec 4), s.regsWf = true → s.mode = .reset →
    s.pwr.sources = 1 → s.pwr.presample = some (a.getLsbD 0) → suppliesGood sup (a.getLsbD 0) = true → s.holdReady (a.getLsbD 0) = true →
  ∃ t, exec (.internalResetRelease sup a a a) s = .next t ∧ t.mode = .run ∧ t.boot.steps = 2 ∧ t.get SYS_RCAUSE.CAUSE = 1
    ∧ t.rd SYS_STRAP.addr = BitVec.ofNat 32 a.toNat ∧ t.pwr.sources = 0 ∧ t.calico = s.calico ∧ t.pending = s.pending

/-- OSCILLATORS_UP (R144, R153): step 2 is reached, and CLK_STAT shows the clocks of the profile. -/
def Effect.oscillatorsUp : Prop := ∀ (s : State) (lfxo : Bool), s.awaitsStep2 = true → s.sto.remapCrc ≠ 0 →
  ∃ t, exec (.oscillatorsUp lfxo) s = .next t ∧ t.boot.steps = s.boot.steps ||| 4 ∧ t.on CLK_STAT.HFXOOK = true ∧ t.on CLK_STAT.SPLLOK = true
    ∧ t.on CLK_STAT.LFXOOK = lfxo ∧ t.on CLK_STAT.RTCSRC = !lfxo ∧ t.on CLK_STAT.LPOOK = true
    ∧ t.get CLK_STAT.EPLLOK = (if s.pod then 1 else 15)
    ∧ s.onlyFields t [CLK_STAT.HFXOOK, CLK_STAT.SPLLOK, CLK_STAT.LFXOOK, CLK_STAT.RTCSRC, CLK_STAT.LPOOK, CLK_STAT.EPLLOK, CLK_STAT.TDCOK,
        SYS_BOOT.PHASE]
    ∧ t = { s with regs := t.regs, vault := t.vault, boot := t.boot, sto := t.sto }

/-- OSCILLATORS_UP (R422): with both copies of the remap table bad, the identity mapping is taken, no spare taken is free again, and every
region that a used spare's metadata names is exhausted, with REGION_END. -/
def Effect.remapLost : Prop := ∀ (s : State) (lfxo : Bool), s.awaitsStep2 = true → s.sto.remapCrc = 0 →
  ∃ t, exec (.oscillatorsUp lfxo) s = .next t ∧ t.sto.remap = [] ∧ t.sto.remapCrc = 3
    ∧ t.sto.sealedUsed = s.sto.sealedUsed ∧ t.sto.openUsed = s.sto.openUsed
    ∧ (∀ n < 16, (n ∈ t.sto.exhausted ↔ ∃ k < 32, (s.pageMeta (512 + k)).stored = true ∧ pageRegion (s.pageMeta (512 + k)).page = n))
    ∧ (∀ n ∈ t.sto.exhausted, t.raised (Ev.REGION_END n) ∧ t.on (STO_REG_STAT.END n) = true)

/-- HFXO_START_TIMEOUT (R145): 2 ms after the release the start goes on from the SRO, with no engine's PLL. -/
def Effect.hfxoStartTimeout : Prop := ∀ (s : State) (lfxo : Bool), s.awaitsStep2 = true → 2000 ≤ cycUs (s.time.cyc - s.boot.released) →
  ∃ t, exec (.hfxoStartTimeout lfxo) s = .next t ∧ t.boot.steps = s.boot.steps ||| 4 ∧ t.on CLK_STAT.SYSSRC = true ∧ t.raised Ev.HFXO_FAIL
    ∧ t.get CLK_STAT.EPLLOK = 0
    ∧ t.mode = s.mode ∧ t.time = s.time ∧ t.calico = s.calico ∧ t.pending = s.pending

/-- HOST_READY (R63, R153, R575): step 3 is reached, D[15:0] become the host bus that the strap names once CS_N has been high, and the open log goes on
after its newest entry. -/
def Effect.hostReady : Prop := ∀ (s : State) (high : Bool), s.mode = .run → s.umb.frozen = false → s.shed = false →
    s.boot.steps.testBit 2 = true → s.boot.steps.testBit 3 = false → s.pins.vioHBad = false → s.pins.resetLow = false →
  ∃ t, exec (.hostReady high) s = .next t ∧ t.boot.steps = s.boot.steps ||| 8
    ∧ (high = true → t.pins.dRole = (if t.on SYS_STRAP.HOSTMODE then .serial else .parallel)) ∧ t.sto.array = s.sto.array
    ∧ t.evt.openSeq = (if t.get LOG_OSTAT.NEWEST = 0xFFFFFFFF then 1 else t.get LOG_OSTAT.NEWEST + 1)
    ∧ t = { s with regs := t.regs, evt := t.evt, pins := { s.pins with csHigh := high, dRole := t.pins.dRole }, boot := t.boot, sto := t.sto,
                   stg := t.stg, bil := t.bil, arv := t.arv, sec := t.sec }

/-- METER_READY (R160, R162): step 4 is reached and METER_READY is raised; the first epoch does not begin within the 1 ms that follows. -/
def Effect.meterReady : Prop := ∀ s : State, s.mode = .run → s.umb.frozen = false → s.shed = false → s.coreUp 0 = true →
    s.boot.steps.testBit 3 = true → s.boot.legalLoaded = false →
  ∃ t, exec (.meterReady true) s = .next t ∧ t.boot.steps.testBit 4 = true ∧ t.raised Ev.METER_READY ∧ t.raised Ev.START
    ∧ t.boot.lostSets = 0 ∧ t.sto.array = s.sto.array ∧ t.pending = s.pending

/-- APC_RUNNING (R153): step 5 is reached. -/
def Effect.apcRunning : Prop := ∀ s : State, s.started = true → s.boot.steps.testBit 5 = false →
  ∃ t, exec .apcRunning s = .next t ∧ t.boot.steps = s.boot.steps ||| 32 ∧ t.sto.array = s.sto.array
    ∧ t = { s with regs := t.regs, calico := t.calico, free := t.free, fab := t.fab, evt := t.evt, boot := t.boot, sto := t.sto, loc := t.loc }

/-- NWC_RUNNING (R153, R508): step 6 is reached. -/
def Effect.nwcRunning : Prop := ∀ s : State, s.started = true → s.boot.steps.testBit 5 = true → s.boot.steps.testBit 6 = false →
  ∃ t, exec .nwcRunning s = .next t ∧ t.boot.steps = s.boot.steps ||| 64 ∧ t.sto.array = s.sto.array
    ∧ t = { s with regs := t.regs, vault := t.vault, evt := t.evt, bypass := t.bypass, boot := t.boot, sto := t.sto, sec := t.sec,
                   rad := t.rad, lop := t.lop }

/-- SETTLED_PAGE_RECALL (R159): the first page not yet recalled is recalled, and no other. -/
def Effect.settledPageRecall : Prop := ∀ (s : State) (p : Nat) (ps : List Nat), s.boot.unrecalled = p :: ps → s.started = true → s.sto.work = [] →
  ∃ t, exec (.settledPageRecall none) s = .next t ∧ (∀ q, q ∈ t.boot.unrecalled ↔ (q ∈ s.boot.unrecalled ∧ q ≠ p))
    ∧ t.sto.array = s.sto.array ∧ t = { s with regs := t.regs, evt := t.evt, boot := t.boot, sto := t.sto }

/-- RECALL_SETTLED (R153): step 9. -/
def Effect.recallSettled : Prop := ∀ s : State, s.started = true → s.boot.unrecalled = [] → s.boot.steps.testBit 9 = false →
  ∃ t, exec .recallSettled s = .next t ∧ t.boot.steps = s.boot.steps ||| 512 ∧ t.evt = (s.raise Ev.RECALL_SETTLED).evt
    ∧ s.onlyFields t [SYS_BOOT.PHASE] ∧ t = { s with regs := t.regs, evt := t.evt, boot := { s.boot with steps := t.boot.steps } }

/-! ### The freeze and the read-out (chapter 13), and the loop by-pass (chapters 02 and 18) -/

/-- FRZ_N_FALL (R65): in Run the deglitch starts. -/
def Effect.frzNFall : Prop := ∀ s : State, s.mode = .run → s.pins.vioHBad = false → s.shed = false → s.umb.frozen = false →
    s.warmStarting = false → s.pwr.dozeEntry = false →
  ∃ t, exec (.frzNFall true) s = .next t ∧ t = { s with pins := { s.pins with frzFalling := true } }

/-- FRZ_N_FALL (R65, R112): ignored and counted while a power-fail sequence or a reset store runs. -/
def Effect.frzNFallIgnored : Prop := ∀ (s : State) (high : Bool), s.pins.vioHBad = false → s.shed = true →
  ∃ t, exec (.frzNFall high) s = .next t ∧ t.get UMB_STAT.IGNORED = min 255 (s.get UMB_STAT.IGNORED + 1)
    ∧ t.evt = (s.raise Ev.FRZ_IGNORED).evt ∧ s.onlyFields t [UMB_STAT.IGNORED] ∧ t = { s with regs := t.regs, evt := t.evt }

/-- FREEZE_ACCEPT (R365): the chip is frozen, WAIT_N is released, the span counter starts at 0 and the RTC at acceptance is kept; what the front ends had
under way ends. Calico, the store's array and the time base stay. -/
def Effect.freezeAccept : Prop := ∀ (s : State) (programming receiving loopIn : Bool) (cut : Option (BitVec 6)) (stood : Bool),
    s.pins.frzFalling = true → s.mode = .run → s.umb.frozen = false → s.shed = false → s.pins.vioHBad = false → s.umb.due = none →
  ∃ t, exec (.freezeAccept programming receiving loopIn cut stood) s = .next t ∧ t.umb.frozen = true ∧ t.umb.span = 0
    ∧ t.umb.entry = s.time.rtc.toNat ∧ t.umb.ready = false ∧ t.pins.waitLow = false ∧ t.pins.dOut = none ∧ t.pins.frzFalling = false
    ∧ t.pls.rx = none ∧ t.rad.active = none ∧ t.calico = s.calico ∧ t.sto.array = s.sto.array ∧ t.time = s.time ∧ t.mode = s.mode
    ∧ t.pwr = s.pwr ∧ t.pending = s.pending

/-- IMAGE_READY (R366): the image stands ready with its CRC. -/
def Effect.imageReady : Prop := ∀ s : State, s.umb.frozen = true → s.umb.ready = false → s.umb.programming = false →
  ∃ t, exec .imageReady s = .next t ∧ t.umb.ready = true ∧ t.umb.image = s.umbraImage ∧ t.umb.crc.isSome = true ∧ t.umb.pos = s.umb.pos
    ∧ t = { s with free := t.free, umb := { s.umb with ready := true, image := t.umb.image, crc := t.umb.crc, programming := false } }

/-- UMBRA_PORT_ENABLE (R56, R65): D[15:0] become the Umbra port; they are driven from the first fall of CS_N on. -/
def Effect.umbraPortEnable : Prop := ∀ (s : State) (falls : Bool), s.umb.frozen = true → s.pins.vioHBad = false → s.pins.resetLow = false → s.shed = false →
  ∃ t, exec (.umbraPortEnable falls) s = .next t ∧ t.pins.dRole = .umbra
    ∧ (falls = false → t.pins.dOut = none)
    ∧ (falls = true → s.umb.ready = true → s.umb.stopped = false → s.pins.frzRising = false → t.pins.dOut = some s.umbraWord)
    ∧ t = { s with umb := { s.umb with port := true }, pins := t.pins }

/-- UMBRA_ADVANCE (R56, R375): the next word of the image is driven, until CS_N rises. -/
def Effect.umbraAdvance : Prop := ∀ (s : State) (fell rises : Bool), s.readOutRuns = true → s.umb.pos < 98303 → (s.pins.awaitFall = true → fell = true) →
  ∃ t, exec (.umbraAdvance fell rises) s = .next t
    ∧ t = { s with umb := { s.umb with pos := s.umb.pos + 1 },
                   pins := { s.pins with awaitFall := false, csHigh := rises,
                                         dOut := if rises then none else some (s.umb.image.getD (s.umb.pos + 1) 0) } }

/-- UMBRA_ADVANCE (R376, R377): the edge after the last word completes the read-out, and drives 0xFFFF. -/
def Effect.umbraAdvanceEnds : Prop := ∀ (s : State) (fell : Bool), s.readOutRuns = true → s.umb.pos = 98303 → s.pins.awaitFall = false →
  ∃ t, exec (.umbraAdvance fell false) s = .next t
    ∧ t = { s with umb := { s.umb with pos := 98304, complete := true }, pins := { s.pins with csHigh := false, dOut := some 0xFFFF } }

/-- UMBRA_ADVANCE within a resume deglitch (R66): the edge waits for its outcome, and nothing is driven. -/
def Effect.umbraAdvanceHeld : Prop := ∀ (s : State) (fell : Bool), s.readOutServes = true → s.pins.frzRising = true →
  ∃ t, exec (.umbraAdvance fell false) s = .next t
    ∧ t = { s with umb := { s.umb with held := s.umb.held ++ [false] },
                   pins := { s.pins with csHigh := false, awaitFall := s.pins.awaitFall && !fell } }

/-- UMBRA_REWIND (R378). -/
def Effect.umbraRewind : Prop := ∀ (s : State) (rises : Bool), s.readOutRuns = true →
  ∃ t, exec (.umbraRewind rises) s = .next t
    ∧ t = { s with umb := { s.umb with pos := 0, complete := false, past := false },
                   pins := { s.pins with csHigh := rises, awaitFall := false, dOut := if rises then none else some (s.umb.image.getD 0 0) } }

/-- FRZ_N_RISE (R66): in a freeze the drivers of D[15:0] stop, until CS_N falls again, and the resume deglitch starts. -/
def Effect.frzNRise : Prop := ∀ s : State, s.pins.vioHBad = false → s.umb.frozen = true →
  ∃ t, exec .frzNRise s = .next t
    ∧ t = { s with pins := { s.pins with frzFalling := false, frzRising := true, awaitFall := true, dOut := none } }

/-- FRZ_N_RISE (R74): a low shorter than its deglitch is ignored, in Run and after a wake by it. -/
def Effect.frzNRiseIgnored : Prop := ∀ s : State, s.pins.vioHBad = false → s.umb.frozen = false →
  ∃ t, exec .frzNRise s = .next t
    ∧ t = { s with pins := { s.pins with frzFalling := false, frzRising := false }, umb := { s.umb with dozeWake := false } }

/-- What the end of a freeze leaves (R379, R382): the freeze is over, the RTC has advanced by the span and holds at its end, and no request of the host
waits. -/
def State.freezeEnded (s t : State) : Prop :=
  t.umb.frozen = false ∧ t.time.rtc = BitVec.ofNat 48 (min 0xFFFFFFFFFFFF (s.time.rtc.toNat + (s.time.presc + s.umb.span) / 32))
    ∧ t.time.presc = (s.time.presc + s.umb.span) % 32 ∧ (∀ r ∈ t.fab.waiting, r.init ≠ 13)
    ∧ t = { s with regs := t.regs, vault := t.vault, free := t.free, time := t.time, fab := t.fab, evt := t.evt, pins := t.pins,
                   bypass := t.bypass, clk := t.clk, fir := t.fir, arv := t.arv, stg := t.stg, con := t.con, pls := t.pls, rad := t.rad,
                   lop := t.lop, loc := t.loc, umb := t.umb }

/-- RESUME_ACCEPT (R382). -/
def Effect.resumeAccept : Prop := ∀ (s : State) (high : Bool), s.umb.frozen = true → s.pins.frzRising = true →
  ∃ t, exec (.resumeAccept high) s = .next t ∧ s.freezeEnded t

/-- SPAN_END (R380): the chip resumes by itself. -/
def Effect.spanEnd : Prop := ∀ (s : State) (high : Bool), s.umb.frozen = true → 0xFFFFFFFF ≤ s.umb.span →
  ∃ t, exec (.spanEnd high) s = .next t ∧ s.freezeEnded t ∧ t.raised Ev.SPAN_END

/-- BYPASS_SWITCH (R71, R526): the switch type opens and the node joins. -/
def Effect.bypassSwitch : Prop := ∀ s : State, s.bypassMayOpen = true → s.bypass.rejoin = false → s.relayType = false →
    s.on SYS_BYPASS.CLOSED = true →
  ∃ t, exec .bypassSwitch s = .next t ∧ t.on SYS_BYPASS.CLOSED = false ∧ t.on LOP_STAT.REPEAT = true ∧ t.bypass.joined = true
    ∧ t.evt = (s.raise Ev.JOINED).evt ∧ s.onlyFields t [SYS_BYPASS.CLOSED, LOP_STAT.REPEAT]
    ∧ t = { s with regs := t.regs, evt := t.evt, bypass := t.bypass, lop := t.lop }

/-- BYPASS_SWITCH (R71, R527): it closes where it may not be open, and a slave loses its station. -/
def Effect.bypassSwitchCloses : Prop := ∀ s : State, s.bypassMayOpen = false → s.on SYS_BYPASS.CLOSED = false →
  ∃ t, exec .bypassSwitch s = .next t ∧ t.on SYS_BYPASS.CLOSED = true ∧ t.on LOP_STAT.REPEAT = false ∧ t.on LOP_STAT.RING = false
    ∧ t.get LOP_STAT.STATION = 0 ∧ t.bypass.joined = false ∧ t.evt = (s.raise Ev.LEFT).evt
    ∧ s.onlyFields t [SYS_BYPASS.CLOSED, LOP_STAT.REPEAT, LOP_STAT.RING, LOP_STAT.STATION]
    ∧ t = { s with regs := t.regs, evt := t.evt, bypass := t.bypass, lop := t.lop }

/-- BYPASS_SETTLED (R71): the node of the relay type joins once SETTLE, in ms, has run out. -/
def Effect.bypassSettled : Prop := ∀ s : State, s.bypass.settling = true → 1000 * s.get SYS_BYPASS.SETTLE ≤ cycUs (s.time.cyc - s.bypass.since) →
  ∃ t, exec .bypassSettled s = .next t ∧ t.bypass.joined = true ∧ t.bypass.settling = false ∧ t.on LOP_STAT.REPEAT = true
    ∧ t.evt = (s.raise Ev.JOINED).evt ∧ s.onlyFields t [LOP_STAT.REPEAT]
    ∧ t = { s with regs := t.regs, evt := t.evt, bypass := t.bypass, lop := t.lop }

/-- BYPASS_FAULT (R79, R528): a node of the relay type, 1 ms after its join, closes; this is counted, and it waits 60 s, doubled at each further fault up to
3,600 s. -/
def Effect.bypassFault : Prop := ∀ s : State, s.relayType = true → s.bypass.joined = true → s.on SYS_BYPASS.CLOSED = false →
    1000 ≤ cycUs (s.time.cyc - s.bypass.since) →
  ∃ t, exec .bypassFault s = .next t ∧ t.on SYS_BYPASS.CLOSED = true ∧ t.get SYS_BYPASS.FAULTS = min 255 (s.get SYS_BYPASS.FAULTS + 1)
    ∧ t.bypass.joined = false ∧ t.bypass.waiting = some (s.time.aoTick + 1024 * min 3600 (60 * 2 ^ min 6 s.bypass.faults))
    ∧ t.raised Ev.BYPASS_FAULT ∧ t.raised Ev.LEFT
    ∧ s.onlyFields t [SYS_BYPASS.CLOSED, SYS_BYPASS.FAULTS, LOP_STAT.REPEAT, LOP_STAT.RING, LOP_STAT.STATION]
    ∧ t = { s with regs := t.regs, evt := t.evt, bypass := t.bypass, lop := t.lop }

/-- BYPASS_RETRY (R528): once the wait has run out the node tries to join again. -/
def Effect.bypassRetry : Prop := ∀ (s : State) (w : Nat), s.bypass.waiting = some w → w ≤ s.time.aoTick →
  ∃ t, exec .bypassRetry s = .next t ∧ t.bypass.waiting = none
    ∧ (State.bypassMayOpen { s with bypass := { s.bypass with waiting := none } } = true → s.bypass.rejoin = false →
        t.on SYS_BYPASS.CLOSED = false)
    ∧ s.onlyFields t [SYS_BYPASS.CLOSED, LOP_STAT.REPEAT, LOP_STAT.RING, LOP_STAT.STATION]
    ∧ t = { s with regs := t.regs, evt := t.evt, bypass := t.bypass, lop := t.lop }

/-! ### Twill: requests, leases, fences and core restarts (chapters 01 and 22) -/

/-- TWILL_REQUEST (R26, R28): a request that no rule refuses at once waits at its target, under the bounds of its initiator. -/
def Effect.twillRequest : Prop := ∀ (s : State) (i : Fin 14) (a : BitVec 24) (op : BusOp), s.presents i = true → (op = .fetch → i.val ≤ 2) →
    s.refusalAt i a.toNat op = 0 →
  ∃ t, exec (.twillRequest i a op) s = .next t
    ∧ t = { s with fab := { s.fab with waiting := s.fab.waiting ++ [⟨i, accessTarget a.toNat op, a.toNat, op, s.softBound i, s.hardBound i⟩] } }

/-- TWILL_REQUEST (R27, R29): a read refused at once has its code in the outcome and in TWL_LAST, and is counted; nothing waits. -/
def Effect.twillRequestRefused : Prop := ∀ (s : State) (i : Fin 14) (a : BitVec 24), s.presents i = true → s.refusalAt i a.toNat .read ≠ 0 →
  ∃ t, exec (.twillRequest i a .read) s = .next t
    ∧ Sparse.find t.fab.outcome i.val = some ⟨s.refusalAt i a.toNat .read, 0, false⟩
    ∧ t.get (TWL_LAST.CODE i) = s.refusalAt i a.toNat .read
    ∧ t.get (TWL_CNT.REFUSED i) = min (TWL_CNT.REFUSED i).max (s.get (TWL_CNT.REFUSED i) + 1)
    ∧ s.onlyFields t [TWL_CNT.REFUSED i, TWL_LAST.CODE i, TWL_LAST.TARGET i]
    ∧ t = { s with regs := t.regs, evt := t.evt, fab := { s.fab with outcome := t.fab.outcome } }

/-- ACCESS_ACCEPTED (R23, R26): a read of a Calico word without an upset returns the word; the request leaves its target. -/
def Effect.accessAcceptedRead : Prop := ∀ (s : State) (t0 : Fin 20) (waited p : Nat) (r : Req) (ctx : Bool), s.twillRuns = true →
    s.nextGrant t0 = some (r, p) → s.targetBusy t0 = false → (∀ x ∈ s.hst.slots, x.2.req ≠ r) → r.op = .read → busTarget r.addr ≤ 7 →
    waited ≤ r.soft → waited ≤ r.hard → s.fab.eccSingle = [] → s.fab.eccDouble = [] →
  ∃ t, exec (.accessAccepted t0 waited .clean ctx) s = .next t
    ∧ Sparse.find t.fab.outcome r.init = some ⟨0, s.calicoWord (r.addr - calicoBase), false⟩
    ∧ t.fab.waiting = eraseFirst (fun x => x == r) s.fab.waiting
    ∧ Sparse.get (fun _ => 0) t.fab.wheel t0.val = (p + 1) % 20
    ∧ t = { s with fab := { s.fab with waiting := t.fab.waiting, wheel := t.fab.wheel, served := t.fab.served, outcome := t.fab.outcome } }

/-- ACCESS_ACCEPTED (R26): a write of a Calico word replaces the word and no other byte; past the soft bound it is served delayed and counted. -/
def Effect.accessAcceptedWrite : Prop := ∀ (s : State) (t0 : Fin 20) (waited p : Nat) (r : Req) (v : Word) (ctx : Bool), s.twillRuns = true →
    s.nextGrant t0 = some (r, p) → s.targetBusy t0 = false → (∀ x ∈ s.hst.slots, x.2.req ≠ r) → r.op = .write v → r.init < 14 →
    busTarget r.addr ≤ 7 → waited ≤ r.hard →
  ∃ t, exec (.accessAccepted t0 waited .clean ctx) s = .next t
    ∧ Sparse.find t.fab.outcome r.init = some ⟨0, 0, decide (r.soft < waited)⟩
    ∧ t.calicoWord (r.addr - calicoBase) = v
    ∧ (∀ b, (b < 4 * (r.addr - calicoBase) ∨ 4 * (r.addr - calicoBase) + 4 ≤ b) → Memory.byte t.calico b = Memory.byte s.calico b)
    ∧ (r.soft < waited → t.get (TWL_CNT.DELAYED r.init) = min (TWL_CNT.DELAYED r.init).max (s.get (TWL_CNT.DELAYED r.init) + 1))
    ∧ s.onlyFields t [TWL_CNT.DELAYED r.init] ∧ t = { s with regs := t.regs, calico := t.calico, fab := t.fab }

/-- ACCESS_ACCEPTED (R25): a target that holds acceptance, since a page is being programmed or a flush is due, accepts nothing. -/
def Effect.acceptanceHeld : Prop := ∀ (s : State) (t0 : Fin 20) (waited : Nat) (u : Upset) (ctx : Bool), s.targetBusy t0 = true →
    exec (.accessAccepted t0 waited u ctx) s = .next s

/-- HARD_BOUND_EXPIRY (R26, R27): the request is withdrawn and refused with REFUSED_BUSY. -/
def Effect.hardBoundExpiry : Prop := ∀ (s : State) (i : Fin 14) (r : Req) (rest : List Req), s.twillRuns = true → s.fab.waiting = r :: rest →
    r.init = i.val → (∀ x ∈ s.hst.slots, x.2.req ≠ r) →
  ∃ t, exec (.hardBoundExpiry i) s = .next t ∧ t.fab.waiting = rest ∧ Sparse.find t.fab.outcome i.val = some ⟨1, 0, false⟩
    ∧ t.get (TWL_LAST.CODE i) = 1 ∧ t.get (TWL_CNT.REFUSED i) = min (TWL_CNT.REFUSED i).max (s.get (TWL_CNT.REFUSED i) + 1)
    ∧ t.evt = (s.raise Ev.BUSY_REFUSE).evt ∧ s.onlyFields t [TWL_CNT.REFUSED i, TWL_LAST.CODE i, TWL_LAST.TARGET i]
    ∧ t = { s with regs := t.regs, evt := t.evt, fab := { s.fab with waiting := rest, outcome := t.fab.outcome } }

/-- What every lease command needs of its sender (R42, R597, R604): Twill runs, it may send one, it is no halted core, it is not fenced, and the lease
exists in the profile. -/
def State.leaseReady (s : State) (i : Fin 14) (k : Fin 4) : Prop :=
  s.twillRuns = true ∧ sendsLeases i = true ∧ (2 < i.val ∨ s.on (FLT_CORE.HALTED i) = false) ∧ s.fenced i = false ∧ s.leaseOff k = false

/-- What a lease command may change: the lease as its register shows it, and the lease data of Twill. -/
def State.leaseFrame (s t : State) (k : Nat) : Prop :=
  (∀ j, j ≠ k → t.lease j = s.lease j) ∧ s.onlyFields t [TWL_LEASE.HELD k, TWL_LEASE.HOLDER k, TWL_LEASE.QLEN k]
    ∧ t = { s with regs := t.regs, fab := { s.fab with leases := t.fab.leases, result := t.fab.result } }

/-- ACQUIRE (R33): a free lease is granted for its full duration. -/
def Effect.leaseAcquire : Prop := ∀ (s : State) (i : Fin 14) (k : Fin 4), s.leaseReady i k → (s.lease k).holder = none →
  ∃ t, exec (.leaseAcquire i k []) s = .next t ∧ t.lease k = ⟨some i.val, s.runUs + s.leaseDur k, (s.lease k).queue⟩ ∧ t.leaseResult i = 1
    ∧ t.on (TWL_LEASE.HELD k) = true ∧ t.get (TWL_LEASE.HOLDER k) = i.val ∧ s.leaseFrame t k

/-- ACQUIRE (R33): a held lease puts the initiator in its queue, by class and then by arrival. -/
def Effect.leaseAcquireQueued : Prop := ∀ (s : State) (i : Fin 14) (k : Fin 4) (h : Nat), s.leaseReady i k → (s.lease k).holder = some h →
    h ≠ i.val → (s.lease k).queue.contains i.val = false →
  ∃ t, exec (.leaseAcquire i k []) s = .next t ∧ t.leaseResult i = 2 ∧ (t.lease k).holder = some h ∧ (t.lease k).expiry = (s.lease k).expiry
    ∧ (t.lease k).queue = enqueueClass i (s.lease k).queue ∧ s.leaseFrame t k

/-- Two ACQUIREs of a free lease in one cycle (R43): of two initiators of one class the lower number has it, and the other waits, in whichever order
they are named. -/
def Effect.leaseAcquireTogether : Prop := ∀ (s : State) (i j : Fin 14) (k : Fin 4), i < j → s.leaseReady i k → s.leaseReady j k →
    (s.lease k).holder = none → (s.lease k).queue = [] →
  ∃ t, exec (.leaseAcquire i k [⟨j, .acquire⟩]) s = .next t ∧ exec (.leaseAcquire j k [⟨i, .acquire⟩]) s = .next t
    ∧ t.lease k = ⟨some i.val, s.runUs + s.leaseDur k, [j.val]⟩ ∧ t.leaseResult i = 1 ∧ t.leaseResult j = 2 ∧ s.leaseFrame t k

/-- RENEW (R34): by the holder, with nobody in the queue, the lease starts again; with somebody in it the renewal is denied. -/
def Effect.leaseRenew : Prop := ∀ (s : State) (i : Fin 14) (k : Fin 4), s.leaseReady i k → (s.lease k).holder = some i.val →
  ∃ t, exec (.leaseRenew i k []) s = .next t ∧ (t.lease k).holder = some i.val ∧ (t.lease k).queue = (s.lease k).queue
    ∧ ((s.lease k).queue = [] → t.leaseResult i = 1 ∧ (t.lease k).expiry = s.runUs + s.leaseDur k)
    ∧ ((s.lease k).queue ≠ [] → t.leaseResult i = 4 ∧ t.lease k = s.lease k)
    ∧ s.leaseFrame t k

/-- RELEASE (R33, R34): by the holder, the lease passes to the head of its queue, for a full duration, or falls free. -/
def Effect.leaseRelease : Prop := ∀ (s : State) (i : Fin 14) (k : Fin 4), s.leaseReady i k → (s.lease k).holder = some i.val →
  ∃ t, exec (.leaseRelease i k []) s = .next t ∧ (t.lease k).holder = (s.lease k).queue.head? ∧ (t.lease k).queue = (s.lease k).queue.drop 1
    ∧ t.leaseResult i = 5 ∧ (∀ j, j ≠ k.val → t.lease j = s.lease j)
    ∧ (k ≠ 0 → s.leaseFrame t k) ∧ t = { s with regs := t.regs, fab := t.fab, evt := t.evt, sto := t.sto }

/-- REVOKE (R35): the lease reaches its expiry; its holder is fenced, with no request left waiting, and its domain reset begins. -/
def Effect.leaseRevoke : Prop := ∀ (s : State) (i : Fin 14) (k : Fin 4), s.twillRuns = true → (s.lease k).holder = some i.val →
    (s.lease k).expiry ≤ s.runUs → (s.lease k).queue = [] →
  ∃ t, exec (.leaseRevoke k []) s = .next t ∧ (t.lease k).holder = none ∧ t.fenced i = true ∧ i.val ∈ t.fab.resets
    ∧ (∀ r ∈ t.fab.waiting, r.init ≠ i.val) ∧ t.raised Ev.REVOKE ∧ t.raised Ev.FENCE_SET
    ∧ t.calico = s.calico ∧ t.vault = s.vault ∧ t.mode = s.mode ∧ t.time = s.time ∧ t.pending = s.pending

/-- REVOKE in the cycle of the holder's RENEW (R44): the RENEW is taken first, and nothing expires. -/
def Effect.leaseRenewedInTime : Prop := ∀ (s : State) (i : Fin 14) (k : Fin 4), s.leaseReady i k → (s.lease k).holder = some i.val →
    (s.lease k).queue = [] → 0 < s.leaseDur k →
  ∃ t, exec (.leaseRevoke k [⟨i, .renew⟩]) s = .next t ∧ t.lease k = ⟨some i.val, s.runUs + s.leaseDur k, []⟩ ∧ t.leaseResult i = 1
    ∧ t.fenced i = false ∧ s.leaseFrame t k

/-- DOMAIN_RESET_END (R599): the fence lifts. -/
def Effect.domainResetEnd : Prop := ∀ (s : State) (i : Fin 14), s.twillRuns = true → s.fab.resets = [i.val] →
  ∃ t, exec (.domainResetEnd i) s = .next t ∧ t.fenced i = false ∧ t.raised Ev.FENCE_CLEAR ∧ t.fab.resets = []
    ∧ (i.val ≠ 13 → s.onlyFields t [TWL_INIT.FENCED i] ∧ t = { s with regs := t.regs, evt := t.evt, fab := { s.fab with resets := [] } })
    ∧ t = { s with regs := t.regs, evt := t.evt, fab := t.fab, hst := t.hst }

/-- TARGET_FLUSH (R598): what the former holder left in the port of CRY, RTX or PTX is gone. -/
def Effect.targetFlush : Prop := ∀ (s : State) (k : Fin 4) (x : Nat) (rest : List Nat), s.twillRuns = true → s.fab.flushes = x :: rest →
    x % 4 = k.val →
  ∃ t, exec (.targetFlush k) s = .next t ∧ t.fab.flushes = rest ∧ t.raised Ev.TARGET_FLUSH
    ∧ (k ≠ 0 → ∀ e ∈ t.fab.ports, e.1 / 2 ^ 24 ≠ k.val + 10)
    ∧ (∀ e ∈ s.fab.ports, e.1 / 2 ^ 24 ≠ k.val + 10 → e ∈ t.fab.ports)
    ∧ (k ≠ 0 → s.onlyFields t [])
    ∧ t = { s with regs := t.regs, evt := t.evt, fab := { s.fab with flushes := rest, ports := t.fab.ports }, sto := t.sto }

/-- CORE_WDG (R600, R603): the core restarts with cause WATCHDOG, and the restart is counted; a core that has restarted eight times in 60 s is halted. -/
def Effect.coreWdg : Prop := ∀ (s : State) (c : Fin 3), s.twillRuns = true → s.coreUp c = true → s.coreStarted c = true →
  ∃ t, exec (.coreWdg c) s = .next t ∧ t.raised (Ev.CORE_WDG c) ∧ t.get (FLT_CORE.LAST c) = 2
    ∧ t.get (FLT_CORE.RESTARTS c) = min (FLT_CORE.RESTARTS c).max (s.get (FLT_CORE.RESTARTS c) + 1)
    ∧ (c.val ∈ t.fab.restarting ∨ t.on (FLT_CORE.HALTED c) = true)
    ∧ t = { s with regs := t.regs, fab := t.fab, evt := t.evt, sto := t.sto, stg := t.stg, sea := t.sea, loc := t.loc }

/-- CORE_RESTART_DONE (R601): the core runs again. -/
def Effect.coreRestartDone : Prop := ∀ (s : State) (c : Fin 3), s.twillRuns = true → s.fab.restarting = [c.val] → s.fenced c = false →
  ∃ t, exec (.coreRestartDone c) s = .next t ∧ t.fab.restarting = [] ∧ t.raised (Ev.CORE_RESTART c)
    ∧ t.mode = s.mode ∧ t.time = s.time ∧ t.sto.array = s.sto.array ∧ t.pending = s.pending

/-! ### Registers (chapters 00 and 04) -/

/-- A register word of deep space with RW or W1C fields alone to write: no command register, no part of a multi-word register, none of the words
with a rule of their own. -/
def plainWord (a : Nat) : Bool :=
  decide (7 < busTarget a) && !isHeldWord a && !isHighWord a && !inCandTable a && !isKeptWo a && decide (woMask a = 0)
    && decide (rwMask a ||| w1cMask a ≠ 0) && a != LOG_OBANK.addr && a != STO_PDATA.addr && a != LOC_SYM.addr
    && !(decide (EVT_HPEND.addr 0 ≤ a) && decide (a ≤ EVT_HPEND.addr 35))

/-- An access of initiator `i` that nothing refuses and that its target grants in the same cycle (R23, R25, R28). -/
def State.granted (s : State) (i : Fin 14) (a : Nat) (op : BusOp) : Prop :=
  s.presents i = true ∧ s.refusalAt i a op = 0 ∧ s.mustWait (accessTarget a op) = false

/-- REGISTER_WRITE at a target that holds acceptance (R25): the request waits there, under the bounds of its initiator. -/
def Effect.registerWriteWaits : Prop := ∀ (s : State) (i : Fin 14) (a : BitVec 24) (waited : Nat) (v : Word), s.presents i = true →
    s.refusalAt i a.toNat (.write v) = 0 → s.mustWait (busTarget a.toNat) = true →
  ∃ t, exec (.registerWrite (.deep i a) waited v) s = .next t
    ∧ t = { s with fab := { s.fab with waiting := s.fab.waiting ++
        [⟨i, busTarget a.toNat, a.toNat, .write v, s.softBound i, s.hardBound i⟩] } }

/-- REGISTER_WRITE over Twill (R5, R9, Table SCO-3): RW fields take the written bits, W1C fields are cleared where a 1 is written, and every other bit
stays. -/
def Effect.registerWrite : Prop := ∀ (s : State) (i : Fin 14) (a : BitVec 24) (waited : Nat) (v : Word), s.granted i a.toNat (.write v) →
    plainWord a.toNat = true →
  ∃ t, exec (.registerWrite (.deep i a) waited v) s = .next t
    ∧ t.rd a.toNat = ((s.rd a.toNat &&& ~~~ rwMask a.toNat) ||| (v &&& rwMask a.toNat)) &&& ~~~ (w1cMask a.toNat &&& v)
    ∧ s.onlyWords t [a.toNat] ∧ Sparse.find t.fab.outcome i.val = some ⟨0, 0, false⟩
    ∧ t = { s with regs := t.regs, fab := { s.fab with outcome := t.fab.outcome } }

/-- RC_READ_COMPLETE over Twill (R7, R175): each field with access code RC is cleared of what the read returned, where the chip has not set it since; the
register's other bits, and every other register, stay. -/
def Effect.rcReadComplete : Prop := ∀ (s : State) (i : Fin 14) (a : BitVec 24) (r since : Word), s.presents i = true →
    s.refusalAt i a.toNat .read = 0 → rcMask a.toNat ≠ 0 → a.toNat ≠ SYS_RSTCNT.addr → a.toNat ≠ PWR_PF.addr →
  ∃ t, exec (.rcReadComplete (.deep i a) r since) s = .next t
    ∧ t.rd a.toNat = (fieldsAt a.toNat).foldl (commitField r since) (s.rd a.toNat)
    ∧ Sparse.find t.fab.outcome i.val = some ⟨0, r, false⟩ ∧ s.onlyWords t [a.toNat]
    ∧ t = { s with regs := t.regs, fab := { s.fab with outcome := t.fab.outcome } }

/-- MULTIWORD_LOW_READ (R132): the read of PWR_ALARM, a register without side effects, latches its higher word for the reader. -/
def Effect.multiwordLowRead : Prop := ∀ (s : State) (i : Fin 14), s.granted i PWR_ALARM.addr .read →
  ∃ t, exec (.multiwordLowRead i (BitVec.ofNat 24 PWR_ALARM.addr)) s = .next t
    ∧ Sparse.find t.fab.latch (latchKey i PWR_ALARM_H.addr) = some (s.liveWord i PWR_ALARM_H.addr)
    ∧ Sparse.find t.fab.outcome i.val = some ⟨0, s.rd PWR_ALARM.addr, false⟩
    ∧ t = { s with fab := { s.fab with latch := t.fab.latch, outcome := t.fab.outcome } }

/-- MULTIWORD_HIGH_WRITE (R133): the write of PWR_ALARM's highest word commits it with the held lower word. -/
def Effect.multiwordHighWrite : Prop := ∀ (s : State) (i : Fin 14) (low v : Word),
    s.granted i PWR_ALARM_H.addr (.write v) → Sparse.find s.fab.held (latchKey i PWR_ALARM.addr) = some low →
  ∃ t, exec (.multiwordHighWrite i (BitVec.ofNat 24 PWR_ALARM_H.addr) v) s = .next t
    ∧ t.alarm = (low.toNat + 2 ^ 32 * v.toNat) % 2 ^ 48 ∧ s.onlyWords t [PWR_ALARM.addr, PWR_ALARM_H.addr]
    ∧ t = { s with regs := t.regs, fab := { s.fab with outcome := t.fab.outcome } }

/-! ### The host bridge (chapter 06) -/

/-- The bridge serves the host and is not fenced (R155, R599). -/
def State.hostReady (s : State) : Prop := s.hostServes = true ∧ s.fenced 13 = false

/-- H_KEY_ARM (R193): the key value arms the key, and another value disarms it. -/
def Effect.hKeyArm : Prop := ∀ (s : State) (v : BitVec 16), s.hostReady →
  ∃ t, exec (.hKeyArm v) s = .next t ∧ t.on H_STAT.ARMED = decide (v = 0x5AC3) ∧ (v = 0x5AC3 → t.hst.armedAt = s.time.runCyc)
    ∧ s.onlyFields t [H_STAT.ARMED] ∧ t = { s with regs := t.regs, hst := { s.hst with armedAt := t.hst.armedAt } }

/-- KEY_TIMEOUT (R193): 1 ms after arming. -/
def Effect.keyTimeout : Prop := ∀ s : State, s.on H_STAT.ARMED = true → s.twillRuns = true →
    1000 ≤ cycUs (s.time.runCyc - s.hst.armedAt) →
  ∃ t, exec .keyTimeout s = .next t ∧ t.on H_STAT.ARMED = false ∧ s.onlyFields t [H_STAT.ARMED] ∧ t = { s with regs := t.regs }

/-- The fields of H_BUSERR that a refused host access writes. -/
def busErr : List Fd := [H_BUSERR.CODE, H_BUSERR.OFFSET, H_BUSERR.SER, H_BUSERR.COUNT]

/-- What a refused host access of register `off` leaves in H_BUSERR (R199). -/
def State.hostRefused (s t : State) (code off : Nat) : Prop :=
  t.get H_BUSERR.CODE = code ∧ t.get H_BUSERR.OFFSET = off ∧ t.get H_BUSERR.COUNT = min 31 (s.get H_BUSERR.COUNT + 1) ∧ t.raised Ev.HOST_REFUSED

/-- WINRST with the key (R193, Table HST-8): the address, the latches, the buffer and the held half of every window are cleared. -/
def Effect.winrst : Prop := ∀ s : State, s.hostReady → s.on H_STAT.ARMED = true →
  ∃ t, exec .winrst s = .next t ∧ t.hst.windows = [] ∧ t.on H_STAT.ARMED = false
    ∧ (∀ n : Fin 3, t.winAddr n = 0 ∧ t.on (W_STAT.BUSY n) = false ∧ t.on (W_STAT.RDY n) = false ∧ t.on (W_STAT.LOHELD n) = false)
    ∧ s.onlyFields t (H_STAT.ARMED :: [0, 1, 2].flatMap (fun n => [W_SEL.ADDRHI n, W_ADDR.ADDR n, W_STAT.BUSY n, W_STAT.RDY n, W_STAT.LOHELD n]))
    ∧ t = { s with regs := t.regs, hst := { s.hst with windows := [] },
                   fab := { s.fab with latch := t.fab.latch, held := t.fab.held } }

/-- MBOXRST with the key (Table HST-8): both FIFOs and the message queue are empty. -/
def Effect.mboxrst : Prop := ∀ s : State, s.hostReady → s.on H_STAT.ARMED = true →
  ∃ t, exec .mboxrst s = .next t ∧ t.mbx = ⟨[], [], 0, []⟩ ∧ t.get H_MBOX_STAT.RXCNT = 0 ∧ t.get H_MBOX_STAT.TXFREE = 64
    ∧ t.on H_MBOX_STAT.RXMSG = false ∧ t.on H_STAT.ARMED = false
    ∧ s.onlyFields t [H_STAT.ARMED, H_MBOX_STAT.RXCNT, H_MBOX_STAT.TXFREE, H_MBOX_STAT.RXMSG, H_STAT.MBRX, H_STAT.MBTXF]
    ∧ t = { s with regs := t.regs, mbx := t.mbx }

/-- WINRST and MBOXRST without the key are refused with KEY and have no effect (R193). -/
def Effect.ctrlNeedsKey : Prop := ∀ (s : State) (c : Instr), c ∈ [Instr.winrst, .mboxrst] → s.hostReady → s.on H_STAT.ARMED = false →
  ∃ t, exec c s = .next t ∧ s.hostRefused t 13 3 ∧ t.raised Ev.KEY_REFUSE
    ∧ s.onlyFields t (H_STAT.ARMED :: busErr) ∧ t = { s with regs := t.regs, evt := t.evt }

/-- WINDOW_SELECT_WRITE of Wn_ADDR (R187): the window addresses another word, and RDY is cleared. -/
def Effect.windowAddress : Prop := ∀ (s : State) (n : Fin 3) (v : BitVec 16), s.hostReady → s.winPrefetches n = false →
  ∃ t, exec (.windowSelectWrite n true v) s = .next t ∧ t.get (W_ADDR.ADDR n) = v.toNat ∧ t.on (W_STAT.RDY n) = false
    ∧ s.onlyFields t [H_STAT.ARMED, W_STAT.RDY n, W_ADDR.ADDR n]
    ∧ t = { s with regs := t.regs, hst := { s.hst with windows := t.hst.windows } }

/-- WINDOW_SELECT_WRITE of Wn_ADDR where prefetch applies (R191): the window begins to read ahead. -/
def Effect.windowPrefetches : Prop := ∀ (s : State) (n : Fin 3) (v : BitVec 16), s.hostReady → s.winPrefetches n = true →
    s.get (W_SEL.SPACE n) ≠ 3 →
  ∃ t, exec (.windowSelectWrite n true v) s = .next t ∧ t.get (W_ADDR.ADDR n) = v.toNat ∧ t.on (W_STAT.RDY n) = false
    ∧ t.on (W_STAT.BUSY n) = true ∧ s.onlyFields t [H_STAT.ARMED, W_STAT.RDY n, W_STAT.BUSY n, W_ADDR.ADDR n]
    ∧ t = { s with regs := t.regs, hst := { s.hst with windows := t.hst.windows } }

/-- WINDOW_SELECT_WRITE of Wn_SEL (Table HST-14). -/
def Effect.windowSelect : Prop := ∀ (s : State) (n : Fin 3) (v : BitVec 16), s.hostReady →
  ∃ t, exec (.windowSelectWrite n false v) s = .next t ∧ t.get (W_SEL.SPACE n) = v.toNat % 4 ∧ t.on (W_SEL.INC n) = v.getLsbD 2
    ∧ t.on (W_SEL.PRE n) = v.getLsbD 3 ∧ t.get (W_SEL.ADDRHI n) = v.toNat / 256 ∧ t.on (W_STAT.RDY n) = false
    ∧ s.onlyFields t [H_STAT.ARMED, W_STAT.RDY n, W_SEL.SPACE n, W_SEL.INC n, W_SEL.PRE n, W_SEL.ADDRHI n]
    ∧ t = { s with regs := t.regs, hst := { s.hst with windows := t.hst.windows } }

/-- PREFETCH_DONE (R191): a word of Calico that is read ahead waits in the window. -/
def Effect.prefetchDone : Prop := ∀ (s : State) (n : Fin 3) (waited : Nat), s.twillRuns = true → s.on (W_STAT.BUSY n) = true →
    (s.win n).stale = false → s.get (W_SEL.SPACE n) = 0 → busTarget (s.winAddr n) ≤ 7 → s.refusalAt 13 (s.winAddr n) .read = 0 →
    s.targetBusy (busTarget (s.winAddr n)) = false → waited ≤ 5 → s.fab.eccSingle = [] → s.fab.eccDouble = [] →
  ∃ t, exec (.prefetchDone n waited .clean) s = .next t ∧ (t.win n).buffer = s.calicoWord (s.winAddr n - calicoBase)
    ∧ t.on (W_STAT.BUSY n) = false ∧ t.on (W_STAT.RDY n) = true ∧ t.get (W_STAT.CODE n) = 0
    ∧ s.onlyFields t [W_STAT.BUSY n, W_STAT.RDY n, W_STAT.CODE n]
    ∧ t = { s with regs := t.regs, hst := { s.hst with windows := t.hst.windows } }

/-- The address of a window after an access: it advances where INC is 1, modulo 2^24 (R190). -/
def State.winNext (s : State) (n : Nat) : Nat := if s.on (W_SEL.INC n) then (s.winAddr n + 1) % 0x1000000 else s.winAddr n

/-- WINDOW_DLO_READ (R188, R190): one access reads a word of Calico; its low half goes to the host, its high half into Wn_DHI. -/
def Effect.windowDloRead : Prop := ∀ (s : State) (n : Fin 3) (waited posted : Nat) (since : Word), s.hostReady → s.winPrefetches n = false →
    s.get (W_SEL.SPACE n) = 0 → busTarget (s.winAddr n) ≤ 7 → s.granted 13 (s.winAddr n) .read →
    waited ≤ 5 → s.fab.eccSingle = [] → s.fab.eccDouble = [] →
  ∃ t, exec (.windowDloRead n waited .clean since true posted) s = .next t
    ∧ (t.win n).high ++ t.hst.data = s.calicoWord (s.winAddr n - calicoBase) ∧ t.get (W_STAT.CODE n) = 0 ∧ t.winAddr n = s.winNext n
    ∧ s.onlyFields t [W_STAT.CODE n, W_SEL.ADDRHI n, W_ADDR.ADDR n]
    ∧ t = { s with regs := t.regs, hst := { s.hst with windows := t.hst.windows, data := t.hst.data } }

/-- WINDOW_DLO_READ at a target that holds acceptance (R25, R177, R184): the access waits in the window's slot, and in the parallel protocol WAIT_N holds
the host. -/
def Effect.windowWaits : Prop := ∀ (s : State) (n : Fin 3) (waited posted : Nat) (u : Upset) (since : Word), s.hostReady →
    s.on SYS_STRAP.HOSTMODE = false → s.winPrefetches n = false → s.get (W_SEL.SPACE n) = 0 → s.refusalAt 13 (s.winAddr n) .read = 0 →
    s.mustWait (busTarget (s.winAddr n)) = true →
  ∃ t, exec (.windowDloRead n waited u since true posted) s = .next t ∧ t.pins.waitLow = true
    ∧ Sparse.find t.hst.slots n.val = some ⟨winOff n 2, false, 0, since, posted,
        ⟨13, busTarget (s.winAddr n), s.winAddr n, .read, 5, 6⟩⟩
    ∧ t = { s with fab := { s.fab with waiting := s.fab.waiting ++ [⟨13, busTarget (s.winAddr n), s.winAddr n, .read, 5, 6⟩] },
                   hst := { s.hst with slots := t.hst.slots }, pins := { s.pins with waitLow := true } }

/-- WINDOW_DLO_READ of a window that reads ahead (R191): the word that waits in it is returned. -/
def Effect.windowBuffered : Prop := ∀ (s : State) (n : Fin 3) (waited posted : Nat) (u : Upset) (since : Word), s.hostReady → s.winPrefetches n = true →
    s.on (W_STAT.RDY n) = true → s.get (W_SEL.SPACE n) = 0 → busTarget (s.winAddr n) ≤ 7 →
  ∃ t, exec (.windowDloRead n waited u since true posted) s = .next t ∧ (t.win n).high ++ t.hst.data = (s.win n).buffer ∧ t.get (W_STAT.CODE n) = 0
    ∧ t.winAddr n = s.winNext n ∧ s.onlyFields t [W_STAT.CODE n, W_STAT.RDY n, W_STAT.BUSY n, W_SEL.ADDRHI n, W_ADDR.ADDR n]
    ∧ t = { s with regs := t.regs, hst := { s.hst with windows := t.hst.windows, data := t.hst.data } }

/-- WINDOW_DLO_READ of a window that reads ahead (R191): while no word waits, the read is refused with NOT_READY. -/
def Effect.windowNotReady : Prop := ∀ (s : State) (n : Fin 3) (waited posted : Nat) (u : Upset) (since : Word), s.hostReady → s.winPrefetches n = true →
    s.on (W_STAT.RDY n) = false →
  ∃ t, exec (.windowDloRead n waited u since true posted) s = .next t ∧ s.hostRefused t 14 (winOff n 2) ∧ t.hst.data = 0
    ∧ s.onlyFields t (W_STAT.CODE n :: busErr) ∧ t = { s with regs := t.regs, evt := t.evt, hst := { s.hst with data := 0 } }

/-- WINDOW_DLO_WRITE (R189): the low half is held. -/
def Effect.windowDloWrite : Prop := ∀ (s : State) (n : Fin 3) (v : BitVec 16), s.hostReady →
  ∃ t, exec (.windowDloWrite n v) s = .next t ∧ (t.win n).low = v ∧ t.on (W_STAT.LOHELD n) = true
    ∧ s.onlyFields t [H_STAT.ARMED, W_STAT.LOHELD n] ∧ t = { s with regs := t.regs, hst := { s.hst with windows := t.hst.windows } }

/-- WINDOW_DHI_WRITE (R189, R190): the held low half and the written half become one word of Calico, and no other byte changes. -/
def Effect.windowDhiWrite : Prop := ∀ (s : State) (n : Fin 3) (waited : Nat) (v : BitVec 16), s.hostReady → s.winPrefetches n = false →
    s.get (W_SEL.SPACE n) = 0 → busTarget (s.winAddr n) ≤ 7 → s.granted 13 (s.winAddr n) (.write (v ++ (s.win n).low)) → waited ≤ 5 →
  ∃ t, exec (.windowDhiWrite n waited v) s = .next t ∧ t.calicoWord (s.winAddr n - calicoBase) = v ++ (s.win n).low
    ∧ (∀ b, (b < 4 * (s.winAddr n - calicoBase) ∨ 4 * (s.winAddr n - calicoBase) + 4 ≤ b) → Memory.byte t.calico b = Memory.byte s.calico b)
    ∧ t.on (W_STAT.LOHELD n) = false ∧ t.get (W_STAT.CODE n) = 0 ∧ t.winAddr n = s.winNext n
    ∧ s.onlyFields t [H_STAT.ARMED, W_STAT.LOHELD n, W_STAT.CODE n, W_SEL.ADDRHI n, W_ADDR.ADDR n]
    ∧ t = { s with regs := t.regs, calico := t.calico, fab := { s.fab with eccSingle := t.fab.eccSingle, eccDouble := t.fab.eccDouble } }

/-- HOST_BOUND_EXPIRY (R174): a window read that was not accepted in 6 µs is refused with BUSY. -/
def Effect.hostBoundExpiry : Prop := ∀ (s : State) (n : Fin 3), s.hostReady → s.winPrefetches n = false →
    (∀ x ∈ s.hst.slots, x.2.off ≠ winOff n 2) →
  ∃ t, exec (.hostBoundExpiry (BitVec.ofNat 6 (winOff n 2)) false false) s = .next t ∧ s.hostRefused t 1 (winOff n 2) ∧ t.hst.data = 0
    ∧ t.get (W_STAT.CODE n) = 1 ∧ s.onlyFields t (W_STAT.CODE n :: busErr)
    ∧ t = { s with regs := t.regs, evt := t.evt, hst := { s.hst with data := 0 } }

/-- The CRC that a serial write frame carries is the chip's (R182). -/
def frameGood (bits : BitVec 32) : Prop :=
  bits.getLsbD 24 = false ∧ crc8 [bits.extractLsb' 24 8, bits.extractLsb' 16 8, bits.extractLsb' 8 8] = bits.toNat % 256

/-- What every serial frame does first (R55, R62, R180): the pins D[15:4] stand as the board drives them, and SDO carries H_STAT, `data` and the chip's
CRC. -/
def State.frameBegun (s : State) (bits : BitVec 32) (data : BitVec 16) (driven level : BitVec 12) : State :=
  (s.selFalls driven level).driveSdo (if bits.getLsbD 31 then data else 0)
    (crc8 [bits.extractLsb' 24 8, data.extractLsb' 8 8, data.extractLsb' 0 8]) 32

/-- SERIAL_FRAME (R181 to R184): a write frame with a good CRC, whose forwarding slot is free if it needs one, is the write it carries, with LASTOK
set. -/
def Effect.serialFrame : Prop := ∀ (s : State) (bits : BitVec 32) (waited posted : Nat) (occ : Bool) (since : Word) (high : Bool)
    (driven level : BitVec 12), s.hostServes = true → s.on SYS_STRAP.HOSTMODE = true → s.pins.selArmed = true → bits.getLsbD 31 = false →
    frameGood bits → (s.writeNeedsSlot (bits.extractLsb' 25 6).toNat && s.slotTaken (bits.extractLsb' 25 6).toNat occ) = false →
  ∃ t, exec (.serialFrame bits 32 waited occ since high posted driven level) s = .next t
    ∧ exec (.registerWrite (.host (bits.extractLsb' 25 6) true) waited (BitVec.ofNat 32 (bits.extractLsb' 8 16).toNat))
        ((s.frameBegun bits (bits.extractLsb' 8 16) driven level).put H_SER_STAT.LASTOK 1) = .next t

/-- SERIAL_FRAME (R184): a write frame whose forwarding slot is still taken is refused with OVERLAP; one that takes the key must hold it. -/
def Effect.serialOverlap : Prop := ∀ (s : State) (bits : BitVec 32) (waited posted : Nat) (occ : Bool) (since : Word) (high : Bool)
    (driven level : BitVec 12), s.hostReady → s.on SYS_STRAP.HOSTMODE = true → s.pins.selArmed = true → bits.getLsbD 31 = false →
    frameGood bits → keyed (bits.extractLsb' 25 6).toNat = false →
    (s.writeNeedsSlot (bits.extractLsb' 25 6).toNat && s.slotTaken (bits.extractLsb' 25 6).toNat occ) = true →
  ∃ t, exec (.serialFrame bits 32 waited occ since high posted driven level) s = .next t
    ∧ s.hostRefused t 10 (bits.extractLsb' 25 6).toNat ∧ s.onlyFields t (H_SER_STAT.LASTOK :: H_STAT.ARMED :: busErr)
    ∧ t = { s with regs := t.regs, evt := t.evt, pins := t.pins, hst := { s.hst with sdo := t.hst.sdo } }

/-- SERIAL_FRAME (R180, R183, Table HST-5): a read frame returns H_STAT bits 7:0, the register, and their CRC on SDO; a read without side effect changes
nothing else but LASTOK. The host's own CRC is over its command and the data that it received. -/
def Effect.serialRead : Prop := ∀ (s : State) (bits : BitVec 32) (waited posted : Nat) (occ : Bool) (since : Word) (high : Bool)
    (driven level : BitVec 12) (off : Nat), s.hostReady → s.on SYS_STRAP.HOSTMODE = true → s.pins.selArmed = true → bits.getLsbD 31 = true →
    bits.getLsbD 24 = false → off = (bits.extractLsb' 25 6).toNat → off ∈ [0, 1, 2, 3, 5, 6, 7, 8, 41, 44, 46, 47] →
    crc8 [bits.extractLsb' 24 8, (BitVec.ofNat 16 (s.hostPeek off)).extractLsb' 8 8, (BitVec.ofNat 16 (s.hostPeek off)).extractLsb' 0 8]
      = bits.toNat % 256 →
  ∃ t, exec (.serialFrame bits 32 waited occ since high posted driven level) s = .next t
    ∧ t = { (s.frameBegun bits (BitVec.ofNat 16 (s.hostPeek off)) driven level).put H_SER_STAT.LASTOK 1 with
              hst := { s.hst with data := BitVec.ofNat 16 (s.hostPeek off), sdo := t.hst.sdo } }
    ∧ t.hst.sdo = (List.range 32).map (fun k =>
        (BitVec.ofNat 8 (s.hostPeek 2) ++ BitVec.ofNat 16 (s.hostPeek off) ++ BitVec.ofNat 8 (bits.toNat % 256)).getLsbD (31 - k))

/-- SERIAL_FRAME (R183): a write frame whose CRC differs is discarded and counted. -/
def Effect.serialFrameBad : Prop := ∀ (s : State) (bits : BitVec 32) (waited posted : Nat) (occ : Bool) (since : Word) (high : Bool)
    (driven level : BitVec 12), s.hostServes = true → s.on SYS_STRAP.HOSTMODE = true → s.pins.selArmed = true → bits.getLsbD 31 = false →
    ¬ frameGood bits →
  ∃ t, exec (.serialFrame bits 32 waited occ since high posted driven level) s = .next t ∧ t.on H_SER_STAT.LASTOK = false
    ∧ t.get H_SER_STAT.CRCERR = min 31 (s.get H_SER_STAT.CRCERR + 1) ∧ t.evt = (s.raise Ev.SER_CRC).evt
    ∧ s.onlyFields t [H_SER_STAT.LASTOK, H_SER_STAT.CRCERR]
    ∧ t = { s with regs := t.regs, evt := t.evt, pins := { s.pins with spareDriven := driven, spareLevel := level },
                   hst := { s.hst with sdo := t.hst.sdo } }

/-- SER_SHORT (R185): a frame of 1 to 31 edges has no effect but its count. -/
def Effect.serShort : Prop := ∀ (s : State) (high : Bool) (driven level : BitVec 12), s.hostServes = true → s.on SYS_STRAP.HOSTMODE = true →
    s.pins.selArmed = true →
  ∃ t, exec (.serShort high driven level) s = .next t ∧ t.get H_SER_STAT.SHORT = min 31 (s.get H_SER_STAT.SHORT + 1) ∧ t.evt = (s.raise Ev.SER_SHORT).evt
    ∧ s.onlyFields t [H_SER_STAT.SHORT]
    ∧ t = { s with regs := t.regs, evt := t.evt, pins := { s.pins with spareDriven := driven, spareLevel := level } }

/-- H_TIME_LO_READ (R194): the read latches the higher parts of the RTC. -/
def Effect.hTimeLoRead : Prop := ∀ s : State, s.hostReady →
  ∃ t, exec .hTimeLoRead s = .next t
    ∧ t = { s with hst := { s.hst with data := s.time.rtc.extractLsb' 0 16, timeLatch := s.time.rtc.toNat / 0x10000 } }

/-- H_EVT_LO_READ (R557): the low half of the bank's host-pending bits is returned, and the bank and its word are kept for the acknowledgement. -/
def Effect.hEvtLoRead : Prop := ∀ s : State, s.hostReady → s.get H_EVT_BANK.BANK < 36 →
  ∃ t, exec .hEvtLoRead s = .next t
    ∧ t = { s with hst := { s.hst with data := (s.rd (EVT_HPEND.addr (s.get H_EVT_BANK.BANK))).extractLsb' 0 16,
                                       evtBank := min 35 (s.get H_EVT_BANK.BANK), evtSeen := s.rd (EVT_HPEND.addr (s.get H_EVT_BANK.BANK)) } }

/-- CLOCK_SET_REQUEST with the key (R195): the held value waits for the boundary. -/
def Effect.clockSetRequest : Prop := ∀ (s : State) (waited : Nat), s.hostReady → s.on H_STAT.ARMED = true → waited ≤ 5 →
    s.mustWait (busTarget CLK_STAT.addr) = false →
  ∃ t, exec (.clockSetRequest waited) s = .next t ∧ t.on H_TIME_CTL.DONE = false ∧ t.on H_STAT.ARMED = false
    ∧ s.onlyFields t [H_STAT.ARMED, H_TIME_CTL.DONE]
    ∧ t = { s with regs := t.regs, hst := { s.hst with setPending := some s.hst.timeHeld } }

/-- CLOCK_SET_LOAD (R195): the RTC takes the value, DONE reads 1, and the set is reported. -/
def Effect.clockSetLoad : Prop := ∀ (s : State) (v : Nat), s.hst.setPending = some v → s.umb.frozen = false → s.time.presc = 0 →
  ∃ t, exec .clockSetLoad s = .next t ∧ t.time.rtc = BitVec.ofNat 48 v ∧ t.time.presc = 0 ∧ t.time.cyc = s.time.cyc
    ∧ t.on H_TIME_CTL.DONE = true ∧ t.hst.setPending = none ∧ t.raised Ev.TIME_SET
    ∧ t.calico = s.calico ∧ t.vault = s.vault ∧ t.sto.array = s.sto.array ∧ t.pending = s.pending

/-- WDG_KICK (R196): the watchdog starts again, and HOSTLOST clears. Where no message can wait, nothing else changes. -/
def Effect.wdgKick : Prop := ∀ s : State, s.hostReady → s.on CON_CFG.EN = false →
  ∃ t, exec .wdgKick s = .next t ∧ t.on H_STAT.HOSTLOST = false ∧ s.onlyFields t [H_STAT.ARMED, H_STAT.HOSTLOST]
    ∧ t = { s with regs := t.regs, hst := { s.hst with wdgFrom := s.time.runCyc } }

/-- WDG_SET_PERIOD (R196). -/
def Effect.wdgSetPeriod : Prop := ∀ (s : State) (p : BitVec 8), s.hostReady → s.on CON_CFG.EN = false →
  ∃ t, exec (.wdgSetPeriod p) s = .next t ∧ t.get H_WDG.PERIOD = p.toNat ∧ t.on H_STAT.HOSTLOST = false
    ∧ s.onlyFields t [H_STAT.ARMED, H_STAT.HOSTLOST, H_WDG.PERIOD]
    ∧ t = { s with regs := t.regs, hst := { s.hst with wdgFrom := s.time.runCyc } }

/-- HOST_WDG (R196): the period runs out, HOSTLOST is set and reported; messages that are no concentrator messages stay queued. -/
def Effect.hostWdg : Prop := ∀ s : State, s.twillRuns = true → s.get H_WDG.PERIOD ≠ 0 → s.on H_STAT.HOSTLOST = false →
    s.get H_WDG.PERIOD * 100000 ≤ cycUs (s.time.runCyc - s.hst.wdgFrom) → (∀ m ∈ s.mbx.queue, m.con = none) →
  ∃ t, exec .hostWdg s = .next t ∧ t.on H_STAT.HOSTLOST = true ∧ t.evt = (s.raise Ev.HOST_WDG).evt
    ∧ s.onlyFields t [H_STAT.HOSTLOST] ∧ t = { s with regs := t.regs, evt := t.evt }

/-- MBOX_TX_WRITE (R197): the word joins the transmit FIFO. -/
def Effect.mboxTxWrite : Prop := ∀ (s : State) (v : BitVec 16), s.hostReady → s.mbx.tx.length < 64 →
  ∃ t, exec (.mboxTxWrite v) s = .next t ∧ t.mbx = { s.mbx with tx := s.mbx.tx ++ [v] }
    ∧ t.get H_MBOX_STAT.TXFREE = 63 - s.mbx.tx.length ∧ t.on H_STAT.MBTXF = decide (s.mbx.tx.length = 63)
    ∧ s.onlyFields t [H_STAT.ARMED, H_MBOX_STAT.RXCNT, H_MBOX_STAT.TXFREE, H_MBOX_STAT.RXMSG, H_STAT.MBRX, H_STAT.MBTXF]
    ∧ t = { s with regs := t.regs, mbx := t.mbx, evt := t.evt }

/-- MBOX_TX_WRITE (R197): a write to a full FIFO is refused. -/
def Effect.mboxTxFull : Prop := ∀ (s : State) (v : BitVec 16), s.hostReady → s.mbx.tx.length = 64 →
  ∃ t, exec (.mboxTxWrite v) s = .next t ∧ s.hostRefused t 12 36
    ∧ s.onlyFields t (H_STAT.ARMED :: busErr) ∧ t = { s with regs := t.regs, evt := t.evt }

/-- MBOX_MESSAGE (R197, R549): a whole message leaves the transmit FIFO; one with CTYPE 0x12 to 0x14 is taken as from the head-end. -/
def Effect.mboxMessage : Prop := ∀ (s : State) (h : BitVec 16) (ws : List (BitVec 16)), s.twillRuns = true → s.mbx.tx = h :: ws →
    h.toNat % 64 ≤ ws.length →
  ∃ t, exec .mboxMessage s = .next t ∧ t.mbx = { s.mbx with tx := ws.drop (h.toNat % 64) }
    ∧ (s.pod = false → 0x12 ≤ h.toNat / 256 → h.toNat / 256 ≤ 0x14 → 3 ≤ h.toNat % 64 →
      t.inbox = s.inbox ++ [⟨3, s.get (CON_HEAD.ADDR 0), BitVec.ofNat 8 (h.toNat / 256) :: (mailBytes (ws.take (h.toNat % 64))).drop 1, none, 0⟩])
    ∧ s.onlyFields t [H_MBOX_STAT.RXCNT, H_MBOX_STAT.TXFREE, H_MBOX_STAT.RXMSG, H_STAT.MBRX, H_STAT.MBTXF, CON_CNT2.BADTYPE]
    ∧ t = { s with regs := t.regs, mbx := t.mbx, evt := t.evt, inbox := t.inbox }

/-- MBOX_RX_READ (R197): the oldest word is returned and leaves the receive FIFO. -/
def Effect.mboxRxRead : Prop := ∀ (s : State) (w : BitVec 16) (rest : List (BitVec 16)), s.hostReady → s.mbx.rx = w :: rest →
  ∃ t, exec .mboxRxRead s = .next t ∧ t.hst.data = w
    ∧ t.mbx = { s.mbx with rx := rest, part := if s.mbx.part = 0 then w.toNat % 64 else s.mbx.part - 1 }
    ∧ s.onlyFields t [H_MBOX_STAT.RXCNT, H_MBOX_STAT.TXFREE, H_MBOX_STAT.RXMSG, H_STAT.MBRX, H_STAT.MBTXF]
    ∧ t = { s with regs := t.regs, mbx := t.mbx, evt := t.evt, hst := { s.hst with data := w } }

/-- MBOX_DELIVER (R198): the oldest queued message that fits whole is placed in the receive FIFO. -/
def Effect.mboxDeliver : Prop := ∀ (s : State) (m : MailOut) (rest : List MailOut), s.twillRuns = true → s.mbx.queue = m :: rest →
    s.mbx.rx.length + m.words.length ≤ 64 → m.con = none →
  ∃ t, exec .mboxDeliver s = .next t ∧ t.mbx = { s.mbx with rx := s.mbx.rx ++ m.words, queue := rest }
    ∧ t.get H_MBOX_STAT.RXCNT = s.mbx.rx.length + m.words.length
    ∧ s.onlyFields t [H_MBOX_STAT.RXCNT, H_MBOX_STAT.TXFREE, H_MBOX_STAT.RXMSG, H_STAT.MBRX, H_STAT.MBTXF]
    ∧ t = { s with regs := t.regs, mbx := t.mbx, evt := t.evt }

/-- STG_ERR_READ (R215): the next conflict code is returned and consumed. -/
def Effect.stgErrRead : Prop := ∀ s : State, s.hostReady → s.nextConflict ≠ 0 →
  ∃ t, exec .stgErrRead s = .next t ∧ t.hst.data.toNat = s.nextConflict
    ∧ t = { s with hst := { s.hst with data := t.hst.data }, stg := { s.stg with errNext := s.stg.errNext + 1 } }

/-- H_EVT_ACK (R557) of one source: its host-pending bit clears, and every other one stays. -/
def Effect.hEvtAck : Prop := ∀ (s : State) (v : BitVec 16) (waited : Nat), s.hostReady → s.get H_EVT_BANK.BANK < 36 → v.getLsbD 5 = false →
    waited ≤ 5 → s.mustWait (busTarget (EVT_HPEND.addr 0)) = false →
  ∃ t, exec (.hEvtAck v waited) s = .next t
    ∧ (∀ b i, b < 36 → i < 32 → (t.rd (EVT_HPEND.addr b)).getLsbD i
        = ((s.rd (EVT_HPEND.addr b)).getLsbD i && !(b == s.get H_EVT_BANK.BANK && i == v.toNat % 32)))
    ∧ s.onlyWords t [EVT_HPEND.addr (s.get H_EVT_BANK.BANK), H_STAT.addr, H_IRQ_PEND.addr, H_EVT_BANK.addr] ∧ t = { s with regs := t.regs }

/-! ### Staged changes (chapter 07) -/

/-- STAGING_WRITE (R203, R204): the staged fields of the word join the set, which is OPEN; the other entries, the other set and the live word stay. -/
def Effect.stagingWrite : Prop := ∀ (s : State) (i : Fin 14) (dated : Bool) (a : BitVec 24) (v : Word),
    s.granted i a.toNat (.stage dated v) → stagedMask a.toNat ≠ 0 → s.stageClosed dated = false →
    ((Sparse.find (s.stage dated).entries a.toNat).isSome = true ∨ (s.stage dated).entries.length < stageCapacity dated) →
  ∃ t, exec (.stagingWrite i dated a v) s = .next t
    ∧ Sparse.find (t.stage dated).entries a.toNat = some (v &&& stagedMask a.toNat)
    ∧ (∀ b, b ≠ a.toNat → Sparse.find (t.stage dated).entries b = Sparse.find (s.stage dated).entries b)
    ∧ t.stageState dated = 1 ∧ t.stage (!dated) = s.stage (!dated)
    ∧ s.onlyFields t [STG_SET.STATE (setNo dated), STG_SET.STALE (setNo dated), STG_SET.SL (setNo dated), STG_SET.ENTRIES (setNo dated)]
    ∧ t = { s with regs := t.regs, stg := { s.stg with imm := t.stg.imm, dated := t.stg.dated }, fab := { s.fab with outcome := t.fab.outcome } }

/-- STAGING_WRITE (R206) to a full set: OVF is set, and the write has no effect. -/
def Effect.stagingFull : Prop := ∀ (s : State) (i : Fin 14) (dated : Bool) (a : BitVec 24) (v : Word),
    s.granted i a.toNat (.stage dated v) → stagedMask a.toNat ≠ 0 → s.stageClosed dated = false →
    Sparse.find (s.stage dated).entries a.toNat = none → stageCapacity dated ≤ (s.stage dated).entries.length →
  ∃ t, exec (.stagingWrite i dated a v) s = .next t ∧ t.on (STG_SET.OVF (setNo dated)) = true ∧ t.evt = (s.raise Ev.STG_FULL).evt
    ∧ s.onlyFields t [STG_SET.OVF (setNo dated)]
    ∧ t = { s with regs := t.regs, evt := t.evt, fab := { s.fab with outcome := t.fab.outcome } }

/-- STAGING_WRITE (R207) into a set that is SCHEDULED, COMMITTED or under the check of an APPLY is ignored and counted. -/
def Effect.stagingIgnored : Prop := ∀ (s : State) (i : Fin 14) (dated : Bool) (a : BitVec 24) (v : Word),
    s.granted i a.toNat (.stage dated v) → stagedMask a.toNat ≠ 0 → s.stageClosed dated = true →
  ∃ t, exec (.stagingWrite i dated a v) s = .next t ∧ t.get STG_IGN.WRITES = min 65535 (s.get STG_IGN.WRITES + 1)
    ∧ t.evt = (s.raise Ev.STG_IGNORED).evt ∧ s.onlyFields t [STG_IGN.WRITES]
    ∧ t = { s with regs := t.regs, evt := t.evt, fab := { s.fab with outcome := t.fab.outcome } }

/-- The state in which a command of a set is evaluated: its STALE mark is cleared. -/
def State.notStale (s : State) (dated : Bool) : State := s.put (STG_SET.STALE (setNo dated)) 0

/-- STG_CHECK (R208, R209): the check of the set begins, with what it will find. -/
def Effect.stgCheck : Prop := ∀ (s : State) (dated : Bool), s.twillRuns = true → s.on STG_STAT.BUSY = false → s.meterReady = true →
  ∃ t, exec (.stgCheck dated) s = .next t
    ∧ (∃ at_, t.stg.check = some ⟨dated, false, at_, s.on SEA_STAT.SESSION, (s.notStale dated).conflicts dated false at_⟩
      ∧ at_ = if 2 ≤ s.stageState dated then (s.stage dated).applyAt else s.stagedAt)
    ∧ t.on STG_STAT.BUSY = true ∧ t.get STG_STAT.SET = setNo dated ∧ t.get STG_STAT.RESULT = 0
    ∧ s.onlyFields t [STG_STAT.BUSY, STG_STAT.SET, STG_STAT.RESULT, STG_STAT.NCONF, STG_SET.STALE (setNo dated)]
    ∧ t = { s with regs := t.regs, stg := { s.stg with check := t.stg.check } }

/-- STG_APPLY (R208, R210, R211) of a set that is not yet scheduled: the check of the APPLY begins. -/
def Effect.stgApply : Prop := ∀ (s : State) (dated : Bool), s.twillRuns = true → s.on STG_STAT.BUSY = false → s.meterReady = true →
    s.stageState dated < 2 →
  ∃ t, exec (.stgApply dated) s = .next t
    ∧ t.stg.check = some ⟨dated, true, s.stagedAt, s.on SEA_STAT.SESSION, (s.notStale dated).conflicts dated true s.stagedAt⟩
    ∧ t.on STG_STAT.BUSY = true ∧ t.get STG_STAT.SET = setNo dated ∧ t.get STG_STAT.RESULT = 0
    ∧ s.onlyFields t [STG_STAT.BUSY, STG_STAT.SET, STG_STAT.RESULT, STG_STAT.NCONF, STG_SET.STALE (setNo dated)]
    ∧ t = { s with regs := t.regs, stg := { s.stg with check := t.stg.check } }

/-- A command of a set while another is under way is ignored and counted (R208). -/
def Effect.stgBusy : Prop := ∀ (s : State) (dated : Bool) (c : Instr), c ∈ [Instr.stgCheck dated, .stgApply dated, .stgDiscard dated] →
    s.twillRuns = true → s.on STG_STAT.BUSY = true →
  ∃ t, exec c s = .next t ∧ t.get STG_IGN.CMDS = min 65535 (s.get STG_IGN.CMDS + 1) ∧ t.evt = (s.raise Ev.STG_IGNORED).evt
    ∧ s.onlyFields t [STG_IGN.CMDS] ∧ t = { s with regs := t.regs, evt := t.evt }

/-- The words that the end of a staging command writes. -/
def stageWords (dated : Bool) : List Nat := STG_STAT.addr :: STG_SET.addr (setNo dated) :: (List.range 64).map STG_CONF.addr

/-- STG_DISCARD (R213) of a set that is not scheduled: its entries go, and OUTCOME and RESULT read DISCARDED. -/
def Effect.stgDiscard : Prop := ∀ (s : State) (dated : Bool), s.twillRuns = true → s.on STG_STAT.BUSY = false → s.meterReady = true →
    s.stageState dated < 2 →
  ∃ t, exec (.stgDiscard dated) s = .next t ∧ t.stage dated = StageSet.empty ∧ t.stage (!dated) = s.stage (!dated)
    ∧ t.stageState dated = 0 ∧ t.on (STG_SET.OVF (setNo dated)) = false ∧ t.get (STG_SET.OUTCOME (setNo dated)) = 3
    ∧ t.get (STG_SET.ENTRIES (setNo dated)) = 0 ∧ t.get STG_STAT.RESULT = 5 ∧ t.get STG_STAT.NCONF = 0 ∧ t.evt = (s.raise Ev.STG_DISCARDED).evt
    ∧ s.onlyWords t (stageWords dated) ∧ t = { s with regs := t.regs, evt := t.evt, stg := t.stg }

/-- The conflict list shows what a command found (R215). -/
def State.conflictsShown (t : State) (found : List (Nat × Nat)) : Prop :=
  t.get STG_STAT.NCONF = min 255 found.length
    ∧ ∀ i, i < 64 → t.rd (STG_CONF.addr i) = BitVec.ofNat 32 ((found.getD i (0, 0)).1 * 2 ^ 24 + (found.getD i (0, 0)).2 % 2 ^ 24)

/-- STG_CHECK_DONE (R209): PASSED or FAILED, with the conflicts; the sets and their states stay. -/
def Effect.stgCheckDone : Prop := ∀ (s : State) (c : StageCheck), s.stg.check = some c → c.apply = false → s.lgcRuns = true →
  ∃ t, exec .stgCheckDone s = .next t ∧ t.get STG_STAT.RESULT = (if c.found = [] then 1 else 2) ∧ t.on STG_STAT.BUSY = false
    ∧ t.conflictsShown c.found ∧ t.evt = (s.raise Ev.STG_CHECKED).evt
    ∧ s.onlyWords t (STG_STAT.addr :: (List.range 64).map STG_CONF.addr)
    ∧ t = { s with regs := t.regs, evt := t.evt, stg := { s.stg with check := none, errNext := 0 } }

/-- STG_APPLY_CHECK_DONE (R210): an immediate set without a conflict is SCHEDULED for the first boundary at least 1 ms ahead. -/
def Effect.stgApplyCheckDone : Prop := ∀ (s : State) (c : StageCheck), s.stg.check = some c → c.apply = true → c.found = [] → c.dated = false →
    s.lgcRuns = true →
  ∃ t, exec .stgApplyCheckDone s = .next t ∧ t.get STG_STAT.RESULT = 6 ∧ t.on STG_STAT.BUSY = false ∧ t.stageState false = 2
    ∧ t.stg.imm.entries = s.stg.imm.entries ∧ t.stg.imm.boundary = s.boundaryFrom 0 msCycles ∧ t.evt = (s.raise Ev.STG_SCHEDULED).evt
    ∧ s.onlyWords t (stageWords false)
    ∧ t = { s with regs := t.regs, evt := t.evt, stg := { s.stg with check := none, errNext := 0, imm := t.stg.imm } }

/-- STG_APPLY_CHECK_DONE (R210, R211): with a conflict the command is REFUSED, and the set stays as it is. -/
def Effect.stgApplyRefused : Prop := ∀ (s : State) (c : StageCheck), s.stg.check = some c → c.apply = true → c.found ≠ [] → s.lgcRuns = true →
  ∃ t, exec .stgApplyCheckDone s = .next t ∧ t.get STG_STAT.RESULT = 4 ∧ t.on STG_STAT.BUSY = false
    ∧ t.conflictsShown c.found ∧ t.evt = (s.raise Ev.STG_REFUSED).evt
    ∧ s.onlyWords t (STG_STAT.addr :: (List.range 64).map STG_CONF.addr)
    ∧ t = { s with regs := t.regs, evt := t.evt, stg := { s.stg with check := none, errNext := 0 } }

/-- The immediate set has reached its commit point, 1 ms before its boundary, and no dated set is scheduled. -/
def State.commitDue (s : State) : Prop :=
  s.applying = true ∧ s.stageState false = 2 ∧ s.stageState true ≠ 2 ∧ 0 < s.cyclesTo s.stg.imm.boundary ∧ s.cyclesTo s.stg.imm.boundary ≤ msCycles

/-- COMMIT_POINT (R212, R221): a set without a conflict is COMMITTED; a sealed one reserves a legal log place (R353). -/
def Effect.commitPoint : Prop := ∀ s : State, s.commitDue → s.commitConflicts false = [] →
  ∃ t, exec .commitPoint s = .next t ∧ t.stageState false = 3 ∧ t.stg = s.stg
    ∧ (s.stg.imm.isSealed = true → t.evt.reserved = s.evt.reserved + 1)
    ∧ (s.stg.imm.isSealed = false → s.onlyFields t [STG_SET.STATE 0] ∧ t.evt = s.evt)
    ∧ t = { s with regs := t.regs, evt := t.evt }

/-- COMMIT_POINT (R212): a set with a conflict is refused whole and returns to OPEN with its entries. -/
def Effect.commitRefused : Prop := ∀ s : State, s.commitDue → s.commitConflicts false ≠ [] →
  ∃ t, exec .commitPoint s = .next t ∧ t.stageState false = 1 ∧ t.get (STG_SET.OUTCOME 0) = 2 ∧ t.conflictsShown (s.commitConflicts false)
    ∧ t.stg.imm.entries = s.stg.imm.entries ∧ t.evt = (s.raise Ev.STG_REFUSED).evt ∧ s.onlyWords t (stageWords false)
    ∧ t = { s with regs := t.regs, evt := t.evt, stg := { s.stg with imm := t.stg.imm, errNext := 0 } }

/-- SET_TAKES_EFFECT (R218, R219, R220): every staged field of a committed immediate set goes live, the configuration version advances by one, and the
set is EMPTY and APPLIED. -/
def Effect.setTakesEffect : Prop := ∀ s : State, s.applying = true → s.time.presc = 0 → s.stageState false = 3 →
    s.stg.imm.boundary = s.time.rtc.toNat → s.stageState true ≠ 3 → s.stg.imm.isSealed = false → s.boot.unrecalled = [] →
    (s.stg.imm.entries.map (fun e => e.1)).Nodup →
  ∃ t, exec (.setTakesEffect []) s = .next t
    ∧ (∀ e ∈ s.stg.imm.entries, t.rd e.1 &&& (stagedMask e.1 &&& ~~~ hardZero s.pod e.1) = e.2 &&& (stagedMask e.1 &&& ~~~ hardZero s.pod e.1))
    ∧ t.get STG_VER.CFGVER = (s.get STG_VER.CFGVER + 1) % 65536 ∧ t.get2 STG_LASTB.addr = s.time.rtc.toNat
    ∧ t.stageState false = 0 ∧ t.get (STG_SET.OUTCOME 0) = 1 ∧ t.stg.imm = StageSet.empty ∧ t.stg.dated.entries = s.stg.dated.entries
    ∧ t.raised Ev.STG_APPLIED ∧ t.time = s.time ∧ t.vault = s.vault ∧ t.mode = s.mode ∧ t.pending = s.pending

/-! ### Firing (chapter 08) -/

/-- What firing makes of a member's shot (R244, R251): it flies where the member is armed and its engine ready, and is lost otherwise. -/
def State.shotOutcome (s : State) (rev : Bool) (m : Member) : Member :=
  if m.stage rev ≠ .waiting then m
  else if m.armed && s.engineReady m.engine then m.setStage rev .flying
  else ({ m with armed := false } : Member).setStage rev .lost

/-- Every TDC ring measured is in range, as it was before (R260). -/
def State.ringsGood (s : State) (rings : List (Fin 4 × Nat)) : Prop :=
  ∀ r ∈ rings, (s.get CLK_STAT.TDCOK).testBit r.1 = true ∧ 230 * r.2 ≤ 1000000 ∧ 1000000 ≤ 290 * r.2

/-- ACTIVE of the four engines. -/
def engineActive : List Fd := [ECH_STAT.ACTIVE 0, ECH_STAT.ACTIVE 1, ECH_STAT.ACTIVE 2, ECH_STAT.ACTIVE 3]

/-- Event `n` of the epoch in progress, which goes on with its schedule. -/
def State.fires (s : State) (n : Nat) (e : Epoch) (v : FireEvent) : Prop :=
  s.measuring = true ∧ s.fir.cur = some e ∧ e.events[n]? = some v ∧ e.stopped = false

/-- EPOCH_BOUNDARY (R162, R242) with no epoch before it: an epoch starts under the live configuration. -/
def Effect.firstEpoch : Prop := ∀ s : State, s.measuring = true → s.boot.legalLoaded = true → s.meterReady = true → s.atBoundary = true →
    s.fir.cur = none →
  ∃ t e, exec .epochBoundary s = .next t ∧ t.fir.cur = some e ∧ e.id = s.fir.nextId ∧ e.startRtc = s.time.rtc.toNat
    ∧ e.startCyc = s.time.cyc ∧ e.eplog = s.get FIR_EPOCH.EPLOG ∧ e.ver = s.get STG_VER.CFGVER ∧ e.pairs = [] ∧ e.stopped = false
    ∧ s.onlyFields t [SYS_BOOT.PHASE]
    ∧ t = { s with regs := t.regs, boot := { s.boot with steps := s.boot.steps ||| 2 ^ 7 },
                   fir := { s.fir with cur := t.fir.cur, nextId := s.fir.nextId + 1 } }

/-- EPOCH_BOUNDARY (R242, R248, R249): the epoch in progress, whose shots have all been fired or lost, ends with its length and enters its tail. No
engine is occupied, and every port is clamped. -/
def Effect.nextEpoch : Prop := ∀ (s : State) (e : Epoch), s.measuring = true → s.boot.legalLoaded = true → s.meterReady = true →
    s.atBoundary = true → s.fir.cur = some e → (∀ v ∈ e.events, ∀ m ∈ v.members, m.fwd ≠ .waiting ∧ m.rev ≠ .waiting) →
  ∃ t n, exec .epochBoundary s = .next t ∧ t.fir.cur = some n ∧ n.id = s.fir.nextId ∧ n.startRtc = s.time.rtc.toNat
    ∧ t.fir.tails = s.fir.tails ++ [{ e with len := (s.time.cyc - e.startCyc) / 32, endRtc := s.time.rtc.toNat, endRun := s.time.runCyc,
                                             inputs := s.pins.inputs, values := s.channelValues }]
    ∧ (∀ k, k < 4 → t.on (ECH_STAT.ACTIVE k) = false)
    ∧ s.onlyFields t (SYS_BOOT.PHASE :: engineActive)
    ∧ t = { s with regs := t.regs, boot := { s.boot with steps := s.boot.steps ||| 2 ^ 7 },
                   fir := { s.fir with cur := t.fir.cur, tails := t.fir.tails, ports := [], nextId := s.fir.nextId + 1 } }

/-- SHOT_PREPARATION (R238, Table FIR-4), 50 µs before the forward fire: the event is prepared; the members whose engine is ready and whose
configuration has been recalled are armed, and the engines of every member are occupied. -/
def Effect.shotPreparation : Prop := ∀ (s : State) (n : Nat) (rings : List (Fin 4 × Nat)) (cals : List CalPulse) (e : Epoch) (v : FireEvent),
    s.fires n e v → v.prepared = false → v.released = false → v.members ≠ [] → inCycle (s.epochCycles e) (v.fwd - 50) = true →
    s.ringsGood rings →
  ∃ t e' v', exec (.shotPreparation n rings cals) s = .next t ∧ t.fir.cur = some e' ∧ e'.events[n]? = some v' ∧ v'.prepared = true
    ∧ v'.members.map (fun m => (m.path, m.armed))
      = v.members.map (fun m => (m.path, decide (m.engine < 4) && s.engineReady m.engine && s.pathRecalled e.view m.path))
    ∧ (∀ m ∈ v.members, m.engine < 4 → t.on (ECH_STAT.ACTIVE m.engine) = true)
    ∧ t = { s with regs := t.regs, fir := { s.fir with cur := t.fir.cur, tails := t.fir.tails, ports := t.fir.ports } }

/-- FORWARD_FIRE (R244, R251) at the event's time: each shot of the event flies or is NOT_FIRED. -/
def Effect.forwardFire : Prop := ∀ (s : State) (n vdrv : Nat) (e : Epoch) (v : FireEvent), s.fires n e v →
    inCycle (s.epochCycles e) v.fwd = true → (v.members.map (fun m => m.path)).Nodup →
  ∃ t e', exec (.forwardFire n vdrv) s = .next t ∧ t.fir.cur = some e'
    ∧ e'.events[n]? = some { v with members := v.members.map (s.shotOutcome false) }
    ∧ t = { s with regs := t.regs, evt := t.evt, arv := t.arv,
                   fir := { s.fir with cur := t.fir.cur, tails := t.fir.tails, ports := t.fir.ports, sent := t.fir.sent } }

/-- FORWARD_FIRE (R229, R234): the burst goes out from the sending port, at AMP or, where VDRV lacks 2.0 V of headroom, at VDRV − 2.0 V; then CLIP is
set and AMP_CLIP raised. -/
def Effect.burstSent : Prop := ∀ (s : State) (n vdrv k b : Nat) (e : Epoch) (v : FireEvent) (m : Member), s.fires n e v →
    inCycle (s.epochCycles e) v.fwd = true → v.members = [m] → m.fwd = .waiting → m.armed = true → s.engineReady m.engine = true → m.path < 32 →
    pathBurst e.view m.path = (k, b) →
  ∃ t, exec (.forwardFire n vdrv) s = .next t
    ∧ Sparse.find t.fir.sent (vget e.view (FIR_PATH_A.PORTA m.path))
      = some (pathWave e.view m.path (min (100 * vget e.view (ECH_BURST1.AMP k b)) (s.vdrvMv vdrv - 2000)))
    ∧ (s.vdrvMv vdrv < 100 * vget e.view (ECH_BURST1.AMP k b) + 2000 → t.on (ECH_STAT.CLIP k) = true ∧ t.evt = (s.raise (Ev.AMP_CLIP k)).evt)
    ∧ (100 * vget e.view (ECH_BURST1.AMP k b) + 2000 ≤ s.vdrvMv vdrv → s.onlyFields t [] ∧ t.evt = s.evt)

/-- FORWARD_FIRE (R244) that comes after the event's time: the shot is not fired, and no burst goes out. -/
def Effect.fireMissed : Prop := ∀ (s : State) (n vdrv : Nat) (e : Epoch) (v : FireEvent) (m : Member), s.fires n e v →
    wentBy (s.epochCycles e) v.fwd = true → v.members = [m] → m.fwd = .waiting →
  ∃ t e', exec (.forwardFire n vdrv) s = .next t ∧ t.get (FIR_PCNT.NOTFIRED m.path) = min 255 (s.get (FIR_PCNT.NOTFIRED m.path) + 1)
    ∧ t.fir.sent = s.fir.sent ∧ t.fir.ports = s.fir.ports ∧ t.fir.cur = some e'
    ∧ e'.events[n]? = some { v with members := [{ m with armed := false, fwd := .lost }] }
    ∧ s.onlyFields t [FIR_PCNT.NOTFIRED m.path]

/-- FORWARD_FIRE (R244) before the event's time does nothing. -/
def Effect.fireEarly : Prop := ∀ (s : State) (n vdrv : Nat) (e : Epoch) (v : FireEvent), s.fires n e v → cycUs (s.epochCycles e + 1) ≤ v.fwd →
    exec (.forwardFire n vdrv) s = .next s

/-- FORWARD_FIRE (R251, R253): a shot that does not fire is counted NOT_FIRED against its path. -/
def Effect.notFired : Prop := ∀ (s : State) (n vdrv : Nat) (e : Epoch) (v : FireEvent) (m : Member), s.fires n e v →
    inCycle (s.epochCycles e) v.fwd = true → v.members = [m] → m.fwd = .waiting → (m.armed && s.engineReady m.engine) = false →
  ∃ t, exec (.forwardFire n vdrv) s = .next t ∧ t.get (FIR_PCNT.NOTFIRED m.path) = min 255 (s.get (FIR_PCNT.NOTFIRED m.path) + 1)
    ∧ t.evt = ((s.raise (Ev.PATH_LOSS m.path)).raise (Ev.NOT_FIRED m.engine)).evt
    ∧ s.onlyFields t [FIR_PCNT.NOTFIRED m.path]

/-- REVERSE_FIRE (R239, Table FIR-4) at the event's time, with its forward shots fired or lost and their captures closed: each reverse shot flies or is
NOT_FIRED. -/
def Effect.reverseFire : Prop := ∀ (s : State) (n vdrv : Nat) (rings : List (Fin 4 × Nat)) (cals : List CalPulse) (e : Epoch) (v : FireEvent),
    s.fires n e v → inCycle (s.epochCycles e) v.rev = true → (∀ m ∈ v.members, m.fwd ≠ .waiting ∧ m.fwd ≠ .flying) → s.ringsGood rings →
    (v.members.map (fun m => m.path)).Nodup →
  ∃ t e' v', exec (.reverseFire n vdrv rings cals) s = .next t ∧ t.fir.cur = some e' ∧ e'.events[n]? = some v'
    ∧ v'.members.map (fun m => (m.path, m.rev)) = v.members.map (fun m => (m.path, (s.shotOutcome true m).rev))
    ∧ t = { s with regs := t.regs, evt := t.evt, arv := t.arv,
                   fir := { s.fir with cur := t.fir.cur, tails := t.fir.tails, ports := t.fir.ports, sent := t.fir.sent } }

/-- REVERSE_FIRE (R239) before the forward shots have been fired does nothing: no reverse shot precedes its forward one. -/
def Effect.reverseEarly : Prop := ∀ (s : State) (n vdrv : Nat) (rings : List (Fin 4 × Nat)) (cals : List CalPulse) (e : Epoch) (v : FireEvent),
    s.fires n e v → cycUs (s.epochCycles e + 1) ≤ v.rev → exec (.reverseFire n vdrv rings cals) s = .next s

/-- DRIVE_FAULT (R257) while its burst runs: the shot that the port transmits ends DRIVE_FAULT, is counted, and the port's bit sets. -/
def Effect.driveFault : Prop := ∀ (s : State) (port : Fin 64) (e : Epoch) (n : Nat) (m : Member) (rev : Bool), s.fir.cur = some e →
    findFlying e (fun m rev => sendPort e.view m.path rev == port.val) = some (n, m, rev) →
    m.path < 32 → m.engine < 4 → s.bursting e n m rev = true →
  ∃ t, exec (.driveFault port) s = .next t
    ∧ t.fir.cur = some ((e.mapMember n m.path (fun m => m.setStage rev .lost)).mapEngine m.engine
        (fun c => { c with lost := c.lost + 1, causes := c.causes ||| 2 ^ 3 }))
    ∧ t.get (FIR_PCNT.DRIVEF m.path) = min 255 (s.get (FIR_PCNT.DRIVEF m.path) + 1)
    ∧ (t.get (ECH_PORTFLT.SHORT (port.val / 16))).testBit (port.val % 16) = true
    ∧ t.evt = ((s.raise (Ev.PATH_LOSS m.path)).raise (Ev.DRIVE_FAULT m.engine)).evt
    ∧ s.onlyFields t [FIR_PCNT.DRIVEF m.path, ECH_PORTFLT.SHORT (port.val / 16)]
    ∧ t = { s with regs := t.regs, evt := t.evt, arv := t.arv, fir := { s.fir with cur := t.fir.cur, tails := t.fir.tails } }

/-- The capture of the shot in flight at path `p` closes now at the earliest: WOPEN and WLEN after its fire (R247). -/
def State.captureEnds (s : State) (p : Nat) (e : Epoch) (n : Nat) (m : Member) (rev : Bool) : Prop :=
  s.measuring = true ∧ s.fir.cur = some e ∧ findFlying e (fun m _ => m.path == p) = some (n, m, rev)
    ∧ ∃ v, e.events[n]? = some v ∧ hasCome (s.epochCycles e)
        (v.fireAt rev + vget e.view (FIR_PATH_B.WOPEN m.path) + vget e.view (FIR_PATH_B.WLEN m.path)) = true

/-- CAPTURE_CLOSE (R244, Table CLK-4): the record of the shot joins the engine's queue. -/
def Effect.captureClose : Prop := ∀ (s : State) (p : Fin 32) (cap : Capture) (e : Epoch) (n : Nat) (m : Member) (rev : Bool), s.captureEnds p e n m rev →
    m.engine < 4 → (s.shotQueue m.engine).length < 16 →
  ∃ t, exec (.captureClose p cap) s = .next t
    ∧ t.fir.cur = some (e.mapMember n m.path (fun m => m.setStage rev .queued))
    ∧ t.shotQueue m.engine = s.shotQueue m.engine ++ [⟨e.id, n, m.path, rev, m.cal, cap⟩]
    ∧ (∀ k, k ≠ m.engine → t.shotQueue k = s.shotQueue k)
    ∧ t.get (CLK_QCNT.PEAK m.engine) = max ((s.shotQueue m.engine).length + 1) (s.get (CLK_QCNT.PEAK m.engine))
    ∧ s.onlyFields t [CLK_QCNT.PEAK m.engine]
    ∧ t = { s with regs := t.regs, fir := { s.fir with cur := t.fir.cur, tails := t.fir.tails, queues := t.fir.queues, ports := t.fir.ports } }

/-- CAPTURE_CLOSE (R129, R130, R251): at a full queue the record is dropped, and the shot ends OVERRUN. -/
def Effect.captureOverrun : Prop := ∀ (s : State) (p : Fin 32) (cap : Capture) (e : Epoch) (n : Nat) (m : Member) (rev : Bool), s.captureEnds p e n m rev →
    m.path < 32 → m.engine < 4 → 16 ≤ (s.shotQueue m.engine).length →
  ∃ t, exec (.captureClose p cap) s = .next t ∧ t.get (FIR_PCNT.OVERRUN m.path) = min 255 (s.get (FIR_PCNT.OVERRUN m.path) + 1)
    ∧ t.get (CLK_QCNT.DROPS m.engine) = min 65535 (s.get (CLK_QCNT.DROPS m.engine) + 1) ∧ t.raised (Ev.QUEUE_OVERRUN m.engine)
    ∧ t.get (CLK_QCNT.PEAK m.engine) = max 16 (s.get (CLK_QCNT.PEAK m.engine))
    ∧ t.raised Ev.QUEUE_DROP ∧ s.onlyFields t [FIR_PCNT.OVERRUN m.path, CLK_QCNT.DROPS m.engine, CLK_QCNT.PEAK m.engine]
    ∧ t = { s with regs := t.regs, evt := t.evt, arv := t.arv,
                   fir := { s.fir with cur := t.fir.cur, tails := t.fir.tails, ports := t.fir.ports } }

/-- UNIT_RELEASE (Table FIR-4, step 10), 20 µs after the reverse captures: its ports are clamped, and where no other event is prepared its engines are
free. -/
def Effect.unitRelease : Prop := ∀ (s : State) (n : Nat) (e : Epoch) (v : FireEvent), s.measuring = true → s.fir.cur = some e →
    e.events[n]? = some v → v.prepared = true → v.released = false → hasCome (s.epochCycles e) v.free = true →
    (∀ m ∈ v.members, m.fwd ≠ .flying ∧ m.rev ≠ .flying ∧ m.fwd ≠ .waiting ∧ m.rev ≠ .waiting) →
    (∀ j, j < e.events.length → j ≠ n → ∀ w ∈ e.events[j]?, w.prepared = false ∨ w.released = true) →
  ∃ t, exec (.unitRelease n) s = .next t ∧ (∀ k, k < 4 → t.on (ECH_STAT.ACTIVE k) = false)
    ∧ (∀ m ∈ v.members, ∀ rev, t.port (sendPort e.view m.path rev) = .clamped)
    ∧ s.onlyFields t engineActive ∧ t = { s with regs := t.regs, fir := { s.fir with cur := t.fir.cur, tails := t.fir.tails, ports := t.fir.ports } }

/-! ### Arrival (chapter 09) -/

/-- The oldest record of engine `k`, of an epoch that is in progress or in its tail, can be processed, with no history to clear, no learned template,
and no shot of another pair of its path waiting. -/
def State.shotReady (s : State) (k : Nat) (x : Shot) (rest : List Shot) (ep : Epoch) : Prop :=
  s.shotQueue k = x :: rest ∧ s.measuring = true ∧ s.on CLK_STAT.SYSSRC = false ∧ (s.get CLK_STAT.EPLLOK).testBit k = true
    ∧ s.epoch x.epoch = some ep ∧ s.arv.resets = [] ∧ (s.template x.path).learned = []
    ∧ (∀ h ∈ s.arv.waiting, h.shot.path = x.path → h.shot.epoch = x.epoch ∧ h.shot.event = x.event)
    ∧ (∀ v ∈ ep.events[x.event]?, ∀ m ∈ v.members, m.path = x.path → m.tmpl = none ∨ m.tmpl = some [])

/-- SHOT_PROCESSED (R269): a forward shot that passes the tests waits for its mirror. -/
def Effect.shotWaits : Prop := ∀ (s : State) (k : Fin 4) (x : Shot) (rest : List Shot) (ep : Epoch), s.shotReady k x rest ep → x.rev = false →
    (measureShot ep.view [] (s.pathHistory x.path false) x).code = 0 →
  ∃ t, exec (.shotProcessed k none) s = .next t ∧ t.shotQueue k = rest ∧ (∀ j, j ≠ k.val → t.shotQueue j = s.shotQueue j)
    ∧ t = { s with fir := { s.fir with cur := t.fir.cur, tails := t.fir.tails, queues := t.fir.queues },
                   arv := { s.arv with waiting := s.arv.waiting ++
                     [⟨x, captureAmp x.cap, (measureShot ep.view [] (s.pathHistory x.path false) x).tof.getD 0⟩] } }

/-- SHOT_PROCESSED (R30): where Twill refuses the engine's write of the result, the shot is dropped with OVERRUN, and the refusal counted against the
engine. -/
def Effect.shotDropped : Prop := ∀ (s : State) (k : Fin 4) (x : Shot) (rest : List Shot) (ep : Epoch) (d : Denial), s.shotReady k x rest ep →
    s.mirrorOf x = none → x.path < 32 →
  ∃ t, exec (.shotProcessed k (some d)) s = .next t ∧ t.shotQueue k = rest
    ∧ t.get (FIR_PCNT.OVERRUN x.path) = min 255 (s.get (FIR_PCNT.OVERRUN x.path) + 1)
    ∧ t.get (TWL_CNT.REFUSED (3 + k)) = min (TWL_CNT.REFUSED (3 + k)).max (s.get (TWL_CNT.REFUSED (3 + k)) + 1)
    ∧ t.raised (Ev.QUEUE_OVERRUN k) ∧ t.arv.waiting = s.arv.waiting
    ∧ s.onlyFields t [FIR_PCNT.OVERRUN x.path, TWL_CNT.REFUSED (3 + k), TWL_LAST.CODE (3 + k), TWL_LAST.TARGET (3 + k)]

/-- SHOT_PROCESSED (R267, R273, Table ARV-1): a forward shot that fails a test is published with its quality and counted. -/
def Effect.shotRejected : Prop := ∀ (s : State) (k : Fin 4) (x : Shot) (rest : List Shot) (ep : Epoch) (m : Measured), s.shotReady k x rest ep →
    x.rev = false → x.path < 32 → m = measureShot ep.view [] (s.pathHistory x.path false) x → m.code ≠ 0 → m.ampTest = false →
  ∃ t, exec (.shotProcessed k none) s = .next t ∧ t.get (ARV_LAST_Q.QF x.path) = m.code
    ∧ t.get (qualityCount m.code x.path) = min 255 (s.get (qualityCount m.code x.path) + 1)
    ∧ t.raised (159 + m.code + 64 * (ep.rxOf x / 4)) ∧ t.shotQueue k = rest ∧ t.arv.waiting = s.arv.waiting
    ∧ s.onlyWords t [ARV_LAST_F.addr x.path, ARV_LAST_Q.addr x.path, (qualityCount m.code x.path).addr]
    ∧ t = { s with regs := t.regs, evt := t.evt, fir := t.fir, arv := t.arv, free := t.free }

/-- SHOT_PROCESSED (R269): a reverse shot that passes, with its mirror waiting and no reference TOF yet, completes a valid pair of its epoch. -/
def Effect.pairCompleted : Prop := ∀ (s : State) (k : Fin 4) (x : Shot) (rest : List Shot) (ep : Epoch) (h : HalfPair) (m : Measured),
    s.shotReady k x rest ep → x.rev = true → x.path < 32 → s.mirrorOf x = some h → h.shot.rev = false →
    m = measureShot ep.view [] (s.pathHistory x.path true) x → m.code = 0 → m.amp ≤ 2 * h.amp → h.amp ≤ 2 * m.amp →
    (s.pathHistory x.path false).ref = none → (s.pathHistory x.path true).ref = none →
  ∃ t, exec (.shotProcessed k none) s = .next t
    ∧ (t.epoch x.epoch).map (fun e => e.pairs) = some (ep.pairs ++ [⟨x.path, h.tof, m.tof.getD 0, ep.cut⟩])
    ∧ t.get (ARV_LAST_Q.QF x.path) = 0 ∧ t.get (ARV_LAST_Q.QR x.path) = 0 ∧ t.shotQueue k = rest

/-! ### Flow and temperature (chapter 10) -/

/-- FLOW_CUTOFF (R309), 38 ms into the tail: FLE and NGE take the pairs processed so far; nothing is published yet. A refused write of FLE or of NGE is
counted against it (R29, R30). -/
def Effect.flowCutoff : Prop := ∀ (s : State) (nge : Bool) (refused : Option Denial) (e : Epoch), s.measuring = true →
    s.fir.tails.find? (fun e => !e.cut) = some e → s.tailReached e 38 = true →
  ∃ t e', exec (.flowCutoff nge refused) s = .next t ∧ e' ∈ t.fir.tails ∧ e'.id = e.id ∧ e'.cut = true
    ∧ e'.results.map (fun r => r.mp) = enabledPoints s.pod e.view ∧ e'.flows.map (fun f => f.path) = List.range (pathCount s.pod)
    ∧ e'.refused = (e.refused || refused.isSome)
    ∧ (∀ i, i = (if nge then 8 else 7) → refused ≠ none →
        t.get (TWL_CNT.REFUSED i) = min (TWL_CNT.REFUSED i).max (s.get (TWL_CNT.REFUSED i) + 1)
        ∧ s.onlyFields t [TWL_CNT.REFUSED i, TWL_LAST.CODE i, TWL_LAST.TARGET i])
    ∧ (refused = none → s.onlyFields t [] ∧ t.evt = s.evt ∧ t.fab = s.fab)
    ∧ t = { s with regs := t.regs, evt := t.evt, fab := { s.fab with outcome := t.fab.outcome },
                   fir := { s.fir with cur := t.fir.cur, tails := t.fir.tails }, flo := { s.flo with points := t.flo.points }, free := t.free }

/-- Channel `c` of the epoch in progress ends its conversion (R297, R311); its queue is empty, and no epoch in its tail has the same number. -/
def State.chanConverts (s : State) (c : Nat) (e : Epoch) : Prop :=
  s.fir.cur = some e ∧ s.mayConvert e c = true ∧ s.convQueue (4 + chanGroup c) = [] ∧ ∀ x ∈ s.fir.tails, x.id ≠ e.id

/-- What the end of a conversion may change beside registers and events. -/
def State.convertFrame (s t : State) (c : Nat) (e : Epoch) : Prop :=
  t = { s with regs := t.regs, evt := t.evt, fir := { s.fir with cur := some { e with converted := e.converted ++ [c] } },
               flo := { s.flo with channels := t.flo.channels, queues := t.flo.queues } }
    ∧ t.convQueue (4 + chanGroup c) = []

/-- TEMP_CONVERSION (R298, R299): a good conversion gives the channel its value by the platinum relation, and clears its flags. -/
def Effect.tempConversion : Prop := ∀ (s : State) (c : Fin 16) (ratio : Int) (e : Epoch) (tt : Rat) (x : Int), s.chanConverts c e →
    mkRat 2 100 ≤ mkRat ratio (2 ^ 32) → mkRat ratio (2 ^ 32) ≤ mkRat 98 100 →
    rtdTemp (mkRat ratio (2 ^ 32) * mkRat (vget e.view TMP_REF.RREF) (vget e.view (TMP_RNOM.RNOM c))) = some tt →
    x = roundQ (100000 * tt) + vgetI e.view (TMP_CFG.OFS c) → -2147483648 ≤ x → x ≤ 2147483647 →
  ∃ t, exec (.tempConversion c ⟨false, false, false, ratio⟩) s = .next t ∧ t.channel c = ⟨some x, 0⟩ ∧ t.getI (TMP_VAL.VAL c) = x
    ∧ t.on (TMP_ST.OVL c) = false ∧ t.on (TMP_ST.FAULT c) = false
    ∧ s.onlyFields t [TMP_ST.RATIO c, TMP_ST.OVL c, TMP_ST.FAULT c, TMP_VAL.VAL c, CLK_QCNT.PEAK (4 + c / 4)]
    ∧ t.evt = s.evt ∧ s.convertFrame t c e

/-- TEMP_CONVERSION (R300): an overload keeps the latest value and is counted; the fourth in a row faults the channel. -/
def Effect.tempOverload : Prop := ∀ (s : State) (c : Fin 16) (ratio : Int) (e : Epoch), s.chanConverts c e →
  ∃ t, exec (.tempConversion c ⟨true, false, false, ratio⟩) s = .next t ∧ t.on (TMP_ST.OVL c) = true
    ∧ t.get (TMP_ST.OVLS c) = min 255 (s.get (TMP_ST.OVLS c) + 1) ∧ t.raised (Ev.T_OVERLOAD c)
    ∧ (t.channel c).overloads = (s.channel c).overloads + 1
    ∧ ((s.channel c).overloads < 3 → (t.channel c).value = (s.channel c).value ∧ t.on (TMP_ST.FAULT c) = s.on (TMP_ST.FAULT c))
    ∧ (3 ≤ (s.channel c).overloads → (t.channel c).value = none ∧ t.on (TMP_ST.FAULT c) = true)
    ∧ s.onlyFields t [TMP_ST.RATIO c, TMP_ST.OVL c, TMP_ST.FAULT c, TMP_ST.OVLS c, CLK_QCNT.PEAK (4 + c / 4)]
    ∧ s.convertFrame t c e

/-- TEMP_CONVERSION (R129): while Twill holds the energy engine up the result waits in its crossing queue. -/
def Effect.tempWaits : Prop := ∀ (s : State) (c : Fin 16) (conv : Conversion) (e : Epoch), s.chanConverts c e → conv.stalled = true →
  ∃ t, exec (.tempConversion c conv) s = .next t ∧ t.convQueue (4 + c / 4) = [⟨e.id, c, conv⟩] ∧ t.flo.channels = s.flo.channels
    ∧ s.onlyFields t [CLK_QCNT.PEAK (4 + c / 4)]

/-- TEMP_CONVERSION (R129, R130, R300): a result that meets a full queue of 4 is dropped and counted, which is an overload. -/
def Effect.tempDropped : Prop := ∀ (s : State) (c : Fin 16) (conv : Conversion) (e : Epoch), s.fir.cur = some e → s.mayConvert e c = true →
    (∀ x ∈ s.fir.tails, x.id ≠ e.id) → (s.convQueue (4 + c / 4)).length = 4 → conv.stalled = true → conv.refOut = false →
  ∃ t, exec (.tempConversion c conv) s = .next t ∧ t.convQueue (4 + c / 4) = s.convQueue (4 + c / 4)
    ∧ t.get (CLK_QCNT.DROPS (4 + c / 4)) = min 65535 (s.get (CLK_QCNT.DROPS (4 + c / 4)) + 1) ∧ t.raised Ev.QUEUE_DROP
    ∧ t.get (TMP_ST.OVLS c) = min 255 (s.get (TMP_ST.OVLS c) + 1) ∧ t.raised (Ev.T_OVERLOAD c)
    ∧ s.onlyFields t [CLK_QCNT.DROPS (4 + c / 4), CLK_QCNT.PEAK (4 + c / 4), TMP_ST.OVL c, TMP_ST.FAULT c, TMP_ST.OVLS c]

/-- BRIDGE_CONVERSION (R301): a good conversion gives the channel its value by the polynomial, and clears its flags. -/
def Effect.bridgeConversion : Prop := ∀ (s : State) (k : Fin 4) (ratio : Int) (ref : Bool) (e : Epoch) (x : Int) (r : Rat),
    s.chanConverts (16 + k) e → r = mkRat (ratio * 1000000) (2 ^ 32) → absQ r < 400000 →
    x = roundQ (mkRat (vgetI e.view (BRG_P0.P k)) 1 + mkRat (vgetI e.view (BRG_P1.P k)) 1 * (r / 1000000)
      + mkRat (vgetI e.view (BRG_P2.P k)) 1 * (r / 1000000) * (r / 1000000)) → -2147483648 ≤ x → x ≤ 2147483647 →
  ∃ t, exec (.bridgeConversion k ⟨false, ref, false, ratio⟩) s = .next t ∧ t.channel (16 + k) = ⟨some x, 0⟩ ∧ t.getI (BRG_VAL.VAL k) = x
    ∧ t.on (BRG_ST.OVL k) = false ∧ t.on (BRG_ST.FAULT k) = false
    ∧ s.onlyFields t [BRG_ST.RATIO k, BRG_ST.OVL k, BRG_ST.FAULT k, BRG_VAL.VAL k, CLK_QCNT.PEAK 8]
    ∧ t.evt = s.evt ∧ s.convertFrame t (16 + k) e

/-- The tail of epoch `e` is the oldest and 40 ms old; no other epoch has its number, and its results write none of the words `ws`. -/
def State.tailOnly (s : State) (e : Epoch) (rest : List Epoch) (ws : List Nat) : Prop :=
  s.measuring = true ∧ s.fir.tails = e :: rest ∧ s.tailReached e 40 = true ∧ (∀ x ∈ s.fir.cur.toList ++ rest, x.id ≠ e.id)
    ∧ (∀ f ∈ e.flows, f.path < 32) ∧ ∀ r ∈ e.results, ∀ p ∈ r.puts, p.1.addr ∉ ws

/-- EPOCH_PUBLICATION (R250, R309): the oldest tail leaves; its number and length are published. -/
def Effect.epochPublication : Prop := ∀ (s : State) (e : Epoch) (rest : List Epoch), s.tailOnly e rest [FIR_PUB.addr, FIR_PUBLEN.addr] →
  ∃ t, exec .epochPublication s = .next t ∧ t.get FIR_PUB.EPNUM = e.startRtc / 2 ^ e.eplog % 2 ^ 32
    ∧ t.get FIR_PUBLEN.LEN = e.len % 2 ^ 28 ∧ t.fir.tails.length = rest.length ∧ t.time = s.time ∧ t.mode = s.mode ∧ t.pending = s.pending

/-- Where the five totals of point `i` stand (R307): VOLF, VOLR, HEAT, COOL, VOLB. -/
def totalAddrs (i : Nat) : List Nat := [FLO_VOLF.addr i, FLO_VOLR.addr i, NGE_HEAT.addr i, NGE_COOL.addr i, NGE_VOLB.addr i]

/-- Total `j` of point `i` with its residue, in 1/2^32 of its unit (R307). -/
def State.fineTotal (s : State) (i j : Nat) : Nat :=
  s.get2 ((totalAddrs i).getD j 0) * 2 ^ 32 + Sparse.get (fun _ => 0) s.flo.residues (5 * i + j)

/-- EPOCH_PUBLICATION (R307): each total of a published point gains what the epoch accrued, residue and all, modulo 2^64 units. -/
def Effect.totalsAccrue : Prop := ∀ (s : State) (e : Epoch) (rest : List Epoch) (r : MpResult),
    s.tailOnly e rest ((totalAddrs r.mp).flatMap (fun a => [a, a + 1])) → e.cut = true → e.results = [r] → r.mp < 4 → r.gains.length = 5 →
    s.fab.restarting = [] →
  ∃ t, exec .epochPublication s = .next t
    ∧ ∀ j, j < 5 → (t.fineTotal r.mp j : Int) = ((s.fineTotal r.mp j : Int) + r.gains.getD j 0) % 2 ^ 96

/-! ### Billing (chapter 11) -/

/-- The points of a mask. -/
def maskPoints (mask : BitVec 4) : List Nat := (List.range 4).filter (fun i => mask.getLsbD i)

/-- Every point of the mask is enabled and in the profile. -/
def State.billable (s : State) (mask : BitVec 4) : Prop := ∀ i ∈ maskPoints mask, i < mpCount s.pod ∧ s.on (BIL_MP_CFG.EN i) = true

/-- BIL_CMD_CLOSE (R330, R334): C of each named point is the RTC at acceptance. -/
def Effect.bilCmdClose : Prop := ∀ (s : State) (mask : BitVec 4), s.twillRuns = true → s.billable mask →
    (∀ i ∈ maskPoints mask, (s.bill i).command = none ∧ (s.bill i).reset = false) →
  ∃ t, exec (.bilCmdClose mask) s = .next t ∧ t.get BIL_CMD.RESULT = 1
    ∧ (∀ i, t.bill i = if i ∈ maskPoints mask then { s.bill i with command := some s.time.rtc.toNat } else s.bill i)
    ∧ s.onlyFields t [BIL_CMD.RESULT] ∧ t = { s with regs := t.regs, bil := { s.bil with points := t.bil.points } }

/-- RESETTR (R318, R334): a reset is asked of each named point. -/
def Effect.resettr : Prop := ∀ (s : State) (mask : BitVec 4), s.twillRuns = true → s.billable mask →
    (∀ i ∈ maskPoints mask, (s.bill i).command = none ∧ (s.bill i).reset = false) →
  ∃ t, exec (.resettr mask) s = .next t ∧ t.get BIL_CMD.RESULT = 1
    ∧ (∀ i, t.bill i = if i ∈ maskPoints mask then { s.bill i with reset := true } else s.bill i)
    ∧ s.onlyFields t [BIL_CMD.RESULT] ∧ t = { s with regs := t.regs, bil := { s.bil with points := t.bil.points } }

/-- BIL_CMD_CLOSE and RESETTR (R334): with a command pending at a named point the command is refused with BUSY, and with a point that is not billed, with NO_MP. -/
def Effect.billRefused : Prop := ∀ (s : State) (mask : BitVec 4) (c : Instr), c ∈ [Instr.bilCmdClose mask, .resettr mask] → s.twillRuns = true →
    (∃ i ∈ maskPoints mask, (s.bill i).command ≠ none ∨ (s.bill i).reset = true) →
  ∃ t, exec c s = .next t ∧ (s.billable mask → t.get BIL_CMD.RESULT = 2 ∧ t.evt = (s.raise Ev.BIL_REFUSED).evt)
    ∧ (¬ s.billable mask → t.get BIL_CMD.RESULT = 3 ∧ t.evt = s.evt)
    ∧ s.onlyFields t [BIL_CMD.RESULT] ∧ t = { s with regs := t.regs, evt := t.evt }

/-! ### The sealed side (chapter 12) -/

/-- VSW_CHANGE (R341, R348) in Run: the switch shows its level and is reported; the normal position ends an open session. -/
def Effect.vswChange : Prop := ∀ (s : State) (low : Bool), s.mode = .run → s.umb.frozen = false → s.on SEA_STAT.VSW = !low →
  ∃ t, exec (.vswChange low) s = .next t ∧ t.on SEA_STAT.VSW = low ∧ t.raised Ev.VSW_CHANGE
    ∧ (low = true → t.on SEA_STAT.SESSION = s.on SEA_STAT.SESSION)
    ∧ (low = false → t.on SEA_STAT.SESSION = false)
    ∧ (low = false → s.on SEA_STAT.SESSION = true → t.get SYS_VS_STAT.ENDCAUSE = 2 ∧ t.raised Ev.SESSION_CLOSE)
    ∧ s.onlyFields t [SEA_STAT.VSW, SEA_STAT.SESSION, SYS_VS_STAT.RESULT, SYS_VS_STAT.ENDCAUSE, PWR_WCAUSE.CAUSES]
    ∧ t = { s with regs := t.regs, evt := t.evt, pwr := { s.pwr with dozeEntry := t.pwr.dozeEntry } }

/-- SESSION_OPEN (R342 to R344, R346): LGC takes the request and evaluates it; the credential is cleared, and outside a lock-out the attempt is counted. -/
def Effect.sessionOpen : Prop := ∀ s : State, s.twillRuns = true → s.on SYS_VS_STAT.BUSY = false → s.fab.restarting.contains 0 = false →
    s.boot.steps.testBit 3 = true →
  ∃ t, exec .sessionOpen s = .next t ∧ t.sea.opening = some (s.on SEA_STAT.VSW && !s.sessionLocked && s.credentialGood)
    ∧ t.on SYS_VS_STAT.BUSY = true ∧ (∀ j, j < 4 → t.rd (SYS_VS_CRED.addr j) = 0)
    ∧ t.get SEA_LOCK.FAILS = (if s.sessionLocked then s.get SEA_LOCK.FAILS else min 8 (s.get SEA_LOCK.FAILS + 1))
    ∧ s.onlyWords t (SYS_VS_STAT.addr :: SEA_LOCK.addr :: (List.range 4).map SYS_VS_CRED.addr)
    ∧ t = { s with regs := t.regs, sea := { s.sea with opening := t.sea.opening, openedAt := s.time.runCyc } }

/-- The 96 µs of the OPEN in hand have run out while LGC's clock ran (R343). -/
def State.openDone (s : State) : Prop := s.lgcRuns = true ∧ hasCome (s.time.runCyc - s.sea.openedAt) 96 = true

/-- SESSION_OPEN_RESULT (R343, R347, R348): a session opens for 4 hours, and the attempt counter starts again. -/
def Effect.sessionOpened : Prop := ∀ s : State, s.openDone → s.sea.opening = some true → s.loc.opt.stage = .idle →
  ∃ t, exec .sessionOpenResult s = .next t ∧ t.on SEA_STAT.SESSION = true ∧ t.get SYS_VS_STAT.RESULT = 1 ∧ t.on SYS_VS_STAT.BUSY = false
    ∧ t.get SEA_LOCK.FAILS = 0 ∧ t.get SEA_LOCK.LEVEL = 0 ∧ t.raised Ev.SESSION_OPEN
    ∧ s.onlyFields t [SEA_STAT.SESSION, SYS_VS_STAT.RESULT, SYS_VS_STAT.BUSY, SEA_LOCK.FAILS, SEA_LOCK.LEVEL]
    ∧ t = { s with regs := t.regs, evt := t.evt, sea := { s.sea with opening := none, sessionEnd := s.time.aoTick + sessionTicks } }

/-- SESSION_OPEN_RESULT (R343, R346): a refusal is reported, and the eighth starts a lock-out of 2^LEVEL minutes. -/
def Effect.sessionDenied : Prop := ∀ s : State, s.openDone → s.sea.opening = some false → s.loc.opt.stage = .idle →
  ∃ t, exec .sessionOpenResult s = .next t ∧ t.get SYS_VS_STAT.RESULT = 2 ∧ t.on SYS_VS_STAT.BUSY = false ∧ t.raised Ev.SESSION_DENIED
    ∧ (s.get SEA_LOCK.FAILS < 8 → t.get SEA_LOCK.FAILS = s.get SEA_LOCK.FAILS ∧ t.sea.lockEnd = s.sea.lockEnd)
    ∧ (8 ≤ s.get SEA_LOCK.FAILS → t.get SEA_LOCK.FAILS = 0 ∧ t.get SEA_LOCK.LEVEL = min 11 (s.get SEA_LOCK.LEVEL + 1)
      ∧ t.on SEA_STAT.LOCKED = true ∧ t.sea.lockEnd = some (s.time.aoTick + lockTicks (s.get SEA_LOCK.LEVEL)) ∧ t.raised Ev.LOCKOUT)
    ∧ s.onlyFields t [SYS_VS_STAT.RESULT, SYS_VS_STAT.BUSY, SEA_LOCK.FAILS, SEA_LOCK.LEVEL, SEA_STAT.LOCKED]
    ∧ t = { s with regs := t.regs, evt := t.evt, sea := { s.sea with opening := none, lockEnd := t.sea.lockEnd } }

/-- The open session has ended with a cause (R348). -/
def State.sessionOver (s t : State) (cause : Nat) : Prop :=
  t.on SEA_STAT.SESSION = false ∧ t.get SYS_VS_STAT.RESULT = 3 ∧ t.get SYS_VS_STAT.ENDCAUSE = cause ∧ t.raised Ev.SESSION_CLOSE
    ∧ s.onlyFields t [SEA_STAT.SESSION, SYS_VS_STAT.RESULT, SYS_VS_STAT.ENDCAUSE] ∧ t = { s with regs := t.regs, evt := t.evt }

/-- SESSION_CLOSE (R348). -/
def Effect.sessionClose : Prop := ∀ s : State, s.twillRuns = true → s.on SEA_STAT.SESSION = true →
  ∃ t, exec .sessionClose s = .next t ∧ s.sessionOver t 1

/-- SESSION_TIMEOUT (R348). -/
def Effect.sessionTimeout : Prop := ∀ s : State, s.on SEA_STAT.SESSION = true → s.umb.frozen = false → s.sea.sessionEnd ≤ s.time.aoTick →
  ∃ t, exec .sessionTimeout s = .next t ∧ s.sessionOver t 3

/-- LOCKOUT_END (R346). -/
def Effect.lockoutEnd : Prop := ∀ (s : State) (e : Nat), s.sea.lockEnd = some e → s.umb.frozen = false → e ≤ s.time.aoTick →
  ∃ t, exec .lockoutEnd s = .next t ∧ t.on SEA_STAT.LOCKED = false ∧ s.onlyFields t [SEA_STAT.LOCKED]
    ∧ t = { s with regs := t.regs, sea := { s.sea with lockEnd := none } }

/-- PATCH_INSTALL (R360): the tests of the image at SYS_PATCH_SRC begin. -/
def Effect.patchInstall : Prop := ∀ s : State, s.twillRuns = true → s.on SYS_PATCH_STAT.BUSY = false →
  ∃ t, exec .patchInstall s = .next t ∧ t.on SYS_PATCH_STAT.BUSY = true ∧ s.onlyFields t [SYS_PATCH_STAT.BUSY]
    ∧ t = { s with regs := t.regs, sea := { s.sea with installing := some (s.get SYS_PATCH_SRC.ADDR) } }

/-- PATCH_TESTS_DONE (R361, Table SEA-5): CODE names the first test that failed, and such an image is not stored; one that passes has its record
written, and a store of its region and of SR03 is requested. -/
def Effect.patchTestsDone : Prop := ∀ (s : State) (a : Nat), s.lgcRuns = true → s.sea.installing = some a → s.boot.unrecalled = [] →
    s.fab.eccSingle = [] → s.fab.eccDouble = [] →
  ∃ t, exec (.patchTestsDone none) s = .next t ∧ t.on SYS_PATCH_STAT.BUSY = false ∧ t.get SYS_PATCH_STAT.CODE = (s.patchCode a).1
    ∧ t.sea = { s.sea with installing := none } ∧ t.calico = s.calico ∧ t.sto.array = s.sto.array
    ∧ ((s.patchCode a).1 ≠ 0 → t.raised Ev.PATCH_REFUSED ∧ s.onlyFields t [SYS_PATCH_STAT.BUSY, SYS_PATCH_STAT.CODE] ∧ t.sto = s.sto)
    ∧ ((s.patchCode a).1 = 0 → 64 ≤ patchLen ((List.range 2).map (fun k => Memory.word s.calico (4 * (a - 0x400000 + k)))) → t.raised Ev.PATCH_INSTALLED ∧ (t.get STO_STAT.PENDING).testBit 3 = true
      ∧ ∃ n, n < 2 ∧ t.rd (SEA_PATCH_FLOOR.addr n) = Memory.word s.calico (4 * (a - 0x400000 + 2))
        ∧ (t.get STO_STAT.PENDING).testBit (patchRegion n) = true)

/-- PATCH_TESTS_DONE (R21, R361): an image whose header holds a word with a double-bit error fails the test of its header, and the error is recorded.
That an unreadable word fails the test that reads it is log entry 10. -/
def Effect.patchHeaderUnreadable : Prop := ∀ (s : State) (a k : Nat), s.lgcRuns = true → s.sea.installing = some a → 0x420000 ≤ a → a + 1 < 0x460000 →
    s.headerCode a ((List.range 64).map (s.imageWord a)) ≠ 1 → s.fab.eccSingle = [] → s.fab.eccDouble = [k] →
    a - 0x400000 ≤ k → k < a - 0x400000 + 64 →
  ∃ t, exec (.patchTestsDone none) s = .next t ∧ t.get SYS_PATCH_STAT.CODE = 2 ∧ t.get TWL_ECC.UNCORR = min 255 (s.get TWL_ECC.UNCORR + 1)
    ∧ t.get TWL_ECC_ADDR.ADDR = k ∧ t.raised Ev.ECC_UNCORR ∧ t.raised Ev.PATCH_REFUSED ∧ t.sto = s.sto

/-- PATCH_TESTS_DONE (R21, R361): an image whose body holds a word with a double-bit error fails the test of its signature, and the error is recorded.
That an unreadable word fails the test that reads it is log entry 10. -/
def Effect.patchUnreadable : Prop := ∀ (s : State) (a k : Nat), s.lgcRuns = true → s.sea.installing = some a → 0x420000 ≤ a → a + 1 < 0x460000 →
    s.headerCode a ((List.range 64).map (s.imageWord a)) = 0 → s.fab.eccSingle = [] → s.fab.eccDouble = [k] →
    a - 0x400000 + 64 ≤ k → k < a - 0x400000 + patchLen ((List.range 64).map (s.imageWord a)) →
  ∃ t, exec (.patchTestsDone none) s = .next t ∧ t.get SYS_PATCH_STAT.CODE = 8 ∧ t.get TWL_ECC.UNCORR = min 255 (s.get TWL_ECC.UNCORR + 1)
    ∧ t.get TWL_ECC_ADDR.ADDR = k ∧ t.raised Ev.ECC_UNCORR ∧ t.raised Ev.PATCH_REFUSED ∧ t.sto = s.sto

/-- PATCH_REMOVE (R362): the record of the image is cleared and FLOOR kept. -/
def Effect.patchRemove : Prop := ∀ (s : State) (core : BitVec 2), s.twillRuns = true → s.on SYS_PATCH_STAT.BUSY = false → (core = 1 ∨ core = 2) →
    s.boot.unrecalled = [] →
  ∃ t, exec (.patchRemove core) s = .next t ∧ t.get SYS_PATCH_STAT.CODE = 0
    ∧ t.sramWord (regionWord 3 (patchWord (core.toNat - 1) 4)) = s.rd (SEA_PATCH_FLOOR.addr (core.toNat - 1))
    ∧ t.sramWord (regionWord 3 (patchWord (core.toNat - 1) 5)) = 0
    ∧ (t.get STO_STAT.PENDING).testBit 3 = true ∧ (t.get STO_STAT.PENDING).testBit (9 + core.toNat) = true
    ∧ s.onlyFields t [SYS_PATCH_STAT.CODE, STO_STAT.PENDING, STO_REG_STAT.DIRTY 3]
    ∧ t = { s with regs := t.regs, sto := { s.sto with sram := t.sto.sram, dirty := t.sto.dirty, copyStale := t.sto.copyStale } }

/-! ### The shadow store (chapter 14) -/

/-- The RTC is at a whole multiple of the PERIOD of region `n` (Table STO-2). -/
def State.periodDue (s : State) (n : Nat) : Bool :=
  s.get (STO_REG_CFG.PERIOD n) != 0 && s.time.rtc.toNat % (61440 * s.get (STO_REG_CFG.PERIOD n)) == 0 && s.time.presc == 0

/-- STORE_PERIOD (Table STO-2): a store of each region whose period has come is requested. -/
def Effect.storePeriod : Prop := ∀ s : State, s.twillRuns = true →
  ∃ t, exec .storePeriod s = .next t
    ∧ (∀ n, n < 16 → (t.get STO_STAT.PENDING).testBit n = ((s.get STO_STAT.PENDING).testBit n || s.periodDue n))
    ∧ s.onlyFields t [STO_STAT.PENDING] ∧ t = { s with regs := t.regs }

/-- STORE_START (R397, R398): the store of the next requested region begins over its dirty pages; the array is not yet written. -/
def Effect.storeStart : Prop := ∀ (s : State) (n : Nat), s.sto.run = none → s.nextStore = some n → s.storeRuns = true → s.shed = false →
    s.sto.exhausted.contains n = false →
  ∃ t todo, exec .storeStart s = .next t ∧ t.sto.run = some ⟨n, todo, 0, false⟩ ∧ (n ≠ 0 → n ≠ 3 → todo = s.dirtyOf n)
    ∧ t.on STO_STAT.STORING = true ∧ t.get STO_STAT.CURRENT = n ∧ (t.get STO_STAT.PENDING).testBit n = false
    ∧ t.sto.array = s.sto.array ∧ t.sto.pageMeta = s.sto.pageMeta ∧ t.calico = s.calico ∧ t.time = s.time ∧ t.mode = s.mode ∧ t.pending = s.pending

/-- STORE_START (R403): a store of an exhausted region is refused. -/
def Effect.storeStartEnd : Prop := ∀ (s : State) (n : Nat), s.sto.run = none → s.nextStore = some n → s.storeRuns = true → s.shed = false →
    s.sto.exhausted.contains n = true →
  ∃ t, exec .storeStart s = .next t ∧ t.get STO_LAST.RESULT = 3 ∧ t.get STO_LAST.REGION = n ∧ t.get STO_LAST.PAGES = 0
    ∧ (t.get STO_STAT.PENDING).testBit n = false
    ∧ s.onlyFields t [STO_LAST.RESULT, STO_LAST.REGION, STO_LAST.PAGES, STO_STAT.PENDING] ∧ t = { s with regs := t.regs }

/-- A store runs over the pages `p :: rest` and has not been told to end, no reset store is under way, and page `p` has not reached its endurance. -/
def State.storing (s : State) (r : StoreRun) (p : Nat) (rest : List Nat) : Prop :=
  s.sto.run = some r ∧ r.todo = p :: rest ∧ s.storeRuns = true ∧ s.storeEnds = false ∧ s.pwr.pf ≠ .resetStore ∧ (s.pageMeta (s.physPage p)).counter < 2000000

/-- STORE_PAGE_DONE (R398, R402): the physical page holds the page buffer, its counter has counted the program, and no other byte of the array
changes; the store goes on with the next page. -/
def Effect.storePageDone : Prop := ∀ (s : State) (r : StoreRun) (p : Nat) (rest : List Nat), s.storing r p rest →
  ∃ t, exec (.storePageDone true) s = .next t ∧ t.sto.run = some ⟨r.region, rest, r.count + 1, false⟩
    ∧ Memory.bytes t.sto.array (256 * s.physPage p) 256 = Memory.bytes s.vault (4 * 0x0B0) 256
    ∧ (∀ a, (a < 256 * s.physPage p ∨ 256 * s.physPage p + 256 ≤ a) → Memory.byte t.sto.array a = Memory.byte s.sto.array a)
    ∧ t.pageMeta (s.physPage p)
      = ⟨true, p, (s.pageMeta (s.physPage p)).counter + 1,
          pageCrc (Memory.bytes s.vault (4 * 0x0B0) 256) p ((s.pageMeta (s.physPage p)).counter + 1)⟩
    ∧ t.sto.dirty = (if s.sto.copyStale then s.sto.dirty else s.sto.dirty.filter (· != p))
    ∧ t.sto.remap = s.sto.remap ∧ t.sto.sram = s.sto.sram ∧ t.calico = s.calico ∧ t.time = s.time ∧ t.mode = s.mode ∧ t.pending = s.pending

/-- STORE_PAGE_DONE (R398): after a first bad read-back the page is programmed once more. -/
def Effect.storePageRetry : Prop := ∀ (s : State) (r : StoreRun) (p : Nat) (rest : List Nat), s.storing r p rest → r.retried = false →
  ∃ t, exec (.storePageDone false) s = .next t ∧ t.sto.run = some { r with retried := true } ∧ t.evt = (s.raise Ev.PROGRAM_RETRY).evt
    ∧ (t.pageMeta (s.physPage p)).counter = (s.pageMeta (s.physPage p)).counter + 1
    ∧ t = { s with evt := t.evt, sto := { s.sto with run := t.sto.run, array := t.sto.array, pageMeta := t.sto.pageMeta,
                                                      candArray := t.sto.candArray } }

/-- STORE_PAGE_DONE (R103): a store that has been told to end stores no further page once it stands at a page boundary. -/
def Effect.storeEnded : Prop := ∀ (s : State) (good : Bool), s.storeEnds = true → exec (.storePageDone good) s = .next s

/-- STORE_PAGE_DONE (R402): after a second one a page of an open region moves to a spare. -/
def Effect.storePageSpare : Prop := ∀ (s : State) (r : StoreRun) (p : Nat) (rest : List Nat), s.storing r p rest → r.retried = true →
    regionSealed (pageRegion p) = false → s.sto.openUsed < 16 →
  ∃ t, exec (.storePageDone false) s = .next t ∧ Sparse.find t.sto.remap p = some (528 + s.sto.openUsed) ∧ t.sto.openUsed = s.sto.openUsed + 1
    ∧ Memory.bytes t.sto.array (256 * (528 + s.sto.openUsed)) 256 = Memory.bytes s.vault (4 * 0x0B0) 256
    ∧ t.raised Ev.SPARE_USED ∧ t.sto.run = some ⟨r.region, rest, r.count + 1, false⟩

/-- STORE_DONE (R397): the store is over, its journal closed, and it is reported. -/
def Effect.storeDone : Prop := ∀ (s : State) (r : StoreRun), s.sto.run = some r → r.todo = [] → r.region < 16 → s.storeRuns = true →
  ∃ t, exec .storeDone s = .next t ∧ t.get STO_LAST.RESULT = 1 ∧ t.get STO_LAST.REGION = r.region ∧ t.get STO_LAST.PAGES = r.count % 1024
    ∧ t.on STO_STAT.STORING = false ∧ t.vaultWord 0x090 = 0 ∧ t.evt = (s.raise (Ev.STORE_DONE r.region)).evt
    ∧ s.onlyFields t [STO_LAST.RESULT, STO_LAST.REGION, STO_LAST.PAGES, STO_STAT.STORING]
    ∧ t = { s with regs := t.regs, evt := t.evt, vault := t.vault, sto := { s.sto with run := none } }

/-- STC_FABRIC_RETRY (R421): a word that Twill now serves is written into its slot, and with the last one the stores are requested. -/
def Effect.stcFabricRetry : Prop := ∀ (s : State) (w : FabricWork) (rest : List FabricWork) (a : Nat) (left : List Nat), s.twillRuns = true → s.sto.work = w :: rest →
    w.kind = 0 → w.words = a :: left → s.boot.unrecalled = [] →
  ∃ t, exec (.stcFabricRetry none) s = .next t ∧ t.sramWord (slotAddr a) = s.rd a &&& stagedMask a
    ∧ t.sto.work = (if left = [] then rest else { w with words := left } :: rest)
    ∧ (left = [] → ∀ n ∈ w.regions, n < 16 → (t.get STO_STAT.PENDING).testBit n = true)
    ∧ s.onlyFields t [STO_STAT.PENDING, STO_REG_STAT.DIRTY (pageRegion (slotAddr a / 256))]
    ∧ t = { s with regs := t.regs, sto := { s.sto with sram := t.sto.sram, dirty := t.sto.dirty, copyStale := t.sto.copyStale, work := t.sto.work } }

/-- STC_FABRIC_RETRY (R421): a further refusal is counted. -/
def Effect.stcFabricRefused : Prop := ∀ (s : State) (w : FabricWork) (rest : List FabricWork) (d : Denial), s.twillRuns = true →
    s.sto.work = w :: rest →
  ∃ t, exec (.stcFabricRetry (some d)) s = .next t
    ∧ t.get (TWL_CNT.REFUSED 9) = min (TWL_CNT.REFUSED 9).max (s.get (TWL_CNT.REFUSED 9) + 1)
    ∧ t.get (TWL_LAST.CODE 9) = (if d.dataErr then 7 else 1) ∧ t.get (TWL_LAST.TARGET 9) = d.target
    ∧ s.onlyFields t [TWL_CNT.REFUSED 9, TWL_LAST.CODE 9, TWL_LAST.TARGET 9]
    ∧ t = { s with regs := t.regs, evt := t.evt, fab := { s.fab with outcome := t.fab.outcome },
                   sto := { s.sto with work := { w with refusals := w.refusals + 1 } :: rest } }

/-! ### The data port (chapter 14) -/

/-- The holder of the STC lease reaches the port, which is free (R19, R405). -/
def State.portReady (s : State) (who : Fin 14) : Prop :=
  s.granted who STO_PCMD.addr (.write 0) ∧ s.on STO_PSTAT.BUSY = false ∧ s.on STO_PSTAT.OPEN = false

/-- The fields of STO_PSTAT. -/
def portFields : List Fd := [STO_PSTAT.BUSY, STO_PSTAT.OPEN, STO_PSTAT.WRITE, STO_PSTAT.RESULT, STO_PSTAT.REMAIN]

/-- STO_STORE (R409): a store of every region of the mask is requested; a mask that names an exhausted region is refused for that one. -/
def Effect.stoStore : Prop := ∀ (s : State) (who : Fin 14) (mask : BitVec 16), s.portReady who →
  ∃ t, exec (.stoStore who mask) s = .next t
    ∧ (∀ n, n < 16 → (t.get STO_STAT.PENDING).testBit n
        = ((s.get STO_STAT.PENDING).testBit n || (mask.getLsbD n && !s.sto.exhausted.contains n)))
    ∧ ((∀ n, n < 16 → mask.getLsbD n = true → s.sto.exhausted.contains n = false) → t.get STO_PSTAT.RESULT = 1 ∧ t.evt = (s.raise Ev.CMD_DONE).evt)
    ∧ ((∃ n, n < 16 ∧ mask.getLsbD n = true ∧ s.sto.exhausted.contains n = true) → t.get STO_PSTAT.RESULT = 3 ∧ t.evt = (s.raise Ev.CMD_REFUSED).evt)
    ∧ s.onlyFields t (STO_STAT.PENDING :: portFields) ∧ t = { s with regs := t.regs, evt := t.evt, fab := { s.fab with outcome := t.fab.outcome } }

/-- The words of a port command: passwords and status. -/
def portWords : List Nat := STO_PSTAT.addr :: (List.range 4).map STO_PW.addr

/-- STO_READ and STO_WRITE (R406, R407): a region's owner opens a transfer at once. -/
def Effect.portOwner : Prop := ∀ (s : State) (who : Fin 14) (region : Fin 32) (w : Bool), s.portReady who → region.val < 16 →
    regionOwner region = who.val → portForbidden (if w then 3 else 2) region (s.get STO_PADDR.OFFSET) (s.get STO_PLEN.LEN) = false →
    portInside (if w then 3 else 2) region (s.get STO_PADDR.OFFSET) (s.get STO_PLEN.LEN) = true →
  ∃ t, exec (if w then .stoWrite who region else .stoRead who region) s = .next t
    ∧ t.sto = { s.sto with transfer := some ⟨w, region, s.get STO_PADDR.OFFSET, s.get STO_PLEN.LEN / 4, who⟩ }
    ∧ t.on STO_PSTAT.OPEN = true ∧ t.on STO_PSTAT.WRITE = w ∧ t.get STO_PSTAT.RESULT = 1
    ∧ (∀ j, j < 4 → t.rd (STO_PW.addr j) = 0) ∧ s.onlyWords t portWords
    ∧ t = { s with regs := t.regs, sto := t.sto, fab := { s.fab with outcome := t.fab.outcome } }

/-- STO_READ, STO_WRITE, STO_SETPWR and STO_SETPWW on SR12 to SR15 (R410, R411, R415): the check begins, the words of STO_PW are taken and cleared,
and outside a lock-out the attempt is counted. -/
def Effect.portChecked : Prop := ∀ (s : State) (who : Fin 14) (region : Fin 32) (cmd : Nat) (c : Instr),
    (cmd, c) ∈ [(2, Instr.stoRead who region), (3, .stoWrite who region), (4, .stoSetPwr who region), (5, .stoSetPww who region)] →
    s.portReady who → 12 ≤ region.val → region.val < 16 → who.val < 14 → s.portLocked region = false →
  ∃ t, exec c s = .next t
    ∧ t.sto = { s.sto with check := some ⟨cmd, region, s.get STO_PADDR.OFFSET, s.get STO_PLEN.LEN, who, [s.rd (STO_PW.addr 2), s.rd (STO_PW.addr 3)],
        false, false, portInside cmd region (s.get STO_PADDR.OFFSET) (s.get STO_PLEN.LEN)
          && s.passwordGood cmd region [s.rd (STO_PW.addr 0), s.rd (STO_PW.addr 1)], s.time.runCyc⟩ }
    ∧ t.on STO_PSTAT.BUSY = true ∧ t.get (STO_LOCK.FAILS region) = min 8 (s.get (STO_LOCK.FAILS region) + 1)
    ∧ (∀ j, j < 4 → t.rd (STO_PW.addr j) = 0) ∧ s.onlyWords t (STO_LOCK.addr region :: portWords)
    ∧ t = { s with regs := t.regs, sto := t.sto, fab := { s.fab with outcome := t.fab.outcome } }

/-- TRANSFER_CLOSE (R405): the open transfer ends. -/
def Effect.transferClose : Prop := ∀ (s : State) (who : Fin 14) (x : Transfer), s.granted who STO_PCMD.addr (.write 0) →
    s.sto.transfer = some x →
  ∃ t, exec (.transferClose who) s = .next t ∧ t.on STO_PSTAT.OPEN = false ∧ t.get STO_PSTAT.RESULT = 1 ∧ t.get STO_PSTAT.REMAIN = 0
    ∧ t.evt = (s.raise Ev.CMD_DONE).evt ∧ s.onlyFields t portFields
    ∧ t = { s with regs := t.regs, evt := t.evt, sto := { s.sto with transfer := none }, fab := { s.fab with outcome := t.fab.outcome } }

/-- The 96 µs of the port's check have run out while the store clock ran (R411). -/
def State.checkDone (s : State) (k : PortCheck) : Prop :=
  s.sto.check = some k ∧ s.storeRuns = true ∧ hasCome (s.time.runCyc - k.since) 96 = true

/-- ACCESS_CHECK_DONE (R411, R412): a refusal is DENIED, and the eighth failure starts the counter's lock-out. -/
def Effect.accessDenied : Prop := ∀ (s : State) (k : PortCheck), s.checkDone k → k.good = false → k.region < 32 →
    k.owner = false → k.locked = false →
  ∃ t, exec .accessCheckDone s = .next t ∧ t.get STO_PSTAT.RESULT = 2 ∧ t.on STO_PSTAT.BUSY = false ∧ t.sto.check = none
    ∧ t.raised Ev.ACCESS_DENIED ∧ t.raised Ev.CMD_REFUSED
    ∧ (s.get (STO_LOCK.FAILS (attemptCounter k.region)) < 8 → t.sto.lockEnd = s.sto.lockEnd)
    ∧ (8 ≤ s.get (STO_LOCK.FAILS (attemptCounter k.region)) → t.get (STO_LOCK.FAILS (attemptCounter k.region)) = 0
      ∧ t.get (STO_LOCK.LEVEL (attemptCounter k.region)) = min 11 (s.get (STO_LOCK.LEVEL (attemptCounter k.region)) + 1)
      ∧ Sparse.find t.sto.lockEnd (attemptCounter k.region) = some (s.time.aoTick + lockTicks (s.get (STO_LOCK.LEVEL (attemptCounter k.region))))
      ∧ t.raised Ev.LOCKOUT_STO)
    ∧ s.onlyFields t (STO_LOCK.FAILS (attemptCounter k.region) :: STO_LOCK.LEVEL (attemptCounter k.region) :: portFields)
    ∧ t = { s with regs := t.regs, evt := t.evt, sto := { s.sto with check := none, lockEnd := t.sto.lockEnd } }

/-- ACCESS_CHECK_DONE (R411): a READ or WRITE that passed opens its transfer while its holder has the lease. -/
def Effect.accessOpened : Prop := ∀ (s : State) (k : PortCheck), s.checkDone k → k.good = true → k.cmd ≤ 3 →
    (s.lease 0).holder = some k.who →
  ∃ t, exec .accessCheckDone s = .next t
    ∧ t.sto = { s.sto with check := none, transfer := some ⟨k.cmd == 3, k.region, k.offset, k.len / 4, k.who⟩ }
    ∧ t.on STO_PSTAT.OPEN = true ∧ t.get STO_PSTAT.RESULT = 1 ∧ t.get (STO_LOCK.FAILS (attemptCounter k.region)) = 0
    ∧ t.get (STO_LOCK.LEVEL (attemptCounter k.region)) = 0
    ∧ s.onlyFields t (STO_LOCK.FAILS (attemptCounter k.region) :: STO_LOCK.LEVEL (attemptCounter k.region) :: portFields)
    ∧ t = { s with regs := t.regs, sto := t.sto }

/-- ACCESS_CHECK_DONE (R415): a password that may be set is written into SR03, and a store of it is requested. -/
def Effect.passwordSet : Prop := ∀ (s : State) (k : PortCheck) (a b : Word), s.checkDone k → k.good = true → 3 < k.cmd →
    k.new = [a, b] → s.boot.unrecalled = [] →
  ∃ t, exec .accessCheckDone s = .next t
    ∧ t.sramWord (regionWord 3 (passwordWord k.region (passwordKind k.cmd))) = a
    ∧ t.sramWord (regionWord 3 (passwordWord k.region (passwordKind k.cmd) + 1)) = b
    ∧ (t.get STO_STAT.PENDING).testBit 3 = true ∧ t.get STO_PSTAT.RESULT = 1 ∧ t.evt = (s.raise Ev.CMD_DONE).evt
    ∧ t = { s with regs := t.regs, evt := t.evt, sto := { s.sto with check := none, sram := t.sto.sram, dirty := t.sto.dirty, copyStale := t.sto.copyStale } }

/-- STO_LOCKOUT_END (R412). -/
def Effect.stoLockoutEnd : Prop := ∀ (s : State) (c : Fin 17) (e : Nat), Sparse.find s.sto.lockEnd c = some e → e ≤ s.time.aoTick →
  ∃ t, exec (.stoLockoutEnd c) s = .next t ∧ Sparse.find t.sto.lockEnd c = none
    ∧ (∀ d, d ≠ c.val → Sparse.find t.sto.lockEnd d = Sparse.find s.sto.lockEnd d)
    ∧ t = { s with sto := { s.sto with lockEnd := t.sto.lockEnd } }

/-- PDATA_ACCESS (R406, R407): a read of an open READ transfer returns its next word and moves it on by one. -/
def Effect.pdataRead : Prop := ∀ (s : State) (who : Fin 14) (x : Transfer), s.granted who STO_PDATA.addr .read →
    s.sto.transfer = some x → x.write = false → 1 < x.left → x.left < 8192 → s.boot.unrecalled = [] →
  ∃ t, exec (.pdataAccess who none) s = .next t
    ∧ Sparse.find t.fab.outcome who.val = some ⟨0, s.sramWord (256 * regionFirst x.region + x.offset), false⟩
    ∧ t.sto = { s.sto with transfer := some { x with offset := x.offset + 4, left := x.left - 1 } }
    ∧ t.get STO_PSTAT.REMAIN = x.left - 1 ∧ s.onlyFields t [STO_PSTAT.REMAIN]
    ∧ t = { s with regs := t.regs, sto := t.sto, fab := { s.fab with outcome := t.fab.outcome } }

/-- PDATA_ACCESS (R395, R406): a write of an open WRITE transfer goes into the shadow SRAM, dirties its page, and changes no other byte. -/
def Effect.pdataWrite : Prop := ∀ (s : State) (who : Fin 14) (v : Word) (x : Transfer),
    s.granted who STO_PDATA.addr (.write v) → s.sto.transfer = some x → x.write = true → 1 < x.left → x.left < 8192 → s.boot.unrecalled = [] →
  ∃ t, exec (.pdataAccess who (some v)) s = .next t ∧ t.sramWord (256 * regionFirst x.region + x.offset) = v
    ∧ (∀ b, (b < 256 * regionFirst x.region + x.offset ∨ 256 * regionFirst x.region + x.offset + 4 ≤ b) →
        Memory.byte t.sto.sram b = Memory.byte s.sto.sram b)
    ∧ (256 * regionFirst x.region + x.offset) / 256 ∈ t.sto.dirty
    ∧ t.sto.transfer = some { x with offset := x.offset + 4, left := x.left - 1 } ∧ t.sto.array = s.sto.array
    ∧ t = { s with regs := t.regs, sto := t.sto, fab := { s.fab with outcome := t.fab.outcome } }

/-! ### Keys and counters (chapter 17) -/

/-- No frame waits under a key: none is queued, in hand or in back-off. -/
def State.framesIdle (s : State) : Prop :=
  s.pls.own = [] ∧ s.pls.train = none ∧ s.rad.own = [] ∧ s.rad.active = none ∧ s.lop.own = []

/-- KEY_UPDATE (R492, R493, R499): the slot takes the key of SEC_KEY, its use and the next generation; its counter starts at 0 with no confirmed
reservation, and the key words are cleared. -/
def Effect.keyUpdate : Prop := ∀ (s : State) (slot : Fin 32) (size : Bool) (use : BitVec 4), s.twillRuns = true →
    (use.toNat < 8 ∨ (use.toNat = 8 ∧ size = false)) → s.framesIdle → s.sto.exhausted = [] → s.boot.unrecalled = [] →
  ∃ t, exec (.keyUpdate slot size use) s = .next t ∧ t.get (SEC_KS_CFG.STATE slot) = 1 ∧ t.on (SEC_KS_CFG.SIZE slot) = size
    ∧ t.get (SEC_KS_CFG.USE slot) = use.toNat ∧ t.get (SEC_KS_CFG.GEN slot) = (s.get (SEC_KS_CFG.GEN slot) + 1) % 256
    ∧ t.get (SEC_KS_CTR.CTR slot) = 0 ∧ t.get (SEC_KS_LIM.LIM slot) = 0 ∧ Sparse.find t.sec.pending slot.val = some 1024
    ∧ t.slotKey slot = (wordBytes ((List.range (if size then 8 else 4)).map (fun j => s.rd (SEC_KEYW.addr j)))).map BitVec.toNat
    ∧ (∀ j, j < 8 → t.rd (SEC_KEYW.addr j) = 0) ∧ (∀ e ∈ t.sec.rx, e.slot ≠ slot.val)
    ∧ t.get SEC_CMD.RESULT = 1 ∧ t.raised Ev.KEY_UPDATED ∧ t.calico = s.calico ∧ t.time = s.time ∧ t.mode = s.mode ∧ t.pending = s.pending

/-- KEY_UPDATE (R494): bit 3 of USE with another bit of it, or with 256 bits, is refused, and nothing else changes. -/
def Effect.keyRefused : Prop := ∀ (s : State) (slot : Fin 32) (size : Bool) (use : BitVec 4), s.twillRuns = true →
    8 ≤ use.toNat → (use.toNat ≠ 8 ∨ size = true) →
  ∃ t, exec (.keyUpdate slot size use) s = .next t ∧ t.get SEC_CMD.RESULT = 2 ∧ s.onlyFields t [SEC_CMD.RESULT] ∧ t = { s with regs := t.regs }

/-- KEY_ERASE (Table SEC-4): the slot is EMPTY and its key 0. -/
def Effect.keyErase : Prop := ∀ (s : State) (slot : Fin 32), s.twillRuns = true → s.boot.unrecalled = [] →
  ∃ t, exec (.keyErase slot) s = .next t ∧ t.get (SEC_KS_CFG.STATE slot) = 0 ∧ t.get SEC_CMD.RESULT = 1 ∧ (∀ x ∈ t.slotKey slot, x = 0)
    ∧ (t.get STO_STAT.PENDING).testBit 5 = true
    ∧ t = { s with regs := t.regs, vault := t.vault, sto := { s.sto with sram := t.sto.sram, dirty := t.sto.dirty, copyStale := t.sto.copyStale } }

/-- SEC_RAISE_LIMIT (R504): an event whose count has grown is raised again 60 s after its latest raise. -/
def Effect.secRaiseLimit : Prop := ∀ s : State,
  ∃ t, exec .secRaiseLimit s = .next t
    ∧ (s.sec.auth.due s.time.aoTick = true → t.raised Ev.AUTH_FAIL ∧ t.sec.auth = ⟨some s.time.aoTick, false⟩)
    ∧ (s.sec.auth.due s.time.aoTick = false → t.sec.auth = s.sec.auth)
    ∧ (s.sec.replay.due s.time.aoTick = true → t.raised Ev.REPLAY ∧ t.sec.replay = ⟨some s.time.aoTick, false⟩)
    ∧ (s.sec.replay.due s.time.aoTick = false → t.sec.replay = s.sec.replay)
    ∧ t = { s with evt := t.evt, sec := { s.sec with auth := t.sec.auth, replay := t.sec.replay } }

/-- RESV_STORED (R418, R499): with SR06 stored, the limits written before it are confirmed. -/
def Effect.resvStored : Prop := ∀ (s : State) (n : Fin 32) (lim : Nat), s.twillRuns = true → s.reservationOver = true → s.sto.exhausted = [] → s.sec.pending = [(n.val, lim)] →
    lim < 2 ^ 32 → s.framesIdle →
  ∃ t, exec .resvStored s = .next t ∧ t.get (SEC_KS_LIM.LIM n) = lim ∧ t.sec.pending = [] ∧ t.sto = { s.sto with resvPending := false }
    ∧ t.raised Ev.RESV_STORED ∧ t.vault = s.vault ∧ t.time = s.time ∧ t.mode = s.mode ∧ t.pending = s.pending

/-! ### Power-line signalling (chapter 15) -/

/-- What PLS_STAT shows of the trains and queues. -/
def plsShown : List Fd := [PLS_STAT.TXACT, PLS_STAT.RXACT, PLS_STAT.RCUR, PLS_STAT.QOWN, PLS_STAT.QRELAY]

/-- The frames given have gone back to NWC, one try further, in their order (R441). -/
def Pls.framesBack (p q : Pls) (fs : List OutFrame) : Prop :=
  q.own = (fs.filter (fun f => !f.relay)).map (fun f => { f with tries := f.tries + 1 }) ++ p.own
    ∧ q.relays = (fs.filter (fun f => f.relay)).map (fun f => { f with tries := f.tries + 1 }) ++ p.relays

/-- NWC may load a train: it runs, holds the PTX lease, nobody waits for it, and the routes are recalled (R443). -/
def State.plsLoads (s : State) : Prop :=
  s.plsEnabled = true ∧ s.coreUp 2 = true ∧ (s.lease 3).holder = some 2 ∧ (s.lease 3).queue = [] ∧ s.routesReady = true ∧ s.con.toLoad = []

/-- NWC has released the PTX lease, and the registers of the lease and of power-line signalling show it (R34, R443). -/
def State.plsLoaded (s t : State) : Prop :=
  t.lease 3 = ⟨none, 0, []⟩ ∧ t.leaseResult 2 = 5 ∧ (∀ k, k ≠ 3 → t.lease k = s.lease k) ∧ (∀ i, i ≠ 2 → t.leaseResult i = s.leaseResult i)
    ∧ s.onlyFields t (PLS_CNT3.RELAYDELAY :: plsShown ++ [TWL_LEASE.HELD 3, TWL_LEASE.HOLDER 3, TWL_LEASE.QLEN 3])
    ∧ t = { s with regs := t.regs, pls := t.pls, fab := { s.fab with leases := t.fab.leases, result := t.fab.result } }

/-- PLS_TRAIN_LOAD (R443, R434, R442): the own frame that waits, unprotected, becomes a train in its back-off, its CRC appended and MORE 0; relays
that wait behind it are counted once (R444). -/
def Effect.plsTrainLoad : Prop := ∀ (s : State) (f : OutFrame), s.plsLoads → s.pls.train = none → s.pls.own = [f] → f.slot = none → f.relay = false →
  ∃ t, exec (.plsTrainLoad []) s = .next t ∧ t.pls.own = [] ∧ t.pls.counted = 0
    ∧ t.pls.train = some ⟨[s.plsForm f 0 false], f.next, s.repetition f.next, s.get PLS_PHY.SPAN, frameSymbols (s.plsForm f 0 false).bytes,
        0, false, .backoff, 0, s.rd PLS_PHY.addr⟩
    ∧ t.pls.relays = s.pls.relays.map (fun g => { g with delayed := true })
    ∧ t.get PLS_CNT3.RELAYDELAY = min 4095 (s.get PLS_CNT3.RELAYDELAY + (s.pls.relays.filter (fun g => !g.delayed)).length)
    ∧ t.pls.seq = s.pls.seq ∧ t.pls.rx = s.pls.rx ∧ t.pls.taken = s.pls.taken ∧ t.pls.ackDue = s.pls.ackDue ∧ s.plsLoaded t

/-- PLS_TRAIN_LOAD (R435, R443, R449): while a train is in the transmitter, NWC's own message becomes an own frame, with the next link sequence, and
waits. -/
def Effect.plsFrameMade : Prop := ∀ (s : State) (m : NetMessage) (tr : Train) (routing next : Nat) (route : List Byte), s.plsLoads →
    s.pls.train = some tr → m.slot = none → s.routeFor m.dst.toNat = some (routing, route, next) → s.on PLS_CFG.ROLE = false →
    25 + route.length + m.payload.length ≤ 192 → (s.get SEC_CFG.REQUIRE).testBit 0 = false →
  ∃ t, exec (.plsTrainLoad [m]) s = .next t
    ∧ t.pls = { s.pls with
        own := s.pls.own ++ [⟨[], s.plsPlain 0 routing false (m.ackreq && m.dst.toNat != broadcast) m.dst.toNat next route m.payload, none, next,
          m.ackreq && m.dst.toNat != broadcast, false, 0, false, .plain⟩],
        seq := (s.pls.seq + 1) % 256 }
    ∧ t.get PLS_CNT3.RELAYDELAY = s.get PLS_CNT3.RELAYDELAY ∧ s.plsLoaded t

/-- PLS_BACKOFF_END (R438, R439): 16 idle half-cycles and the slots drawn have passed on a locked line: the train starts at its preamble. -/
def Effect.plsBackoffEnd : Prop := ∀ (s : State) (r : Nat) (t : Train), s.pls.train = some t → t.stage = .backoff → s.plsRunning = true →
    s.mediumBusy = false → s.plsLocked = true → s.pls.ackDue = none → r < 2 ^ s.cwExp → 16 ≤ s.pls.idle → 8 * r ≤ s.pls.counted →
  ∃ u, exec (.plsBackoffEnd r) s = .next u
    ∧ u.pls = { s.pls with train := some { t with stage := .sending, pos := 0 }, weak := [], gap := 0 }
    ∧ u.on PLS_STAT.TXACT = true ∧ u.get PLS_STAT.RCUR = codeOf t.r ∧ s.onlyFields u plsShown ∧ u = { s with regs := u.regs, pls := u.pls }

/-- The lock bits show the trackers (Table PLS-6). -/
def State.locksShown (s t : State) : Prop := ∀ n, n < 3 → (t.get PLS_STAT.LOCK).testBit n = s.on (CLK_ZC.LOCK n)

/-- PLS_HALF_CYCLE (R425 to R428, R446) while a train is sent on a locked line: the next pulse in the slot of the symbol due, on the timing phase and
the coupled ones; weak pulses are counted. -/
def Effect.plsHalfSent : Prop := ∀ (s : State) (ws : List PhaseWave) (t : Train), s.plsRunning = true → s.pls.train = some t → t.stage = .sending →
    s.plsLocked = true →
  ∃ u, exec (.plsHalfCycle ws) s = .next u ∧ u.pls.train = some { t with pos := t.pos + 1 }
    ∧ u.pls.pulse = (if t.pos < t.length then some (t.slot t.pos, s.plsPhases) else none)
    ∧ (t.pos < t.length → ∀ p ∈ s.plsPhases, Sparse.find u.pls.weak p
        = some (if (wave ws p).peak < phyItxmin t.phy then (Sparse.find s.pls.weak p).getD 0 + 1 else 0))
    ∧ (t.length ≤ t.pos → u.pls.weak = s.pls.weak) ∧ u.pls.ackDue = s.pls.ackDue.map (fun a => { a with left := a.left - 1 })
    ∧ u.on PLS_STAT.PAUSED = false ∧ (s.on PLS_STAT.PAUSED = true → u.raised Ev.TX_RESUME) ∧ (s.on PLS_STAT.PAUSED = false → u.evt = s.evt)
    ∧ u.pls.held = s.pls.held.map (fun x => { x with left := x.left - (x.stage == .ackWait).toNat })
    ∧ s.locksShown u ∧ s.onlyFields u [PLS_STAT.LOCK, PLS_STAT.PAUSED]
    ∧ u = { s with regs := u.regs, evt := u.evt, pls := { s.pls with
              train := u.pls.train, held := u.pls.held, pulse := u.pls.pulse, weak := u.pls.weak, ackDue := u.pls.ackDue, gap := 0, idle := 0, recent := 0, quiet := 0 } }

/-- PLS_HALF_CYCLE (R446) while a train is sent and the timing phase is unlocked: the transmitter sends no pulse and counts on; the first such
half-cycle is a pause. -/
def Effect.plsHalfPaused : Prop := ∀ (s : State) (ws : List PhaseWave) (t : Train), s.plsRunning = true → s.pls.train = some t → t.stage = .sending →
    s.plsLocked = false →
  ∃ u, exec (.plsHalfCycle ws) s = .next u ∧ u.pls.train = some { t with pos := t.pos + 1 } ∧ u.on PLS_STAT.PAUSED = true
    ∧ (s.on PLS_STAT.PAUSED = false → u.get PLS_CNT2.PAUSES = min 255 (s.get PLS_CNT2.PAUSES + 1) ∧ u.raised Ev.TX_PAUSE)
    ∧ (s.on PLS_STAT.PAUSED = true → u.get PLS_CNT2.PAUSES = s.get PLS_CNT2.PAUSES ∧ u.evt = s.evt)
    ∧ u.pls.held = s.pls.held.map (fun x => { x with left := x.left - (x.stage == .ackWait).toNat })
    ∧ s.locksShown u ∧ s.onlyFields u [PLS_STAT.LOCK, PLS_STAT.PAUSED, PLS_CNT2.PAUSES]
    ∧ u = { s with regs := u.regs, evt := u.evt, pls := { s.pls with
              train := u.pls.train, held := u.pls.held, pulse := none, ackDue := u.pls.ackDue, gap := s.pls.gap + 1, idle := 0, recent := 0, quiet := 0 } }

/-- PLS_HALF_CYCLE (R429, R438) with no train: nothing is sent, and a train being received takes one more half-cycle. -/
def Effect.plsHalfHeard : Prop := ∀ (s : State) (ws : List PhaseWave), s.plsRunning = true → s.pls.train = none →
  ∃ u, exec (.plsHalfCycle ws) s = .next u ∧ u.pls.train = none ∧ u.pls.pulse = none
    ∧ (s.pls.rx = none → u.pls.rx = none)
    ∧ (∀ r, s.pls.rx = some r → ∃ h r', u.pls.rx = some r' ∧ r'.line = h :: r.line ∧ r'.symbols = r.symbols
        ∧ r'.erased = (if h = none then r.erased + 1 else 0) ∧ u.pls.idle = 0)
    ∧ s.locksShown u ∧ s.onlyFields u [PLS_STAT.LOCK]
    ∧ u = { s with regs := u.regs, pls := { s.pls with
              pulse := none, rx := u.pls.rx, recent := u.pls.recent, quiet := u.pls.quiet, holdBusy := u.pls.holdBusy, idle := u.pls.idle,
              counted := u.pls.counted, ackDue := u.pls.ackDue } }

/-- TRAIN_END (R434, R441): the train is counted, and waits for its acknowledgement where one of its frames asks for it. -/
def Effect.trainEnd : Prop := ∀ (s : State) (t : Train), s.pls.train = some t → t.stage = .sending → t.length ≤ t.pos →
  ∃ u, exec .trainEnd s = .next u ∧ u.get PLS_CNT0.TRAINS = min 65535 (s.get PLS_CNT0.TRAINS + 1) ∧ u.raised Ev.TRAIN_SENT
    ∧ (t.ack = false → u.on PLS_STAT.TXACT = false)
    ∧ u.pls = { s.pls with
        train := if t.ack then s.pls.held else if t.frames.any (fun f => f.ackreq) && t.next != broadcast then
            some { t with stage := .ackWait, left := ackWindow t.r t.span } else none,
        held := if t.ack then none else s.pls.held, pulse := none, gap := 0, idle := 0, counted := if t.ack then s.pls.counted else 0 }
    ∧ s.onlyFields u (PLS_CNT0.TRAINS :: plsShown) ∧ u = { s with regs := u.regs, evt := u.evt, pls := u.pls }

/-- The train has been abandoned and counted, and its frames have gone back (R428, R446, R448). -/
def State.trainGivenUp (s u : State) (t : Train) : Prop :=
  u.pls.train = none ∧ u.get PLS_CNT0.ABANDONED = min 65535 (s.get PLS_CNT0.ABANDONED + 1) ∧ u.on PLS_STAT.PAUSED = false
    ∧ u.on PLS_STAT.TXACT = false ∧ s.pls.framesBack u.pls t.frames
    ∧ s.onlyFields u (PLS_CNT0.ABANDONED :: PLS_STAT.PAUSED :: plsShown)
    ∧ u = { s with regs := u.regs, evt := u.evt, pls := { s.pls with
              train := none, gap := 0, pulse := none, weak := u.pls.weak, own := u.pls.own, relays := u.pls.relays } }

/-- TX_FAULT (R428). -/
def Effect.txFault : Prop := ∀ (s : State) (phase : Fin 3) (t : Train), 8 ≤ (Sparse.find s.pls.weak phase.val).getD 0 → s.pls.train = some t →
    t.stage = .sending → t.ack = false → (∀ f ∈ t.frames, f.tries < s.get PLS_MAC.RETRY) →
  ∃ u, exec (.txFault phase) s = .next u ∧ s.trainGivenUp u t ∧ u.pls.weak = [] ∧ u.evt = (s.raise Ev.TX_FAULT).evt

/-- TRAIN_ABANDONED (R446). -/
def Effect.trainAbandoned : Prop := ∀ (s : State) (t : Train), s.on PLS_STAT.PAUSED = true → s.get PLS_MAC.GAPMAX ≤ s.pls.gap → s.pls.train = some t →
    t.stage = .sending → t.ack = false → (∀ f ∈ t.frames, f.tries < s.get PLS_MAC.RETRY) →
  ∃ u, exec .trainAbandoned s = .next u ∧ s.trainGivenUp u t ∧ u.pls.weak = s.pls.weak ∧ u.evt = (s.raise Ev.TRAIN_ABANDONED).evt

/-- PREAMBLE_DETECT (R434, R438, R442): a receiver that does not send begins a reception with R of the start word and the SPAN in force. -/
def Effect.preambleDetect : Prop := ∀ (s : State) (code : Fin 3), s.plsRunning = true → s.pls.rx = none →
    (∀ t, s.pls.train = some t → t.stage ≠ .sending) →
  ∃ u, exec (.preambleDetect code) s = .next u
    ∧ u.pls = { s.pls with idle := 0, rx := some ⟨repeatOf (code.val + 1), s.get PLS_PHY.SPAN, [], 0, 0, 0, false, 0, none, 0, s.rd PLS_PHY.addr⟩ }
    ∧ u.on PLS_STAT.RXACT = true ∧ s.onlyFields u plsShown ∧ u = { s with regs := u.regs, pls := u.pls }

/-- GAP_ERASED (R447): the reception ends. -/
def Effect.gapErased : Prop := ∀ (s : State) (r : TrainRx), s.pls.rx = some r → s.get PLS_MAC.GAPMAX < r.erased →
  ∃ u, exec .gapErased s = .next u ∧ u.pls = { s.pls with rx := none, ackDue := u.pls.ackDue }
    ∧ (r.ackreq = false → u.pls.ackDue = s.pls.ackDue) ∧ u.on PLS_STAT.RXACT = false
    ∧ u.evt = (s.raise Ev.GAP_ERASED).evt ∧ s.onlyFields u plsShown ∧ u = { s with regs := u.regs, evt := u.evt, pls := u.pls }

/-- PLS_FRAME_RECEIVED (R436): a header that fails its HCS ends the reception, and the medium stays busy until it falls quiet; so does one whose LEN
no frame can have (log 36). -/
def Effect.plsHeaderBad : Prop := ∀ (s : State) (bytes : List Byte) (refused : Option Denial) (r : TrainRx), s.pls.rx = some r → 3 ≤ bytes.length →
    (crc8 (bytes.take 2) ≠ byteAt bytes 2 ∨ byteAt bytes 1 < 25 ∨ 192 < byteAt bytes 1) → (r.symbols + 24) * r.r + 56 * r.span ≤ r.line.length →
  ∃ u, exec (.plsFrameReceived bytes refused) s = .next u ∧ u.get PLS_CNT2.HCSFAIL = min 255 (s.get PLS_CNT2.HCSFAIL + 1)
    ∧ u.pls = { s.pls with rx := none, holdBusy := true, quiet := 0, ackDue := if r.ackreq then some ⟨r.prev, r.r, r.good, 8⟩ else s.pls.ackDue } ∧ u.evt = (s.raise Ev.HCS_FAIL).evt
    ∧ s.onlyFields u (PLS_CNT2.HCSFAIL :: plsShown) ∧ u = { s with regs := u.regs, evt := u.evt, pls := u.pls }

/-- The bytes are a whole frame that has arrived as the next one of the reception, its header, length and CRC good (R436). -/
def State.plsArrived (s : State) (r : TrainRx) (bytes : List Byte) : Prop :=
  s.pls.rx = some r ∧ crc8 (bytes.take 2) = byteAt bytes 2 ∧ byteAt bytes 1 = bytes.length ∧ 25 ≤ bytes.length ∧ bytes.length ≤ 192
    ∧ crcGood bytes = true ∧ (r.symbols + (8 * bytes.length + 6)) * r.r + 56 * r.span ≤ r.line.length
    ∧ decodes ((List.range (8 * bytes.length + 6)).map (fun i => decidedSymbol (phyDetmin r.phy) r.line.reverse r.r r.span (r.symbols + i))) bytes
        = true

/-- PLS_FRAME_RECEIVED (R437, R440, R443): an unprotected data frame for this hub is taken, counted and delivered, and its acknowledgement falls
due 8 half-cycles after the train. -/
def Effect.plsFrameTaken : Prop := ∀ (s : State) (bytes : List Byte) (r : TrainRx) (n : Nat), s.plsArrived r bytes → s.pod = false →
    s.boot.unrecalled = [] → (plsHeader bytes).type = 0 → (plsHeader bytes).sec = false → (plsHeader bytes).more = false →
    (plsHeader bytes).routing = 0 → (plsHeader bytes).net = s.get PLS_CFG.NETID → (plsHeader bytes).next = s.get PLS_ADDR.ADDR →
    (plsHeader bytes).dst = s.get PLS_ADDR.ADDR → s.nbrFind (plsHeader bytes).prev = some n → s.on PLS_CFG.ROLE = false →
    (s.get SEC_CFG.REQUIRE).testBit 0 = false → Sparse.find s.pls.taken (plsHeader bytes).prev ≠ some (plsHeader bytes).seq →
    6 ≤ bytes.length - 2 - (plsHeader bytes).body →
    conTypes.contains (msgType ((bytes.take (bytes.length - 2)).drop (plsHeader bytes).body)) = true →
  ∃ u, exec (.plsFrameReceived bytes none) s = .next u ∧ u.get PLS_CNT1.FRAMES = min 65535 (s.get PLS_CNT1.FRAMES + 1) ∧ u.raised Ev.FRAME_RX
    ∧ u.inbox = s.inbox ++ [⟨0, (plsHeader bytes).src, (bytes.take (bytes.length - 2)).drop (plsHeader bytes).body, none, 0⟩]
    ∧ u.pls.rx = none ∧ Sparse.find u.pls.taken (plsHeader bytes).prev = some (plsHeader bytes).seq
    ∧ u.pls.ackDue = (if r.ackreq || (plsHeader bytes).ackreq then some ⟨(plsHeader bytes).prev, r.r, r.good + 2 ^ r.index, 8⟩ else s.pls.ackDue)
    ∧ (u.plsNbr n).heard = s.time.aoTick ∧ u.pls.train = s.pls.train ∧ u.pls.own = s.pls.own ∧ u.pls.relays = s.pls.relays
    ∧ s.onlyFields u (PLS_CNT1.FRAMES :: PLS_NBR_B.F n :: PLS_NBR_B.LC n :: STO_REG_STAT.DIRTY 7 :: plsShown)
    ∧ u.con = s.con ∧ u.rad = s.rad ∧ u.lop = s.lop ∧ u.vault = s.vault ∧ u.calico = s.calico ∧ u.time = s.time ∧ u.mode = s.mode
    ∧ u.pending = s.pending

/-- PLS_ACK_SEND (R440): the acknowledgement goes without back-off, in the R of the train; a train of the node's own is held until it is sent. -/
def Effect.plsAckSend : Prop := ∀ (s : State) (a : AckDue), s.pls.ackDue = some a → a.left = 0 → s.plsRunning = true → s.plsLocked = true →
    (∀ t, s.pls.train = some t → t.stage ≠ .sending) →
  ∃ u, exec .plsAckSend s = .next u
    ∧ (∃ f : OutFrame, f.plain = s.plsPlain 1 0 false false a.dest a.dest [] [BitVec.ofNat 8 a.bits] ∧ f.bytes = withCrc f.plain
        ∧ u.pls.train = some ⟨[f], a.dest, a.r, s.get PLS_PHY.SPAN, frameSymbols f.bytes, 0, true, .sending, 0, s.rd PLS_PHY.addr⟩)
    ∧ u.pls = { s.pls with train := u.pls.train, held := s.pls.train, ackDue := none, seq := (s.pls.seq + 1) % 256, weak := [], gap := 0 }
    ∧ u.on PLS_STAT.TXACT = true ∧ u.get PLS_STAT.RCUR = codeOf a.r ∧ s.onlyFields u plsShown ∧ u = { s with regs := u.regs, pls := u.pls }

/-- PLS_ACK_TIMEOUT (R439, R441): CW doubles up to its maximum, and the frames that ask for an acknowledgement go back for another try. -/
def Effect.plsAckTimeout : Prop := ∀ (s : State) (t : Train), s.pls.train = some t → t.stage = .ackWait → t.left = 0 → s.nbrFind t.next = none →
    (∀ f ∈ t.frames, f.tries < s.get PLS_MAC.RETRY) →
  ∃ u, exec .plsAckTimeout s = .next u ∧ u.pls.train = none ∧ u.pls.cw = min (s.get PLS_MAC.CWMAX) (s.cwExp + 1)
    ∧ s.pls.framesBack u.pls (t.frames.filter (fun f => f.ackreq)) ∧ s.onlyFields u plsShown
    ∧ u = { s with regs := u.regs, pls := { s.pls with train := none, cw := u.pls.cw, own := u.pls.own, relays := u.pls.relays } }

/-- ROUTE_ADVERTISEMENT (R454) that is due, of a node without routes: one broadcast frame of type 2 with the node's own entry, its sequence two
further. -/
def Effect.routeAdvertisement : Prop := ∀ s : State, s.plsEnabled = true → s.on PLS_CFG.NETMODE = true → s.routesReady = true → s.advertDue = true →
    (∀ n, n < 128 → s.on (PLS_RT_C.VALID n) = false) →
  ∃ u, exec .routeAdvertisement s = .next u
    ∧ u.pls = { s.pls with
        advert := (s.pls.advert + 2) % 256, advertAt := some s.time.aoTick, costMoved := false, seq := (s.pls.seq + 1) % 256,
        own := s.pls.own ++ [⟨[], s.plsPlain 2 0 false false broadcast broadcast []
          (leBytes 4 (s.get PLS_ADDR.ADDR) ++ leBytes 2 0 ++ [BitVec.ofNat 8 ((s.pls.advert + 2) % 256)]), none, broadcast, false, false, 0, false,
          .plain⟩] }
    ∧ s.onlyFields u plsShown ∧ u = { s with regs := u.regs, pls := u.pls }

/-- NBR_LOST (R452): the neighbour's entry is freed, and the routes through it are broken. -/
def Effect.nbrLost : Prop := ∀ (s : State) (n : Fin 32), s.plsEnabled = true → s.on PLS_CFG.NETMODE = true → s.boot.unrecalled = [] →
    s.get (PLS_NBR_A.ADDR n) ≠ 0 → (s.plsNbr n).heard + 3 * s.get PLS_MAC.ADV * 61440 ≤ s.time.aoTick →
  ∃ u, exec (.nbrLost n) s = .next u ∧ u.rd (PLS_NBR_A.addr n) = 0 ∧ u.rd (PLS_NBR_B.addr n) = 0 ∧ u.plsNbr n = ⟨0, 0, 0, false⟩
    ∧ (∀ m, m < 128 → s.on (PLS_RT_C.VALID m) = true → s.get (PLS_RT_B.NEXT m) = s.get (PLS_NBR_A.ADDR n) → u.on (PLS_RT_C.BROKEN m) = true)
    ∧ u.evt = (s.raise Ev.NBR_LOST).evt
    ∧ s.onlyWords u (PLS_NBR_A.addr n :: PLS_NBR_B.addr n :: STO_REG_STAT.addr 7 :: (List.range 128).map PLS_RT_C.addr)
    ∧ u = { s with regs := u.regs, evt := u.evt, pls := { s.pls with nbrs := u.pls.nbrs, costMoved := u.pls.costMoved },
                   sto := { s.sto with sram := u.sto.sram, dirty := u.sto.dirty, copyStale := u.sto.copyStale } }

/-! ### Radio (chapter 16) -/

/-- What RAD_STAT and MSH_STAT show. -/
def radShown : List Fd := [RAD_STAT.TXACT, RAD_STAT.RXACT, RAD_STAT.DEFER, MSH_STAT.QOWN, MSH_STAT.QRELAY, MSH_STAT.SEEN]

/-- Bytes 0 to 24 of an unprotected data frame of this node, and its payload (Table RAD-4). -/
def State.gauzePlain (s : State) (ackreq : Bool) (dst next : Nat) (payload : List Byte) : List Byte :=
  [BitVec.ofNat 8 (8 * ackreq.toNat + 16 * (decide (0 < s.rad.rsd)).toNat), BitVec.ofNat 8 (27 + payload.length)] ++ leBytes 2 (s.get RAD_CFG.NETID)
    ++ leBytes 4 (s.get RAD_ADDR.ADDR) ++ leBytes 4 dst ++ leBytes 4 (s.get RAD_ADDR.ADDR) ++ leBytes 4 next ++ leBytes 2 s.takeTxSeq.1
    ++ leBytes 2 s.takeOSeq.1 ++ [BitVec.ofNat 8 (s.get MSH_CFG.TTL)] ++ payload

/-- RADIO_FRAME_LOAD (R465, R467, R472, R477): NWC's own message becomes a frame of the own queue, unicast where it asks for an acknowledgement or is a
reply, flooded otherwise; TXSEQ and OSEQ are taken, and the lease is released. -/
def Effect.radioFrameLoad : Prop := ∀ (s : State) (m : NetMessage), s.netRunning = true → s.on RAD_CFG.EN = true → s.coreUp 2 = true →
    (s.lease 2).holder = some 2 → (s.lease 2).queue = [] → m.slot = none → s.rad.own.length < 8 → 27 + m.payload.length ≤ 255 →
    (s.get SEC_CFG.REQUIRE).testBit 1 = false →
  ∃ (t : State) (g : RadFrame), exec (.radioFrameLoad (some m)) s = .next t
    ∧ g.id = s.rad.nextId ∧ g.f.next = (if m.ackreq || m.reply then m.dst.toNat else broadcast)
    ∧ g.f.plain = s.gauzePlain (m.ackreq && m.dst.toNat != broadcast) m.dst.toNat g.f.next m.payload ∧ g.f.bytes = withCrc g.f.plain
    ∧ g.f.ackreq = (m.ackreq && m.dst.toNat != broadcast) ∧ g.f.relay = false ∧ g.f.tries = 0 ∧ g.wake = m.wake ∧ g.reply = m.reply
    ∧ g.listen = m.listen ∧ g.air = gauzeAir (27 + m.payload.length) + (if m.wake then glintAir else 0)
    ∧ g.held = (if !m.wake && !m.reply && s.podJoined g.f.next then some s.time.aoTick else none)
    ∧ t.rad = { s.rad with
        own := (s.rad.own ++ [g]).map (fun x => if x.id == s.rad.nextId then g else x),
        relays := s.rad.relays.map (fun x => if x.id == s.rad.nextId then g else x), nextId := s.rad.nextId + 1, rsd := s.rad.rsd - 1 }
    ∧ t.takeTxSeq.1 = (s.takeTxSeq.1 + 1) % 65536 ∧ t.takeOSeq.1 = (s.takeOSeq.1 + 1) % 65536
    ∧ (∀ a, (a < 4 * 0x280 ∨ 4 * 0x280 + 4 ≤ a) → Memory.byte t.vault a = Memory.byte s.vault a)
    ∧ t.lease 2 = ⟨none, 0, []⟩ ∧ t.leaseResult 2 = 5
    ∧ s.onlyFields t (radShown ++ [TWL_LEASE.HELD 2, TWL_LEASE.HOLDER 2, TWL_LEASE.QLEN 2])
    ∧ t = { s with regs := t.regs, vault := t.vault, rad := t.rad, fab := { s.fab with leases := t.fab.leases, result := t.fab.result } }

/-- The radio runs with nothing in hand. -/
def State.radioIdle (s : State) : Prop := s.radioRunning = true ∧ s.rad.active = none ∧ s.rad.ack = none ∧ s.rad.follow = none

/-- RADIO_BACKOFF_END (R473, R474): `r` slots drawn below 2^BE have passed, and the assessment of the frame of highest rank runs. -/
def Effect.radioBackoffEnd : Prop := ∀ (s : State) (r : Nat) (f : RadFrame) (rest : List RadFrame), s.radioIdle → s.radCandidates = f :: rest →
    r < 2 ^ f.be → (f.reply = true ∨ s.dutyFits f.air = true) →
  ∃ t, exec (.radioBackoffEnd r) s = .next t ∧ t.rad = { s.rad with active := some (f.id, .cca), stageAt := s.time.runCyc } ∧ s.onlyFields t radShown
    ∧ t = { s with regs := t.regs, rad := t.rad }

/-- RADIO_BACKOFF_END (R477): a frame that does not fit the duty budget waits, and is counted the first time. -/
def Effect.radioDeferred : Prop := ∀ (s : State) (r : Nat) (f : RadFrame) (rest : List RadFrame), s.radioIdle → s.radCandidates = f :: rest →
    r < 2 ^ f.be → f.reply = false → s.dutyFits f.air = false → f.dutyCounted = false →
  ∃ t, exec (.radioBackoffEnd r) s = .next t
    ∧ t.rad = (s.setRadFrame { f with deferred := some s.time.aoTick, dutyCounted := true }).rad
    ∧ t.get RAD_CNT2.DUTYDEFER = min 255 (s.get RAD_CNT2.DUTYDEFER + 1) ∧ t.on RAD_STAT.DEFER = true ∧ t.evt = (s.raise Ev.DUTY_DEFER).evt
    ∧ s.onlyFields t (RAD_CNT2.DUTYDEFER :: radShown) ∧ t = { s with regs := t.regs, evt := t.evt, rad := t.rad }

/-- A transmission of `us` µs has begun: it counts in the duty budget of the last hour, and TXACT shows it (R477). -/
def State.wentOnAir (s t : State) (us : Nat) : Prop :=
  t.rad.duty = s.rad.duty.filter (fun e => decide (s.time.aoTick < e.1 + 3686400)) ++ [(s.time.aoTick, us)]
    ∧ t.get RAD_DUTY.USED = min 65535 (t.dutyUsed / 100000) ∧ t.on RAD_STAT.TXACT = true ∧ t.on RAD_STAT.RXACT = false

/-- CCA_DONE (R474, R478, R485) on a channel clear for the 160 µs of the assessment: the frame goes on the air, the Glint pattern first for a WAKE frame; relays that an own frame
overtakes are counted once. -/
def Effect.ccaClear : Prop := ∀ (s : State) (id : Nat) (f : RadFrame), s.rad.active = some (id, .cca) → s.rad.ack = none →
    s.radFrame id = some f → s.passed s.rad.stageAt 160 = true →
  ∃ t, exec (.ccaDone false) s = .next t ∧ t.rad.active = some (id, if f.wake then .glint else .sending)
    ∧ s.wentOnAir t (if f.wake then glintAir else f.air)
    ∧ t.get MSH_CNT0.RELAYDELAY = (if f.f.relay then s.get MSH_CNT0.RELAYDELAY else
        min 65535 (s.get MSH_CNT0.RELAYDELAY + (s.rad.relays.filter (fun g => !g.f.delayed)).length))
    ∧ t.rad.relays = (if f.f.relay then s.rad.relays else s.rad.relays.map (fun g => { g with f := { g.f with delayed := true } }))
    ∧ s.onlyFields t (MSH_CNT0.RELAYDELAY :: RAD_DUTY.USED :: radShown)
    ∧ t = { s with regs := t.regs, evt := t.evt, rad := { s.rad with
              active := t.rad.active, stageAt := s.time.runCyc, duty := t.rad.duty, relays := t.rad.relays } }

/-- CCA_DONE (R474) on a busy channel: BE rises and the assessment is repeated later, up to CCAMAX of them. -/
def Effect.ccaBusy : Prop := ∀ (s : State) (id : Nat) (f : RadFrame), s.rad.active = some (id, .cca) → s.rad.ack = none →
    s.radFrame id = some f → s.passed s.rad.stageAt 160 = true →
    f.busy + 1 < s.get RAD_CCA.CCAMAX →
  ∃ t, exec (.ccaDone true) s = .next t
    ∧ t.rad = { (s.setRadFrame { f with busy := f.busy + 1, be := min (s.get RAD_CCA.BEMAX) (f.be + 1) }).rad with active := none }
    ∧ s.onlyFields t radShown ∧ t = { s with regs := t.regs, rad := t.rad }

/-- The try of a frame has failed and another one follows, with BE and the count of assessments as at a first one (R474, R476). -/
def State.triesAgain (s t : State) (f : RadFrame) : Prop :=
  t.rad = { (s.setRadFrame { f with f := { f.f with tries := f.f.tries + 1 }, be := s.firstBe (f.f.tries + 1), busy := 0 }).rad with active := none }

/-- CCA_DONE (R474, R476): CCAMAX busy assessments fail the try. -/
def Effect.ccaFail : Prop := ∀ (s : State) (id : Nat) (f : RadFrame), s.rad.active = some (id, .cca) → s.rad.ack = none →
    s.radFrame id = some f → s.passed s.rad.stageAt 160 = true →
    s.get RAD_CCA.CCAMAX ≤ f.busy + 1 → f.f.tries < s.get RAD_CCA.RETRY →
  ∃ t, exec (.ccaDone true) s = .next t ∧ s.triesAgain t f ∧ t.get RAD_CNT2.CCAFAIL = min 255 (s.get RAD_CNT2.CCAFAIL + 1)
    ∧ t.evt = (s.raise Ev.CCA_FAIL).evt ∧ s.onlyFields t (RAD_CNT2.CCAFAIL :: radShown)
    ∧ t = { s with regs := t.regs, evt := t.evt, rad := t.rad }

/-- GWAIT_EXPIRY (R478), GWAIT ms after the pattern: the WAKE frame follows its pattern, the pattern's airtime not counted again. -/
def Effect.gwaitExpiry : Prop := ∀ (s : State) (id : Nat) (f : RadFrame), s.rad.active = some (id, .gwait) → s.rad.ack = none →
    s.radFrame id = some f → s.passed s.rad.stageAt (1000 * s.get GLN_CFG.GWAIT) = true →
  ∃ t, exec .gwaitExpiry s = .next t ∧ t.rad.active = some (id, .sending) ∧ s.wentOnAir t (if f.wake then f.air - glintAir else f.air)
    ∧ s.onlyFields t (RAD_DUTY.USED :: radShown)
    ∧ t = { s with regs := t.regs, rad := { s.rad with active := t.rad.active, stageAt := s.time.runCyc, duty := t.rad.duty } }

/-- TX_DONE (R475, R478): the acknowledgement has been sent; the held frame that it announced follows. -/
def Effect.txDoneAck : Prop := ∀ (s : State) (a : RadAck), s.rad.ack = some a → a.sending = true → s.passed s.rad.ackAt ackAir = true →
  ∃ t, exec .txDone s = .next t
    ∧ t.rad = { s.rad with ack := none, follow := if a.follow.isSome then a.follow else s.rad.follow, followAt := s.time.runCyc }
    ∧ s.onlyFields t radShown ∧ t = { s with regs := t.regs, rad := t.rad }

/-- TX_DONE (R478): the Glint pattern has been sent; GWAIT begins. -/
def Effect.txDoneGlint : Prop := ∀ (s : State) (id : Nat), s.rad.ack = none → s.rad.active = some (id, .glint) →
    s.passed s.rad.stageAt glintAir = true →
  ∃ t, exec .txDone s = .next t ∧ t.rad = { s.rad with active := some (id, .gwait), stageAt := s.time.runCyc } ∧ t.on RAD_STAT.TXACT = false
    ∧ s.onlyFields t radShown ∧ t = { s with regs := t.regs, rad := t.rad }

/-- TX_DONE (R461, R475, R476): a Gauze frame has been sent and is counted; it awaits its acknowledgement, or leaves its queue. -/
def Effect.txDoneFrame : Prop := ∀ (s : State) (id : Nat) (f : RadFrame), s.rad.ack = none → s.rad.active = some (id, .sending) →
    s.radFrame id = some f → f.wmb = false → s.passed s.rad.stageAt (if f.wake then f.air - glintAir else f.air) = true →
  ∃ t, exec .txDone s = .next t ∧ t.get RAD_CNT0.TXFRAMES = min 65535 (s.get RAD_CNT0.TXFRAMES + 1) ∧ t.raised Ev.TX_DONE
    ∧ (f.f.ackreq = true → t.rad = { s.rad with active := some (id, .ackWait), stageAt := s.time.runCyc })
    ∧ (f.f.ackreq = false → t.rad = { (s.dropRadFrame id).rad with active := none })
    ∧ (f.f.ackreq = false → f.f.relay = true → t.raised Ev.RELAY_SENT)
    ∧ s.onlyFields t (RAD_CNT0.TXFRAMES :: radShown) ∧ t = { s with regs := t.regs, evt := t.evt, rad := t.rad }

/-- RADIO_ACK_SEND (R475, R477), 500 µs after the frame: without an assessment, never deferred, and counted in the duty budget. -/
def Effect.radioAckSend : Prop := ∀ (s : State) (a : RadAck), s.rad.ack = some a → s.radioRunning = true → s.radioSending = false → s.passed s.rad.ackAt 500 = true →
  ∃ t, exec .radioAckSend s = .next t ∧ t.rad.ack = some { a with sending := true } ∧ s.wentOnAir t ackAir
    ∧ s.onlyFields t (RAD_DUTY.USED :: radShown)
    ∧ t = { s with regs := t.regs, rad := { s.rad with ack := t.rad.ack, ackAt := s.time.runCyc, duty := t.rad.duty } }

/-- RADIO_ACK_RECEIVED (R466, R475, R478, R481): an acknowledgement of the frame in hand ends it; PENDING, or LISTEN of the frame, opens a pod's
receive window. -/
def Effect.radioAcked : Prop := ∀ (s : State) (bytes : List Byte) (id : Nat) (f : RadFrame), s.radioOpen = true → crcGood bytes = true →
    bytes.length = 9 → s.rad.active = some (id, .ackWait) → s.radFrame id = some f → byteAt bytes 0 = 1 → leAt bytes 2 2 = s.get RAD_CFG.NETID →
    leAt bytes 4 2 = leAt f.f.bytes 20 2 → f.f.service = .plain → f.f.relay = false →
  ∃ t, exec (.radioAckReceived bytes) s = .next t
    ∧ t.rad = { (s.dropRadFrame id).rad with
        active := none, window := s.rad.window || (s.pod && (byteAt bytes 6 % 2 == 1 || f.listen)),
        windowAt := if s.pod && (byteAt bytes 6 % 2 == 1 || f.listen) then s.time.runCyc else s.rad.windowAt }
    ∧ s.onlyFields t radShown ∧ t = { s with regs := t.regs, rad := t.rad }

/-- RADIO_ACK_RECEIVED (R466): a frame in its place that fails its CRC, or has not the length of an acknowledgement, is counted. -/
def Effect.radioAckBad : Prop := ∀ (s : State) (bytes : List Byte), s.radioOpen = true → (crcGood bytes = false ∨ bytes.length ≠ 9) →
  ∃ t, exec (.radioAckReceived bytes) s = .next t ∧ t.get RAD_CNT1.CRCFAIL = min 65535 (s.get RAD_CNT1.CRCFAIL + 1)
    ∧ t.evt = (s.raise Ev.CRC_FAIL).evt ∧ s.onlyFields t [RAD_CNT1.CRCFAIL] ∧ t = { s with regs := t.regs, evt := t.evt }

/-- RADIO_ACK_TIMEOUT (R475, R476), 4.3 ms after the frame: another try, up to RETRY further ones. -/
def Effect.radioAckTimeout : Prop := ∀ (s : State) (id : Nat) (f : RadFrame), s.rad.active = some (id, .ackWait) → s.radFrame id = some f →
    s.passed s.rad.stageAt 4300 = true → f.f.tries < s.get RAD_CCA.RETRY →
  ∃ t, exec .radioAckTimeout s = .next t ∧ s.triesAgain t f ∧ s.onlyFields t radShown ∧ t = { s with regs := t.regs, rad := t.rad }

/-- An own frame of NWC itself is given up: counted, and out of its queue (R476). -/
def State.radLost (s t : State) (f : RadFrame) : Prop :=
  t.get RAD_CNT2.NOACK = min 255 (s.get RAD_CNT2.NOACK + 1) ∧ t.evt = (s.raise Ev.RAD_NO_ACK).evt
    ∧ s.onlyFields t (RAD_CNT2.NOACK :: radShown) ∧ t = { s with regs := t.regs, evt := t.evt, rad := t.rad }
    ∧ t.rad.own = s.rad.own.filter (fun g => g.id != f.id)

/-- RADIO_ACK_TIMEOUT (R476) after the last try. -/
def Effect.radioNoAck : Prop := ∀ (s : State) (id : Nat) (f : RadFrame), s.rad.active = some (id, .ackWait) → s.radFrame id = some f →
    s.passed s.rad.stageAt 4300 = true → s.get RAD_CCA.RETRY ≤ f.f.tries → f.f.relay = false → f.f.service = .plain →
  ∃ t, exec .radioAckTimeout s = .next t ∧ s.radLost t f ∧ t.rad = { (s.dropRadFrame f.id).rad with active := none }

/-- PENDING_FRAME_SEND (R478), 2 ms after it: the held frame follows the acknowledgement that announced it, without back-off. -/
def Effect.pendingFrameSend : Prop := ∀ (s : State) (id : Nat) (f : RadFrame), s.rad.follow = some id → s.radFrame id = some f →
    s.radioRunning = true → s.rad.active = none → f.f.bytes ≠ [] → s.passed s.rad.followAt 2000 = true →
  ∃ t, exec .pendingFrameSend s = .next t ∧ t.rad.active = some (id, .sending) ∧ t.rad.follow = none
    ∧ t.rad.own = (s.setRadFrame { f with held := none }).rad.own ∧ s.wentOnAir t (if f.wake then f.air - glintAir else f.air)
    ∧ s.onlyFields t (MSH_CNT0.RELAYDELAY :: RAD_DUTY.USED :: radShown)
    ∧ t = { s with regs := t.regs, evt := t.evt, rad := { s.rad with
              active := t.rad.active, stageAt := s.time.runCyc, follow := none, own := t.rad.own, relays := t.rad.relays, duty := t.rad.duty } }

/-- DUTY_TIMEOUT (R477): an own frame that has waited 3,600 s is given up. -/
def Effect.dutyTimeout : Prop := ∀ (s : State) (f : RadFrame), (s.rad.own ++ s.rad.relays).find? (fun f => match f.deferred with
      | some t => s.radioRunning && decide (t + 3686400 ≤ s.time.aoTick)
      | none => false) = some f → f.f.relay = false → f.f.service = .plain →
  ∃ t, exec .dutyTimeout s = .next t ∧ s.radLost t f ∧ t.rad = (s.dropRadFrame f.id).rad

/-- DUTY_BUDGET_FITS (R477): the oldest waiting frame that fits again goes on. -/
def Effect.dutyBudgetFits : Prop := ∀ (s : State) (f : RadFrame), s.radioRunning = true →
    (s.rad.own ++ s.rad.relays).find? (fun f => f.deferred.isSome && s.dutyFits f.air) = some f →
  ∃ t, exec .dutyBudgetFits s = .next t ∧ t.rad.own = (s.setRadFrame { f with deferred := none }).rad.own
    ∧ t.rad.relays = (s.setRadFrame { f with deferred := none }).rad.relays ∧ t.dutyUsed = s.dutyUsed
    ∧ t.get RAD_DUTY.USED = min 65535 (s.dutyUsed / 100000) ∧ s.onlyFields t (RAD_DUTY.USED :: radShown)
    ∧ t = { s with regs := t.regs, rad := { s.rad with own := t.rad.own, relays := t.rad.relays, duty := t.rad.duty } }

/-- GAUZE_FRAME_RECEIVED (R468): a frame whose CRC or length is wrong is counted. -/
def Effect.gauzeBad : Prop := ∀ (s : State) (bytes : List Byte) (rssi : BitVec 8) (refused : Option Denial), s.radioOpen = true →
    s.get RAD_CFG.RXMODE = 0 → (crcGood bytes = false ∨ byteAt bytes 1 ≠ bytes.length ∨ (bytes.length < 27 ∧ bytes.length ≠ 9)) →
  ∃ t, exec (.gauzeFrameReceived bytes rssi refused) s = .next t ∧ t.get RAD_CNT1.CRCFAIL = min 65535 (s.get RAD_CNT1.CRCFAIL + 1)
    ∧ t.evt = (s.raise Ev.CRC_FAIL).evt ∧ s.onlyFields t [RAD_CNT1.CRCFAIL] ∧ t = { s with regs := t.regs, evt := t.evt }

/-- GAUZE_FRAME_RECEIVED (R469, R475, R483, R484): an unprotected data frame for this hub, ahead of its sender's window: delivered and counted, the
window moved, the frame entered in the seen-cache, and its acknowledgement due. -/
def Effect.gauzeTaken : Prop := ∀ (s : State) (bytes : List Byte) (rssi : BitVec 8) (n δ : Nat), s.radioOpen = true → s.pod = false →
    s.get RAD_CFG.RXMODE = 0 → crcGood bytes = true → byteAt bytes 1 = bytes.length → 33 ≤ bytes.length → s.boot.unrecalled = [] →
    (gauzeHeader bytes).type = 0 → (gauzeHeader bytes).sec = false → (gauzeHeader bytes).rsd = false →
    (gauzeHeader bytes).net = s.get RAD_CFG.NETID → (gauzeHeader bytes).dst = s.get RAD_ADDR.ADDR → (gauzeHeader bytes).next = s.get RAD_ADDR.ADDR →
    (s.get SEC_CFG.REQUIRE).testBit 1 = false → s.meshFind (gauzeHeader bytes).prev = some n →
    s.seqTest (gauzeHeader bytes).prev (gauzeHeader bytes).seq = .ahead δ → s.seenFind (gauzeHeader bytes).src (gauzeHeader bytes).oseq = none →
    s.podFind (gauzeHeader bytes).src = none → conTypes.contains (msgType ((bytes.take (bytes.length - 2)).drop 25)) = true →
    s.seenNow.length < 128 →
  ∃ t, exec (.gauzeFrameReceived bytes rssi none) s = .next t ∧ t.get RAD_CNT0.RXFRAMES = min 65535 (s.get RAD_CNT0.RXFRAMES + 1)
    ∧ t.evt = (s.raise Ev.RX_FRAME).evt
    ∧ t.inbox = s.inbox ++ [⟨1, (gauzeHeader bytes).src, (bytes.take (bytes.length - 2)).drop 25, none, 0⟩]
    ∧ t.get (MSH_NBR_B.H n) = (gauzeHeader bytes).seq ∧ t.get (MSH_NBR_B.RSSI n) = rssi.toNat
    ∧ t.radNbr n = ⟨(if δ < 32 then (s.radNbr n).window * 2 ^ δ % 2 ^ 32 else 0) ||| 1, s.time.aoTick⟩
    ∧ t.rad.seen = s.seenNow ++ [⟨(gauzeHeader bytes).src, (gauzeHeader bytes).oseq, s.time.aoTick, 1⟩]
    ∧ ((gauzeHeader bytes).ackreq = true → ∃ a, t.rad.ack = some a ∧ a.dest = (gauzeHeader bytes).prev ∧ a.seq = (gauzeHeader bytes).seq
        ∧ a.sending = false ∧ t.rad.ackAt = s.time.runCyc ∧ a.pending = s.rad.own.any (fun f => f.held.isSome && f.f.next == (gauzeHeader bytes).prev))
    ∧ ((gauzeHeader bytes).ackreq = false → t.rad.ack = s.rad.ack ∧ t.rad.ackAt = s.rad.ackAt)
    ∧ s.onlyFields t (RAD_CNT0.RXFRAMES :: MSH_NBR_B.H n :: MSH_NBR_B.RSSI n :: radShown)
    ∧ t = { s with regs := t.regs, evt := t.evt, inbox := t.inbox, rad := { s.rad with
              nbrs := t.rad.nbrs, seen := t.rad.seen, ack := t.rad.ack, ackAt := t.rad.ackAt } }

/-- RELAY_DELAY_END (R484): the relay may start. -/
def Effect.relayDelayEnd : Prop := ∀ (s : State) (k : Nat) (f : RadFrame), s.rad.relays[k]? = some f → s.radioRunning = true →
  ∃ t, exec (.relayDelayEnd k) s = .next t ∧ (∀ g ∈ t.rad.relays, g.id = f.id → g.delay = false) ∧ t = s.setRadFrame { f with delay := false }

/-- The Glint receiver of a pod listens, while the main radio neither sends nor receives (R480, R482). -/
def State.glintHears (s : State) : Prop :=
  s.pod = true ∧ s.on GLN_CFG.EN = true ∧ s.umb.frozen = false ∧ s.shed = false ∧ s.radioSending = false ∧ s.radioOpen = false
    ∧ ((s.mode = .run ∧ s.boot.steps.testBit 6 = true ∧ s.on CLK_STAT.SYSSRC = false) ∨ s.mode = .doze ∨ s.mode = .listen)

/-- GLINT_MATCH (R479, R480, R481) in Run: the pattern of this pod, of its group or of all of its network: counted, raised, and the receive window
opens. -/
def Effect.glintMatch : Prop := ∀ (s : State) (p : List Byte) (addr : Nat), s.glintHears → s.mode = .run → s.boot.steps.testBit 3 = true →
    s.pwr.dozeEntry = false → p.length = 10 →
    byteAt p 2 = 0x9E → byteAt p 3 = 0x4B → crc8 ((p.drop 4).take 5) = byteAt p 9 → byteAt p 4 = s.get RAD_CFG.NETID % 256 →
    addr = byteAt p 5 * 2 ^ 24 + byteAt p 6 * 65536 + byteAt p 7 * 256 + byteAt p 8 →
    (addr = s.get RAD_ADDR.ADDR ∨ addr = 0xFFFFFF00 + s.get GLN_CFG.GROUP ∨ (addr = 0xFFFFFFFF ∧ s.on GLN_CFG.ALLEN = true)) →
  ∃ t, exec (.glintMatch p) s = .next t ∧ t.get GLN_STAT.MATCHES = min 65535 (s.get GLN_STAT.MATCHES + 1)
    ∧ t.evt = (s.raise Ev.GLINT_MATCH).evt ∧ t.rad = { s.rad with window := true, windowAt := s.time.runCyc } ∧ s.onlyFields t (GLN_STAT.MATCHES :: radShown)
    ∧ t = { s with regs := t.regs, evt := t.evt, rad := t.rad }

/-- GLINT_MATCH (R480): a pattern with its sync word whose CRC fails, or of another network, is counted as false. -/
def Effect.glintFalse : Prop := ∀ (s : State) (p : List Byte), s.glintHears → p.length = 10 → byteAt p 2 = 0x9E → byteAt p 3 = 0x4B →
    (crc8 ((p.drop 4).take 5) ≠ byteAt p 9 ∨ byteAt p 4 ≠ s.get RAD_CFG.NETID % 256) →
  ∃ t, exec (.glintMatch p) s = .next t ∧ t.get GLN_STAT.FALSE = min 65535 (s.get GLN_STAT.FALSE + 1)
    ∧ t.evt = (s.raise Ev.GLINT_FALSE).evt ∧ s.onlyFields t [GLN_STAT.FALSE] ∧ t = { s with regs := t.regs, evt := t.evt }

/-- RXWIN_EXPIRY (R464, R481), RXWIN ms after the window was opened or restarted. -/
def Effect.rxwinExpiry : Prop := ∀ s : State, s.radioRunning = true → s.passed s.rad.windowAt (1000 * s.get GLN_CFG.RXWIN) = true →
  ∃ t, exec .rxwinExpiry s = .next t ∧ t.rad = { s.rad with window := false, wmbWindow := false } ∧ s.onlyFields t radShown
    ∧ t = { s with regs := t.regs, rad := t.rad }

/-- WMB_TELEGRAM (R463, R464, R539) that is due, where no key slot serves EN 13757-4: the telegram with the latest record joins the own queue in its
frame format; what its short header holds is not in the spec. -/
def Effect.wmbTelegram : Prop := ∀ (s : State) (air : Nat), s.netRunning = true → s.on RAD_CFG.EN = true → s.on RAD_CFG.BAND = false →
    s.get RAD_WMB.MODE ≠ 0 → s.rad.own.length < 8 → s.wmbIsDue = true → s.coreUp 1 = true →
    (∀ n, n < 32 → s.get (SEC_KS_CFG.STATE n) = 0 ∨ (s.get (SEC_KS_CFG.USE n)).testBit 3 = false) →
  ∃ (t : State) (g : RadFrame) (hdr : Word), exec (.wmbTelegram air) s = .next t
    ∧ t.rad = { s.rad with own := s.rad.own ++ [g], nextId := s.rad.nextId + 1, wmbDue := s.wmbNext.rad.wmbDue } ∧ g.wmb = true ∧ g.air = air
    ∧ g.f.ackreq = false ∧ g.f.bytes = enTelegram s.formatB g.f.plain ∧ byteAt g.f.plain 0 = (g.f.plain.length - 1) % 256
    ∧ g.f.plain.drop 1 = [0x44] ++ (leBytes 2 (s.get CON_PWMB0.MFR) ++ leBytes 4 (s.get CON_PWMB1.ID) ++ leBytes 2 (s.get CON_PWMB0.DEVVER))
        ++ [0x7A] ++ wordBytes [hdr] ++ (if s.con.lastRecord = [] then s.readingRecord (s.get CON_PSTAT.RSEQ) else s.con.lastRecord)
    ∧ s.onlyFields t radShown ∧ t = { s with regs := t.regs, rad := t.rad, free := s.free + 1 }

/-- WMB_RX (R464) in the response window: the telegram is handed to NWC. -/
def Effect.wmbRx : Prop := ∀ (s : State) (telegram : List Byte), s.radioOpen = true → s.rad.wmbWindow = true → s.get RAD_CFG.RXMODE = 0 →
  ∃ t, exec (.wmbRx telegram true) s = .next t ∧ t.inbox = s.inbox ++ [⟨4, 0, telegram, none, 0⟩] ∧ t.evt = (s.raise Ev.WMB_RX).evt
    ∧ t = { s with evt := t.evt, inbox := t.inbox }

/-! ### The Turard Loop (chapter 18) -/

/-- LOOP_MESSAGE_LOAD (R517, R521): NWC's own message joins the own queue, its CRC appended. -/
def Effect.loopMessageLoad : Prop := ∀ (s : State) (m : NetMessage), s.netRunning = true → s.pod = false → s.on LOP_CFG.EN = true → s.coreUp 2 = true →
    m.slot = none → s.lop.own.length < 8 → 13 + m.payload.length ≤ 128 → (s.get SEC_CFG.REQUIRE).testBit 2 = false →
  ∃ (t : State) (f : OutFrame), exec (.loopMessageLoad (some m)) s = .next t
    ∧ f = ⟨[], [0] ++ leBytes 2 (s.get LOP_CFG.NETID) ++ leBytes 4 (s.get LOP_ADDR.ADDR) ++ leBytes 4 m.dst.toNat ++ m.payload, none, m.dst.toNat,
        true, false, 0, false, .plain⟩
    ∧ t.lop = { s.lop with own := (s.lop.own ++ [f]).map (fun x => if x = f then { f with bytes := withCrc f.plain } else x) }
    ∧ t.get LOP_STAT.QOWN = s.lop.own.length + 1 ∧ s.onlyFields t [LOP_STAT.QOWN] ∧ t = { s with regs := t.regs, lop := t.lop }

/-- LOOP_FRAME_REPEAT (R524, R525): a header that fails its HCS is aborted and counted, and nothing in it is used. -/
def Effect.loopHeaderBad : Prop := ∀ (s : State) (bytes : List Byte) (stalled : Bool) (refused : Option Denial), s.isSlave = true → 9 ≤ bytes.length →
    crc8 (bytes.take 6) ≠ byteAt bytes 6 →
  ∃ t, exec (.loopFrameRepeat bytes stalled refused) s = .next t ∧ t.get LOP_CNT1.HCSFAIL = min 255 (s.get LOP_CNT1.HCSFAIL + 1)
    ∧ t.lop.aborted = true ∧ s.onlyFields t [LOP_CNT1.HCSFAIL]
    ∧ t = { s with regs := t.regs, lop := { s.lop with line := t.lop.line, aborted := true } }

/-- A good header shows that the ring is alive (R527 to R529). -/
def State.ringHeard (s t : State) : Prop :=
  t.on LOP_STAT.RING = true ∧ t.lop.heard = s.time.aoTick ∧ t.bypass = { s.bypass with faults := 0 }

/-- LOOP_FRAME_REPEAT (R524, R525, R527): a frame that fails its CRC behind a good header is aborted and counted; a DISCOVER costs the station. -/
def Effect.loopCrcBad : Prop := ∀ (s : State) (bytes : List Byte) (stalled : Bool) (refused : Option Denial), s.isSlave = true → 9 ≤ bytes.length →
    crc8 (bytes.take 6) = byteAt bytes 6 → crcGood bytes = false →
  ∃ t, exec (.loopFrameRepeat bytes stalled refused) s = .next t ∧ t.get LOP_CNT1.CRCFAIL = min 255 (s.get LOP_CNT1.CRCFAIL + 1)
    ∧ s.ringHeard t ∧ t.lop.aborted = true ∧ s.onlyFields t [LOP_CNT1.CRCFAIL, LOP_STAT.RING, LOP_STAT.STATION]
    ∧ t.get LOP_STAT.STATION = (if byteAt bytes 0 % 4 = 2 then 0 else s.get LOP_STAT.STATION)
    ∧ t = { s with regs := t.regs, bypass := t.bypass, lop := { s.lop with
              heard := t.lop.heard, silent := false, line := t.lop.line, aborted := true, dtog := if byteAt bytes 0 % 4 = 2 then none else s.lop.dtog } }

/-- A slave repeats a frame whose HCS and CRC are good. -/
def State.slaveTakes (s : State) (bytes : List Byte) : Prop :=
  s.isSlave = true ∧ 9 ≤ bytes.length ∧ crc8 (bytes.take 6) = byteAt bytes 6 ∧ crcGood bytes = true

/-- The frame has gone on as `out` with a new CRC (R524). -/
def State.repeated (s t : State) (out : List Byte) : Prop :=
  t.lop.line = withCrc out ∧ t.lop.aborted = false ∧ s.ringHeard t ∧ t.get LOP_CNT0.FRAMES = min 65535 (s.get LOP_CNT0.FRAMES + 1)

/-- LOOP_FRAME_REPEAT (R522, R524): a POLL to this station without a down message and without UPACK: the oldest up message that fits the slot goes in
with UTOG and its length, and STATUS takes PRESENT. -/
def Effect.loopPolled : Prop := ∀ (s : State) (bytes : List Byte) (stalled : Bool) (refused : Option Denial), s.slaveTakes bytes → byteAt bytes 0 % 4 = 0 →
    byteAt bytes 3 = s.get LOP_STAT.STATION → s.get LOP_STAT.STATION ≠ 0 → (byteAt bytes 0).testBit 3 = false → byteAt bytes 5 = 0 →
    (∀ f, s.lop.own.head? = some f → f.bytes ≠ [] ∧ f.bytes.length ≤ byteAt bytes 4) →
  ∃ (t : State) (body : List Byte), exec (.loopFrameRepeat bytes stalled refused) s = .next t
    ∧ body = (match s.lop.own with
      | [] => bytes.take (bytes.length - 2)
      | f :: _ => putBytes (bytes.take (bytes.length - 2)) 7
          ([BitVec.ofNat 8 s.lop.utog.toNat, BitVec.ofNat 8 f.bytes.length] ++ f.bytes))
    ∧ s.repeated t (putBytes body (9 + byteAt bytes 4) [(body.getD (9 + byteAt bytes 4) 0) ||| 1])
    ∧ t.lop.sentUp = (s.lop.sentUp || !s.lop.own.isEmpty)
    ∧ s.onlyFields t [LOP_CNT0.FRAMES, LOP_STAT.RING, LOP_STAT.QOWN]
    ∧ t = { s with regs := t.regs, bypass := t.bypass, lop := { s.lop with
              heard := t.lop.heard, silent := false, line := t.lop.line, aborted := false, sentUp := t.lop.sentUp } }

/-- LOOP_FRAME_REPEAT (R524): a POLL for another station passes unchanged. -/
def Effect.loopPasses : Prop := ∀ (s : State) (bytes : List Byte) (stalled : Bool) (refused : Option Denial), s.slaveTakes bytes → byteAt bytes 0 % 4 = 0 →
    byteAt bytes 3 ≠ s.get LOP_STAT.STATION → s.get LOP_STAT.STATION ≠ 0 →
  ∃ t, exec (.loopFrameRepeat bytes stalled refused) s = .next t ∧ s.repeated t (bytes.take (bytes.length - 2)) ∧ t.lop.line = bytes
    ∧ s.onlyFields t [LOP_CNT0.FRAMES, LOP_STAT.RING, LOP_STAT.QOWN]
    ∧ t = { s with regs := t.regs, bypass := t.bypass, lop := { s.lop with
              heard := t.lop.heard, silent := false, line := t.lop.line, aborted := false } }

/-- LOOP_FRAME_REPEAT (R519): a DISCOVER gives this node the next station, and carries its address on. -/
def Effect.loopStationSet : Prop := ∀ (s : State) (bytes : List Byte) (stalled : Bool) (refused : Option Denial), s.slaveTakes bytes → byteAt bytes 0 % 4 = 2 →
    byteAt bytes 7 % 64 < 63 →
  ∃ t, exec (.loopFrameRepeat bytes stalled refused) s = .next t ∧ t.get LOP_STAT.STATION = byteAt bytes 7 % 64 + 1
    ∧ s.repeated t (putBytes (putBytes (bytes.take (bytes.length - 2)) 7 [BitVec.ofNat 8 (byteAt bytes 7 + 1)]) (8 + 4 * (byteAt bytes 7 % 64))
        (leBytes 4 (s.get LOP_ADDR.ADDR)))
    ∧ t.lop.dtog = none ∧ t.evt = (s.raise Ev.STATION_SET).evt
    ∧ s.onlyFields t [LOP_CNT0.FRAMES, LOP_STAT.RING, LOP_STAT.QOWN, LOP_STAT.STATION]
    ∧ t = { s with regs := t.regs, evt := t.evt, bypass := t.bypass, lop := { s.lop with
              heard := t.lop.heard, silent := false, line := t.lop.line, aborted := false, dtog := none } }

/-- LOOP_VIOLATION (R511, R525): a cell without its middle transition, or transitions too close. -/
def Effect.loopViolation : Prop := ∀ (s : State) (cells : Nat) (transitions : List Nat), s.isSlave = true → manchesterViolation cells transitions = true →
  ∃ t, exec (.loopViolation cells transitions) s = .next t ∧ t.get LOP_CNT1.VIOLATION = min 255 (s.get LOP_CNT1.VIOLATION + 1) ∧ t.evt = (s.raise Ev.VIOLATION).evt
    ∧ s.onlyFields t [LOP_CNT1.VIOLATION] ∧ t = { s with regs := t.regs, evt := t.evt, lop := { s.lop with aborted := true } }

/-- LOOP_ABORT_RX (R525). -/
def Effect.loopAbortRx : Prop := ∀ s : State, s.isSlave = true →
  ∃ t, exec .loopAbortRx s = .next t ∧ t.get LOP_CNT1.ABORTRX = min 255 (s.get LOP_CNT1.ABORTRX + 1)
    ∧ s.onlyFields t [LOP_CNT1.ABORTRX] ∧ t = { s with regs := t.regs, lop := { s.lop with aborted := true } }

/-- LOOP_SILENT (R529): 100 ms without a good header, once. -/
def Effect.loopSilent : Prop := ∀ s : State, s.isSlave = true → s.lop.silent = false → s.lop.heard + 102 ≤ s.time.aoTick →
  ∃ t, exec .loopSilent s = .next t ∧ t.on LOP_STAT.RING = false ∧ t.evt = (s.raise Ev.LOOP_SILENT).evt ∧ s.onlyFields t [LOP_STAT.RING]
    ∧ t = { s with regs := t.regs, evt := t.evt, lop := { s.lop with silent := true } }

/-- STATION_LOSS (R527): 1 s without a good header. -/
def Effect.stationLoss : Prop := ∀ s : State, s.isSlave = true → s.lop.heard + 1024 ≤ s.time.aoTick →
  ∃ t, exec .stationLoss s = .next t ∧ t.get LOP_STAT.STATION = 0 ∧ t.lop = { s.lop with dtog := none } ∧ s.onlyFields t [LOP_STAT.STATION]
    ∧ t = { s with regs := t.regs, lop := t.lop }

/-- LOOP_POLL (R516, R520, R521): the next station in turn, with the oldest message for it; UPACK is spent. -/
def Effect.loopPoll : Prop := ∀ (s : State) (k : Nat), s.masterFree = true → s.discoverDue = false → s.downFor broadcast = none → 0 < s.stationCount →
    k = (if s.lop.last < s.stationCount then s.lop.last + 1 else 1) →
  ∃ t, exec .loopPoll s = .next t ∧ t.lop.last = k ∧ (t.station k).upack = false
    ∧ (∀ j, j ≠ k → t.station j = s.station j)
    ∧ (s.downFor (s.stationAddr k) = none → t.lop.frame = some ⟨0, k,
        withCrc (s.loopHeader (8 * (s.station k).upack.toNat) k (s.get LOP_MAC.RSLOT) 0 ++ List.replicate (3 + s.get LOP_MAC.RSLOT) 0), false⟩)
    ∧ (∀ f, s.downFor (s.stationAddr k) = some f → t.lop.frame = some ⟨0, k,
        withCrc (s.loopHeader (4 * (s.station k).dtog.toNat + 8 * (s.station k).upack.toNat + 16 * (s.station k).dreset.toNat) k
          (s.get LOP_MAC.RSLOT) f.bytes.length ++ f.bytes ++ List.replicate (3 + s.get LOP_MAC.RSLOT) 0), true⟩)
    ∧ t = { s with lop := { s.lop with frame := t.lop.frame, last := k, stations := t.lop.stations } }

/-- LOOP_BROADCAST (R516, R521): a message for all nodes goes once, and leaves the queue. -/
def Effect.loopBroadcast : Prop := ∀ (s : State) (f : OutFrame), s.downFor broadcast = some f → s.masterFree = true →
    s.lop.noReturn < 3 →
  ∃ t, exec .loopBroadcast s = .next t
    ∧ t.lop = { s.lop with
        own := eraseFirst (fun x => x == f) s.lop.own,
        frame := some ⟨1, 0, withCrc (s.loopHeader 1 0 0 f.bytes.length ++ f.bytes ++ List.replicate 3 0), false⟩ }
    ∧ s.onlyFields t [LOP_STAT.QOWN] ∧ t = { s with regs := t.regs, lop := t.lop }

/-- LOOP_DISCOVER (R516, R520, R523) that is due; on a lost ring one goes every 10 ms. -/
def Effect.loopDiscover : Prop := ∀ s : State, s.masterFree = true → s.discoverNow = true →
  ∃ t, exec .loopDiscover s = .next t
    ∧ t = { s with lop := { s.lop with
        frame := some ⟨2, 0, withCrc (s.loopHeader 2 0 0 0 ++ List.replicate 253 0), false⟩, discAt := s.time.cyc, discover := false } }

/-- A frame of the master has failed (R523): it is off the ring, a DISCOVER follows, and the station's UPACK is 0. -/
def State.ringFailed (s t : State) (f : LoopFrame) : Prop :=
  t.lop.frame = none ∧ t.lop.discover = true ∧ (f.kind = 0 → (t.station f.station).upack = false)
    ∧ (∀ j, (f.kind = 0 → j ≠ f.station) → t.station j = s.station j)

/-- LOOP_RETURN (R520, R523, Table LOP-5): a frame that the master did not send, and one later than 325 µs, is foreign. -/
def Effect.loopForeign : Prop := ∀ (s : State) (bytes : List Byte) (after : Nat) (broken stalled : Bool) (refused : Option Denial), s.isMaster = true →
    (s.lop.frame = none ∨ 325000 < after) →
  ∃ t, exec (.loopReturn bytes after broken stalled refused) s = .next t ∧ t.get LOP_CNT3.FOREIGN = min 255 (s.get LOP_CNT3.FOREIGN + 1)
    ∧ t.evt = (s.raise Ev.DUAL_MASTER).evt ∧ s.onlyFields t [LOP_CNT3.FOREIGN] ∧ t = { s with regs := t.regs, evt := t.evt }

/-- LOOP_RETURN (R523, Table LOP-5): a frame later than 5 µs for each node, and one that came back damaged, have failed. -/
def Effect.loopFailed : Prop := ∀ (s : State) (bytes : List Byte) (after : Nat) (late broken stalled : Bool) (refused : Option Denial) (f : LoopFrame),
    s.isMaster = true → s.lop.frame = some f → f.down = false → after ≤ 325000 → late = decide (5000 * s.nodesOf f bytes < after) → (late = true ∨ broken = true ∨ crcGood bytes = false ∨ bytes.length ≠ f.bytes.length) →
  ∃ t, exec (.loopReturn bytes after broken stalled refused) s = .next t ∧ s.ringFailed t f
    ∧ (late = true → t.get LOP_CNT2.LATE = min 255 (s.get LOP_CNT2.LATE + 1) ∧ t.evt = (s.raise Ev.LATE_RETURN).evt)
    ∧ (late = false → t.get LOP_CNT0.FRAMEFAIL = min 65535 (s.get LOP_CNT0.FRAMEFAIL + 1) ∧ t.evt = (s.raise Ev.FRAME_FAIL).evt)
    ∧ s.onlyFields t [if late then LOP_CNT2.LATE else LOP_CNT0.FRAMEFAIL, LOP_STAT.QOWN]
    ∧ t = { s with regs := t.regs, evt := t.evt, lop := { s.lop with
              frame := none, discover := true, noReturn := if 3 ≤ s.lop.noReturn then s.lop.noReturn else 0, stations := t.lop.stations } }

/-- The frame on the ring has come back whole and in time, on a ring that is not lost. -/
def State.cameBack (s : State) (f : LoopFrame) (bytes : List Byte) (after : Nat) : Prop :=
  after ≤ 325000 ∧ after ≤ 5000 * s.nodesOf f bytes ∧ s.isMaster = true ∧ s.lop.frame = some f ∧ crcGood bytes = true ∧ bytes.length = f.bytes.length ∧ s.lop.noReturn < 3

/-- LOOP_RETURN (R521, R522) of a POLL without up message: its down message, if it carried one that STATUS says is taken, is delivered and leaves the
queue, and DTOG turns; JOIN in STATUS calls for a DISCOVER. -/
def Effect.loopPollBack : Prop := ∀ (s : State) (bytes : List Byte) (after : Nat) (stalled : Bool) (refused : Option Denial) (f : LoopFrame)
    (status : Nat), s.cameBack f bytes after → f.kind = 0 → byteAt bytes (8 + byteAt bytes 5) < 13 → status = byteAt bytes (9 + byteAt bytes 5 + byteAt bytes 4) →
    (f.down = true → (status.testBit 1 = true ∨ status.testBit 3 = true)
      ∧ ∃ g, s.downFor (s.stationAddr f.station) = some g ∧ g.service = .plain) →
  ∃ t, exec (.loopReturn bytes after false stalled refused) s = .next t ∧ t.get LOP_CNT0.FRAMES = min 65535 (s.get LOP_CNT0.FRAMES + 1)
    ∧ t.on LOP_STAT.RING = true ∧ t.lop.frame = none ∧ t.lop.noReturn = 0 ∧ t.lop.discover = (s.lop.discover || status.testBit 4)
    ∧ (f.down = false → t.lop.own = s.lop.own ∧ t.lop.stations = s.lop.stations)
    ∧ (∀ g, f.down = true → s.downFor (s.stationAddr f.station) = some g → t.lop.own = eraseFirst (fun x => x == g) s.lop.own
        ∧ t.station f.station = { s.station f.station with dtog := !(s.station f.station).dtog, dreset := false }
        ∧ (∀ j, j ≠ f.station → t.station j = s.station j))
    ∧ s.onlyFields t [LOP_CNT0.FRAMES, LOP_STAT.RING, LOP_STAT.QOWN]
    ∧ t = { s with regs := t.regs, bypass := { s.bypass with faults := 0 }, lop := { s.lop with
              frame := none, noReturn := 0, discover := t.lop.discover, own := t.lop.own, stations := t.lop.stations } }

/-- LOOP_RETURN (R519, R521, R523) of a DISCOVER: the table of stations is as the frame says, and every station's next down message carries DRESET. -/
def Effect.loopDiscovered : Prop := ∀ (s : State) (bytes : List Byte) (after : Nat) (stalled : Bool) (refused : Option Denial) (f : LoopFrame)
    (n : Nat), s.cameBack f bytes after → f.kind = 2 → s.lop.own = [] → n = byteAt bytes 7 % 64 →
  ∃ t, exec (.loopReturn bytes after false stalled refused) s = .next t ∧ t.get LOP_CNT0.FRAMES = min 65535 (s.get LOP_CNT0.FRAMES + 1)
    ∧ t.on LOP_STAT.RING = true ∧ t.get LOP_STAT.NODES = n + 1 ∧ t.on LOP_STAT.OVERFULL = (byteAt bytes 7).testBit 7
    ∧ (∀ j, j < n → t.get (LOP_ST.ADDR j) = leAt bytes (8 + 4 * j) 4) ∧ (∀ j, n ≤ j → j < 63 → t.get (LOP_ST.ADDR j) = 0)
    ∧ (∀ j, 1 ≤ j → j ≤ 63 → (t.station j).dreset = true)
    ∧ s.onlyWords t (LOP_CNT0.addr :: LOP_STAT.addr :: (List.range 63).map LOP_ST.addr)
    ∧ t = { s with regs := t.regs, bypass := { s.bypass with faults := 0 }, lop := { s.lop with
              frame := none, noReturn := 0, stations := t.lop.stations } }

/-- LOOP_NO_RETURN (R520, R523): counted; the third in a row loses the ring. -/
def Effect.loopNoReturn : Prop := ∀ (s : State) (f : LoopFrame), s.isMaster = true → s.lop.frame = some f → f.down = false →
  ∃ t, exec .loopNoReturn s = .next t ∧ s.ringFailed t f ∧ t.get LOP_CNT2.NORETURN = min 255 (s.get LOP_CNT2.NORETURN + 1)
    ∧ t.lop.noReturn = min 3 (s.lop.noReturn + 1)
    ∧ (s.lop.noReturn = 2 → t.on LOP_STAT.RING = false ∧ t.evt = (s.raise Ev.RING_LOST).evt)
    ∧ (s.lop.noReturn ≠ 2 → t.on LOP_STAT.RING = s.on LOP_STAT.RING ∧ t.evt = s.evt)
    ∧ s.onlyFields t [LOP_CNT2.NORETURN, LOP_STAT.RING, LOP_STAT.QOWN]
    ∧ t = { s with regs := t.regs, evt := t.evt, lop := { s.lop with
              frame := none, discover := true, noReturn := t.lop.noReturn, stations := t.lop.stations } }

/-! ### Concentrator, gateway and pod reports (chapter 19) -/

/-- The oldest delivered message that satisfies `p` has been taken from NWC's deliveries. -/
def State.takes (s : State) (p : Delivery → Bool) (d : Delivery) (rest : List Delivery) : Prop :=
  s.inbox.find? p = some d ∧ rest = eraseFirst (fun x => x == d) s.inbox

/-- The concentrator runs and has a delivered message of one of the types. -/
def State.conTakes (s : State) (types : List Nat) (d : Delivery) (rest : List Delivery) : Prop :=
  s.conRuns = true ∧ s.boot.unrecalled = [] ∧ s.takes (fun d => types.contains (msgType d.payload)) d rest

/-- The forward list is empty, so that every message waits (R544). -/
def State.nowhere (s : State) : Prop := s.forwardList = [0, 0, 0, 0]

/-- The registers of a pod entry. -/
def podWords (n : Nat) : List Nat := (List.range 6).map (CON_POD_ADDR.addr n + ·)

/-- The pod's report service runs, and a report is due. -/
def State.podReports (s : State) : Prop :=
  s.pod = true ∧ s.on CON_PCFG.EN = true ∧ s.boot.steps.testBit 5 = true ∧ s.boot.steps.testBit 4 = true ∧ s.reportIsDue = true ∧ s.mode = .run ∧ s.umb.frozen = false ∧ s.shed = false ∧ s.coreUp 1 = true
    ∧ s.boot.unrecalled = []

/-- REPORT_DUE (R535, R536): RSEQ goes up, and a REPORT with the new record last and up to NRECS − 1 older ones before it goes to NWC; the record is
kept until it is acknowledged, 8 of them at most. -/
def Effect.reportDue : Prop := ∀ (s : State) (q : Nat) (old : List (Nat × List Byte)), s.podReports → s.on CON_PSTAT.JOINED = true →
    q = (s.get CON_PSTAT.RSEQ + 1) % 65536 → q % 64 ≠ 0 → old = s.con.unacked.take (s.get CON_PCFG.NRECS - 1) →
  ∃ t, exec .reportDue s = .next t ∧ t.get CON_PSTAT.RSEQ = q
    ∧ t.con = { s.con with
        toLoad := s.con.toLoad ++ [⟨1, s.get CON_PHUB.ADDR,
          conMessage 0x03 false (s.get RAD_ADDR.ADDR) ((old ++ [(q, s.readingRecord q)]).flatMap Prod.snd), s.serviceSlot 1, true, false, false, false,
          .report ((old ++ [(q, s.readingRecord q)]).map Prod.fst)⟩],
        unacked := (s.con.unacked ++ [(q, s.readingRecord q)]).drop (s.con.unacked.length + 1 - 8), since := 0, seenFlags := s.standingFlags,
        reportAt := s.reportTaken.con.reportAt, lastRecord := s.readingRecord q }
    ∧ t.evt = (s.raise Ev.REPORT_SENT).evt ∧ t.get CON_PSTAT.UNACK = min 8 (s.con.unacked.length + 1)
    ∧ s.onlyFields t [CON_PSTAT.RSEQ, CON_PSTAT.UNACK, STO_REG_STAT.DIRTY 8]
    ∧ t = { s with regs := t.regs, evt := t.evt, con := t.con, sto := { s.sto with sram := t.sto.sram, dirty := t.sto.dirty, copyStale := t.sto.copyStale } }

/-- REPORT_DUE (R536): a pod that is not joined asks to join. -/
def Effect.joinSent : Prop := ∀ s : State, s.podReports → s.on CON_PSTAT.JOINED = false →
  ∃ t, exec .reportDue s = .next t
    ∧ t = s.reportTaken.handToNwc ⟨1, s.get CON_PHUB.ADDR,
        conMessage 0x01 false (s.get RAD_ADDR.ADDR) (BitVec.ofNat 8 (s.get CON_PCFG.QTY) :: leBytes 2 (s.get CON_PSTAT.RSEQ)), s.serviceSlot 1,
        true, false, false, true, .join⟩

/-- POD_JOIN_RESP (R536): ACCEPTED joins the pod, and any other code leaves it unjoined. -/
def Effect.podJoinResp : Prop := ∀ (s : State) (d : Delivery) (rest : List Delivery), s.pod = true → s.netRunning = true →
    s.takes (fun d => msgType d.payload == 0x02 && decide (7 ≤ d.payload.length)) d rest →
  ∃ t, exec .podJoinResp s = .next t ∧ t.inbox = rest
    ∧ (byteAt d.payload 6 = 0 → t.on CON_PSTAT.JOINED = true ∧ t.evt = (s.raise Ev.JOIN_OK).evt)
    ∧ (byteAt d.payload 6 ≠ 0 → t.regs = s.regs ∧ t.evt = (s.raise Ev.JOIN_REFUSED).evt)
    ∧ s.onlyFields t [CON_PSTAT.JOINED] ∧ t = { s with regs := t.regs, evt := t.evt, inbox := rest }

/-- JOIN_RESP with a code, as it goes back to the pod that asked (R540). -/
def joinResponse (d : Delivery) (code : Nat) : Outgoing :=
  ⟨1, d.src, conMessage 0x02 false (msgPod d.payload) [BitVec.ofNat 8 code], d.slot, false, false, true, false, .plain⟩

/-- POD_JOIN (R540): a pod of the table is accepted in place, and its counter does not go back. -/
def Effect.podRejoin : Prop := ∀ (s : State) (d : Delivery) (rest : List Delivery) (n : Nat), s.conTakes [0x01] d rest → s.podFind d.src = some n →
    d.ctr < 2 ^ 32 →
  ∃ t, exec .podJoin s = .next t ∧ t.con = { s.con with toLoad := s.con.toLoad ++ [joinResponse d 0] }
    ∧ t.get (CON_POD_H.H n) = max (s.get (CON_POD_H.H n)) (if d.slot.isSome then d.ctr else 0) ∧ s.onlyFields t [CON_POD_H.H n, STO_REG_STAT.DIRTY 8]
    ∧ t = { s with regs := t.regs, inbox := rest, con := t.con, sto := { s.sto with sram := t.sto.sram, dirty := t.sto.dirty, copyStale := t.sto.copyStale } }

/-- POD_JOIN (R540): while joins are closed a new pod is refused with CLOSED. -/
def Effect.podClosed : Prop := ∀ (s : State) (d : Delivery) (rest : List Delivery), s.conTakes [0x01] d rest → s.podFind d.src = none →
    s.on CON_CFG.OPEN = false →
  ∃ t, exec .podJoin s = .next t ∧ t = { s with inbox := rest, con := { s.con with toLoad := s.con.toLoad ++ [joinResponse d 1] } }

/-- POD_JOIN (R540): with 250 entries in use it is refused with CAPACITY and counted. -/
def Effect.podRefused : Prop := ∀ (s : State) (d : Delivery) (rest : List Delivery), s.conTakes [0x01] d rest → s.podFind d.src = none →
    s.on CON_CFG.OPEN = true → (∀ n, n < 250 → s.get (CON_POD_ST.STATE n) ≠ 0) →
  ∃ t, exec .podJoin s = .next t ∧ t.get CON_CNT1.CAPREF = min 255 (s.get CON_CNT1.CAPREF + 1) ∧ t.evt = (s.raise Ev.JOIN_REFUSED).evt
    ∧ s.onlyFields t [CON_CNT1.CAPREF]
    ∧ t = { s with regs := t.regs, evt := t.evt, inbox := rest, con := { s.con with toLoad := s.con.toLoad ++ [joinResponse d 2] } }

/-- POD_JOIN (R540, R541): a new pod takes the lowest free entry. -/
def Effect.podJoined : Prop := ∀ (s : State) (d : Delivery) (rest : List Delivery) (n : Nat), s.conTakes [0x01] d rest → s.podFind d.src = none →
    s.on CON_CFG.OPEN = true → (List.range 250).find? (fun n => s.get (CON_POD_ST.STATE n) == 0) = some n → d.src < 2 ^ 32 → d.ctr < 2 ^ 32 →
    (∀ k, d.slot = some k → k < 32) →
  ∃ t, exec .podJoin s = .next t ∧ t.get (CON_POD_ADDR.ADDR n) = d.src ∧ t.get (CON_POD_ST.STATE n) = 1
    ∧ t.get (CON_POD_ST.SLOT n) = d.slot.getD 0 ∧ t.get (CON_POD_ST.QTY n) = byteAt (msgBody d.payload) 0 % 4
    ∧ t.get (CON_POD_H.H n) = (if d.slot.isSome then d.ctr else 0) ∧ t.get (CON_POD_SEQ.NEWEST n) = leAt (msgBody d.payload) 1 2
    ∧ t.get (CON_POD_SEQ.FWD n) = 0 ∧ t.get (CON_POD_ST.COUNT n) = 0 ∧ t.records n = [] ∧ t.evt = (s.raise Ev.POD_JOINED).evt
    ∧ t.con.toLoad = s.con.toLoad ++ [joinResponse d 0] ∧ s.onlyWords t (CON_STAT.addr :: STO_REG_STAT.addr 8 :: podWords n)
    ∧ t = { s with regs := t.regs, evt := t.evt, inbox := rest, con := { s.con with toLoad := t.con.toLoad, records := t.con.records },
                   sto := { s.sto with sram := t.sto.sram, dirty := t.sto.dirty, copyStale := t.sto.copyStale } }

/-- Entry `n` has been freed, with its records (R541). -/
def State.podFreed (s t : State) (n : Nat) : Prop :=
  (∀ a ∈ podWords n, t.rd a = 0) ∧ t.records n = [] ∧ (∀ m, m ≠ n → t.records m = s.records m) ∧ s.onlyWords t (CON_STAT.addr :: STO_REG_STAT.addr 8 :: podWords n)
    ∧ t = { s with regs := t.regs, inbox := t.inbox, con := { s.con with records := t.con.records, lastFlags := Sparse.erase s.con.lastFlags n },
                   sto := { s.sto with sram := t.sto.sram, dirty := t.sto.dirty, copyStale := t.sto.copyStale } }

/-- POD_REMOVE (R541). -/
def Effect.podRemove : Prop := ∀ (s : State) (d : Delivery) (rest : List Delivery) (n : Nat), s.conTakes [0x13] d rest →
    s.podFind (msgPod d.payload) = some n →
  ∃ t, exec .podRemove s = .next t ∧ s.podFreed t n ∧ t.inbox = rest

/-- CON_CMD_REMOVE (R541). -/
def Effect.conCmdRemove : Prop := ∀ (s : State) (index : BitVec 8), s.twillRuns = true → s.pod = false → index.toNat < 250 → s.boot.unrecalled = [] →
  ∃ t, exec (.conCmdRemove index) s = .next t ∧ s.podFreed t index.toNat ∧ t.inbox = s.inbox

/-- POD_SILENT (R541). -/
def Effect.podSilent : Prop := ∀ (s : State) (n : Fin 250), s.conRuns = true → s.boot.unrecalled = [] → s.get (CON_POD_ST.STATE n) = 1 →
    s.get (CON_POD_LAST.T_LO n) + 2 ^ 32 * s.get (CON_POD_LAST_H.T_HI n) + s.get CON_CFG.SILENTH * 3686400 ≤ s.time.rtc.toNat →
  ∃ t, exec (.podSilent n) s = .next t ∧ t.get (CON_POD_ST.STATE n) = 2 ∧ t.evt = (s.raise Ev.POD_SILENT).evt
    ∧ s.onlyFields t [CON_POD_ST.STATE n, STO_REG_STAT.DIRTY 8]
    ∧ t = { s with regs := t.regs, evt := t.evt, sto := { s.sto with sram := t.sto.sram, dirty := t.sto.dirty, copyStale := t.sto.copyStale } }

/-- POD_REPORT (R542) with a record newer than any stored one, into an empty store, its flags risen over none: it is stored as the newest, its bytes in
CB4 or CB5. -/
def Effect.podReport : Prop := ∀ (s : State) (d : Delivery) (rest : List Delivery) (n : Nat) (rec' : List Byte), s.conTakes [0x03] d rest →
    s.podFind d.src = some n → msgBody d.payload = rec' → rec'.length = 20 → s.records n = [] →
    1 ≤ (leAt rec' 6 2 + 65536 - s.get (CON_POD_SEQ.NEWEST n)) % 65536 → (leAt rec' 6 2 + 65536 - s.get (CON_POD_SEQ.NEWEST n)) % 65536 ≤ 32767 →
    byteAt rec' 9 = 0 → s.nowhere →
  ∃ t, exec .podReport s = .next t ∧ t.records n = [⟨leAt rec' 6 2, 0, .fresh⟩] ∧ t.recordBytes n ⟨leAt rec' 6 2, 0, .fresh⟩ = rec'
    ∧ t.get (CON_POD_SEQ.NEWEST n) = leAt rec' 6 2 ∧ t.get (CON_POD_ST.COUNT n) = 1
    ∧ (∀ b, (b < recordByte n 0 ∨ recordByte n 0 + 20 ≤ b) → Memory.byte t.calico b = Memory.byte s.calico b)
    ∧ t.con.waiting = s.con.waiting ∧ t.con.toLoad = s.con.toLoad ∧ s.onlyFields t [CON_POD_SEQ.NEWEST n, CON_POD_ST.COUNT n, CON_STAT.UNFWD, STO_REG_STAT.DIRTY 8]
    ∧ t = { s with regs := t.regs, calico := t.calico, inbox := rest, con := t.con, sto := { s.sto with sram := t.sto.sram, dirty := t.sto.dirty, copyStale := t.sto.copyStale } }

/-- POD_REPORT (R542): a record that is not newer is counted and dropped. -/
def Effect.podDuplicate : Prop := ∀ (s : State) (d : Delivery) (rest : List Delivery) (n : Nat) (rec' : List Byte), s.conTakes [0x03] d rest →
    s.podFind d.src = some n → msgBody d.payload = rec' → rec'.length = 20 → leAt rec' 6 2 = s.get (CON_POD_SEQ.NEWEST n) → s.nowhere →
  ∃ t, exec .podReport s = .next t ∧ t.get CON_CNT0.DUP = min 65535 (s.get CON_CNT0.DUP + 1) ∧ s.onlyFields t [CON_CNT0.DUP]
    ∧ t = { s with regs := t.regs, inbox := rest }

/-- READ_STORE (R542, R545): the records from the given RSEQ on are to be forwarded again. -/
def Effect.readStore : Prop := ∀ (s : State) (d : Delivery) (rest : List Delivery) (n : Nat), s.conTakes [0x14] d rest →
    s.podFind (msgPod d.payload) = some n → s.nowhere →
  ∃ t, exec .readStore s = .next t
    ∧ t.records n = (s.records n).map (fun r => if (r.rseq + 65536 - leAt d.payload 6 2) % 65536 < 32768 then { r with stage := .fresh } else r)
    ∧ (∀ m, m ≠ n → t.records m = s.records m) ∧ t.inbox = rest ∧ s.onlyFields t [CON_POD_ST.COUNT n, CON_STAT.UNFWD]
    ∧ t = { s with regs := t.regs, inbox := rest, con := { s.con with records := t.con.records } }

/-- CON_TRANSIT (R545, R547): a message of another hub waits in class 1, marked with the transport by which it came. -/
def Effect.conTransit : Prop := ∀ (s : State) (d : Delivery) (rest : List Delivery), s.conTakes [0x10, 0x11, 0x15, 0x20] d rest → s.nowhere →
    (s.con.waiting.filter (fun x => x.cls == 1)).length < 16 →
  ∃ t, exec .conTransit s = .next t
    ∧ t = { s with inbox := rest, con := { s.con with waiting := s.con.waiting ++
        [⟨1, d.payload, 0, [], if d.transport = 0 then 1 else if d.transport = 1 then 3 else if d.transport = 2 then 2 else 4, 0, false⟩] } }

/-- POD_DOWN (R548): BODY goes to a joined pod by radio with ACKREQ, under the slot of its entry. -/
def Effect.podDown : Prop := ∀ (s : State) (d : Delivery) (rest : List Delivery) (n : Nat), s.conTakes [0x12] d rest →
    s.podFind (msgPod d.payload) = some n → s.get (SEC_KS_CFG.STATE (s.get (CON_POD_ST.SLOT n))) ≠ 0 → (msgBody d.payload).length ≤ 215 →
  ∃ t, exec .podDown s = .next t
    ∧ t = { s with inbox := rest, con := { s.con with toLoad := s.con.toLoad ++
        [⟨1, msgPod d.payload, msgBody d.payload, some (s.get (CON_POD_ST.SLOT n)), true, s.on CON_CFG.WAKE, false, false,
          .podDown (msgPod d.payload)⟩] } }

/-- POD_DOWN (R548): a pod that is not in the table is answered with STATUS 1. -/
def Effect.podUnknown : Prop := ∀ (s : State) (d : Delivery) (rest : List Delivery), s.conTakes [0x12] d rest → s.podFind (msgPod d.payload) = none →
    s.nowhere →
  ∃ t, exec .podDown s = .next t
    ∧ t = { s with inbox := rest, con := { s.con with waiting := s.con.waiting ++
        [⟨0, conMessage 0x15 false (msgPod d.payload) [1, 0x12], 0, [], 0, 0, false⟩] } }

/-- FORWARD_CYCLE (R545), RETRYMIN minutes after the latest one: the records that no transport delivered are to be forwarded again, and messages that were tried on every transport begin
anew. -/
def Effect.forwardCycle : Prop := ∀ s : State, s.conRuns = true → s.nowhere →
    s.con.cycleAt + s.get CON_CFG.RETRYMIN * 61440 ≤ s.time.aoTick →
  ∃ t, exec .forwardCycle s = .next t
    ∧ t = { s with con := { s.con with
        cycleAt := s.time.aoTick,
        records := s.con.records.map (fun e => (e.1, e.2.map (fun r => if r.stage = .failed then { r with stage := .fresh } else r))),
        waiting := s.con.waiting.map (fun m => if m.after = 4 then { m with after := 0 } else m) } }

/-- HELD_EXPIRED (R549): a frame held for HOLDMAX minutes goes with WAKE 1. -/
def Effect.heldExpired : Prop := ∀ (s : State) (f : RadFrame), s.rad.own.find? (fun f => match f.held with
      | some t => s.radioRunning && decide (t + s.get CON_CFG.HOLDMAX * 61440 ≤ s.time.aoTick)
      | none => false) = some f →
  ∃ t, exec .heldExpired s = .next t ∧ t.rad = (s.setRadFrame { f with held := none, wake := true, air := f.air + glintAir }).rad
    ∧ t.evt = (s.raise Ev.HELD_EXPIRED).evt ∧ t = { s with evt := t.evt, rad := t.rad }

/-! ### Events and logs (chapter 20) -/

/-- The matrix takes raise `r` next, a source of Table EVT-1 (R553, R560). -/
def State.raiseDue (s : State) (r : Raise) : Prop := s.matrixRuns = true ∧ minBy s.raiseKey s.evt.raises = some r ∧ r.src < 1152

/-- The words that hold a bit of source `src`. -/
def sourceWords (src : Nat) : List Nat :=
  [EVT_RAW.addr (src / 32), EVT_HPEND.addr (src / 32), EVT_CPEND.addr 0 (src / 32), EVT_CPEND.addr 1 (src / 32), EVT_CPEND.addr 2 (src / 32)]

/-- Bit of source `src` in a word that holds one bit for each source from 32·b on. -/
def State.srcBit (s : State) (a src : Nat) : Bool := (s.rd a).getLsbD (src % 32)

/-- The raw bit of the source is set, and its pending bits where its route says so; no bit of another source changes, and the host's registers change
only where HOST is 1 (R554 to R558). -/
def State.raiseTaken (s t : State) (src : Nat) (others : List Nat) : Prop :=
  t.srcBit (EVT_RAW.addr (src / 32)) src = true
    ∧ (routeHost (s.route src) = true → t.srcBit (EVT_HPEND.addr (src / 32)) src = true)
    ∧ (routeHost (s.route src) = false →
        ∀ a ∈ [EVT_HPEND.addr (src / 32), H_IRQ_PEND.addr, H_STAT.addr, H_EVT_BANK.addr], t.rd a = s.rd a)
    ∧ (∀ c, c = 1 ∨ c = 2 → t.srcBit (EVT_CPEND.addr c (src / 32)) src = (s.srcBit (EVT_CPEND.addr c (src / 32)) src || routeCore (s.route src) c))
    ∧ (∀ a b, a ∉ H_IRQ_PEND.addr :: H_STAT.addr :: H_EVT_BANK.addr :: others → ¬ (a ∈ sourceWords src ∧ b = src % 32) →
        (t.rd a).getLsbD b = (s.rd a).getLsbD b)

/-- EVENT_RAISE (R554 to R558) of a source that its route logs nowhere. -/
def Effect.eventTaken : Prop := ∀ (s : State) (r : Raise), s.raiseDue r → r.data = [] → fixedLegal r.src = false → routeOpen (s.route r.src) = false →
    routeLegal (s.route r.src) = false → s.pwr.dozeEntry = false →
  ∃ t, exec .eventRaise s = .next t ∧ s.raiseTaken t r.src []
    ∧ t.srcBit (EVT_CPEND.addr 0 (r.src / 32)) r.src = (s.srcBit (EVT_CPEND.addr 0 (r.src / 32)) r.src || routeCore (s.route r.src) 0)
    ∧ t = { s with regs := t.regs, evt := { s.evt with raises := eraseFirst (fun x => x == r) s.evt.raises } }

/-- EVENT_RAISE (R562, R571) of a source with OPEN 1: an EVENT entry with the RTC of the raise goes to the log FIFO, where its priority has room. -/
def Effect.eventLogged : Prop := ∀ (s : State) (r : Raise), s.raiseDue r → r.data = [] → fixedLegal r.src = false → routeOpen (s.route r.src) = true →
    routeLegal (s.route r.src) = false → s.pwr.dozeEntry = false → s.evt.drops = 0 →
    s.evt.fifo.length + fifoNeed (routePrio (s.route r.src)) ≤ 128 →
  ∃ t, exec .eventRaise s = .next t ∧ s.raiseTaken t r.src [LOG_FIFO.addr]
    ∧ t.get LOG_FIFO.USED = s.evt.fifo.length + 1 ∧ t.get LOG_FIFO.PEAK = max (s.evt.fifo.length + 1) (s.get LOG_FIFO.PEAK)
    ∧ t.get LOG_FIFO.DROPS = s.get LOG_FIFO.DROPS
    ∧ t = { s with regs := t.regs, evt := { s.evt with
              raises := eraseFirst (fun x => x == r) s.evt.raises,
              fifo := s.evt.fifo ++ [⟨s.time.rtc, r.src, 0x00, routePrio (s.route r.src), false, false, []⟩], drops := 0, drops3 := 0 } }

/-- LGC forms legal entries: it runs, and its registers are loaded (R558). -/
def State.legalForms (s : State) : Prop := s.coreUp 0 = true ∧ s.boot.legalLoaded = true

/-- EVENT_RAISE (R562, R564, R565) of a source that is legal by Table EVT-4, while the quota rule leaves room (R566): its entry takes the next SEQ in the
legal queue, and LGC's pending bit of the source is cleared. -/
def Effect.eventLegal : Prop := ∀ (s : State) (r : Raise), s.raiseDue r → s.legalForms → fixedLegal r.src = true →
    r.src ∉ [Ev.STG_REFUSED, Ev.STG_APPLIED, Ev.CTR_CHARGED, Ev.TIME_SET] → routeOpen (s.route r.src) = false → s.pwr.dozeEntry = false →
    s.evt.legalQ.length < 31 → (999 - s.get SEA_CTR.CTR) + 16 < 2048 - s.logUsed →
  ∃ t, exec .eventRaise s = .next t ∧ s.raiseTaken t r.src [SEA_CTR.addr, LOG_LSTAT.addr]
    ∧ t.srcBit (EVT_CPEND.addr 0 (r.src / 32)) r.src = false
    ∧ t.get SEA_CTR.LOGUSED = s.logUsed + 1 ∧ t.get LOG_LSTAT.QUEUED = s.evt.legalQ.length + 1 ∧ t.get SEA_CTR.CTR = s.get SEA_CTR.CTR
    ∧ t.get LOG_LSTAT.WRITTEN = s.get LOG_LSTAT.WRITTEN
    ∧ t = { s with regs := t.regs, evt := { s.evt with
              raises := eraseFirst (fun x => x == r) s.evt.raises,
              legalQ := s.evt.legalQ ++ [(s.evt.legalSeq + 1,
                ⟨s.time.rtc, r.src, legalKind r.src, routePrio (s.route r.src), false, false, r.data⟩)],
              legalSeq := s.evt.legalSeq + 1, queueFull := false } }

/-- EVENT_RAISE (R562, R564) of such a source with OPEN 1: the entry goes to the log FIFO too, marked legal, where its priority has room. -/
def Effect.eventLegalOpen : Prop := ∀ (s : State) (r : Raise), s.raiseDue r → s.legalForms → fixedLegal r.src = true →
    r.src ∉ [Ev.STG_REFUSED, Ev.STG_APPLIED, Ev.CTR_CHARGED, Ev.TIME_SET] → routeOpen (s.route r.src) = true → s.pwr.dozeEntry = false →
    s.evt.legalQ.length < 31 → (999 - s.get SEA_CTR.CTR) + 16 < 2048 - s.logUsed → s.evt.drops = 0 → s.evt.fifo.length + fifoNeed (routePrio (s.route r.src)) ≤ 128 →
  ∃ t, exec .eventRaise s = .next t ∧ s.raiseTaken t r.src [SEA_CTR.addr, LOG_LSTAT.addr, LOG_FIFO.addr]
    ∧ t.srcBit (EVT_CPEND.addr 0 (r.src / 32)) r.src = false
    ∧ t.get SEA_CTR.LOGUSED = s.logUsed + 1 ∧ t.get LOG_LSTAT.QUEUED = s.evt.legalQ.length + 1 ∧ t.get LOG_FIFO.USED = s.evt.fifo.length + 1
    ∧ t = { s with regs := t.regs, evt := { s.evt with
              raises := eraseFirst (fun x => x == r) s.evt.raises,
              legalQ := s.evt.legalQ ++ [(s.evt.legalSeq + 1,
                ⟨s.time.rtc, r.src, legalKind r.src, routePrio (s.route r.src), false, false, r.data⟩)],
              legalSeq := s.evt.legalSeq + 1, queueFull := false,
              fifo := s.evt.fifo ++ [⟨s.time.rtc, r.src, legalKind r.src, routePrio (s.route r.src), true, false, r.data⟩], drops := 0, drops3 := 0 } }

/-- EVENT_RAISE (R566) of such a source, SEALED_APPLY and SEALED_REFUSED apart, where the quota rule leaves no room: the entry goes to the open log alone,
whatever OPEN holds, marked SKIPPED, and is counted. That the rule is tested when LGC forms the entry is the model's choice (log entry 4). -/
def Effect.eventWithheld : Prop := ∀ (s : State) (r : Raise), s.raiseDue r → s.legalForms → fixedLegal r.src = true →
    r.src ∉ [Ev.STG_REFUSED, Ev.STG_APPLIED, Ev.CTR_CHARGED, Ev.TIME_SET] → s.pwr.dozeEntry = false → s.evt.legalQ.length < 32 →
    2048 - s.logUsed ≤ (999 - s.get SEA_CTR.CTR) + 16 → s.evt.drops = 0 → s.evt.fifo.length + fifoNeed (routePrio (s.route r.src)) ≤ 128 →
  ∃ t, exec .eventRaise s = .next t ∧ s.raiseTaken t r.src [LOG_LSKIP.addr, LOG_FIFO.addr]
    ∧ t.srcBit (EVT_CPEND.addr 0 (r.src / 32)) r.src = false
    ∧ t.get LOG_LSKIP.N = min 0xFFFFFFFF (s.get LOG_LSKIP.N + 1) ∧ t.get LOG_FIFO.USED = s.evt.fifo.length + 1
    ∧ (s.evt.quotaRaised = false → t.raised Ev.LEGAL_QUOTA)
    ∧ (s.evt.quotaRaised = true → t.evt.raises = eraseFirst (fun x => x == r) s.evt.raises)
    ∧ t = { s with regs := t.regs, evt := { s.evt with
              raises := t.evt.raises,
              fifo := s.evt.fifo ++ [⟨s.time.rtc, r.src, legalKind r.src, routePrio (s.route r.src), false, true, r.data⟩], drops := 0, drops3 := 0,
              quotaRaised := true } }

/-- Eight words of an entry stand in a log from word `8 · slot` on, and no other word of it has changed. -/
def entryWritten (m m' : List (Nat × Word)) (slot : Nat) (ws : List Word) : Prop :=
  (∀ j, j < 8 → Sparse.get zeroWord m' (8 * slot + j) = ws.getD j 0)
    ∧ ∀ k, (k < 8 * slot ∨ 8 * slot + 8 ≤ k) → Sparse.get zeroWord m' k = Sparse.get zeroWord m k

/-- LGC may write the head of the legal queue: it runs, a slot is free, and the log is not full. -/
def State.legalHeadDue (s : State) (n : Nat) (e : LogEntry) (rest : List (Nat × LogEntry)) : Prop :=
  s.evt.legalQ = (n, e) :: rest ∧ s.twillRuns = true ∧ s.legalForms ∧ s.evt.legalWait = [] ∧ s.logUsed + 1 < 2048

/-- LEGAL_ENTRY_WRITE (R561, R564): the entry with its CRC stands in the next free slot and leaves the queue. -/
def Effect.legalWritten : Prop := ∀ (s : State) (n : Nat) (e : LogEntry) (rest : List (Nat × LogEntry)), s.legalHeadDue n e rest →
    s.slotLeft e = true →
  ∃ t, exec (.legalEntryWrite true) s = .next t ∧ entryWritten s.evt.legalLog t.evt.legalLog s.evt.legalSlots (entryWords n e)
    ∧ t.get LOG_LSTAT.WRITTEN = min 4095 (s.get LOG_LSTAT.WRITTEN + 1) ∧ t.get SEA_CTR.LOGUSED = s.logUsed
    ∧ s.onlyFields t [LOG_LSTAT.WRITTEN, LOG_LSTAT.QUEUED, SEA_CTR.LOGUSED]
    ∧ t = { s with regs := t.regs, evt := { s.evt with
              legalLog := t.evt.legalLog, legalSlots := s.evt.legalSlots + 1, legalQ := rest, queueFull := false } }

/-- LEGAL_ENTRY_WRITE (R572): a slot whose read-back fails is marked and lost, and the entry waits for the next one. -/
def Effect.legalFailed : Prop := ∀ (s : State) (n : Nat) (e : LogEntry) (rest : List (Nat × LogEntry)), s.legalHeadDue n e rest →
    s.slotLeft e = true →
  ∃ t, exec (.legalEntryWrite false) s = .next t
    ∧ entryWritten s.evt.legalLog t.evt.legalLog s.evt.legalSlots (0xFFFFFFFF :: (entryWords n e).drop 1)
    ∧ t.get SEA_CTR.LOGUSED = s.logUsed + 1 ∧ t.evt.raises = (s.raise Ev.PROGRAM_FAIL).evt.raises
    ∧ s.onlyFields t [LOG_LSTAT.QUEUED, SEA_CTR.LOGUSED]
    ∧ t = { s with regs := t.regs, evt := { s.evt with
              raises := t.evt.raises, legalLog := t.evt.legalLog, legalSlots := s.evt.legalSlots + 1 } }

/-- LEGAL_ENTRY_WRITE (R566): an entry that finds no slot left goes to the open log, marked SKIPPED, and is counted. -/
def Effect.legalWithheld : Prop := ∀ (s : State) (good : Bool) (n : Nat) (e : LogEntry) (rest : List (Nat × LogEntry)), s.evt.legalQ = (n, e) :: rest →
    s.twillRuns = true → s.legalForms → s.evt.legalWait = [] → s.slotLeft e = false → s.on SEA_STAT.LOGFULL = true → s.evt.drops = 0 →
    s.evt.fifo.length + 33 ≤ 128 →
  ∃ t, exec (.legalEntryWrite good) s = .next t ∧ t.get LOG_LSKIP.N = min 0xFFFFFFFF (s.get LOG_LSKIP.N + 1)
    ∧ (s.evt.quotaRaised = false → t.raised Ev.LEGAL_QUOTA) ∧ (s.evt.quotaRaised = true → t.evt.raises = s.evt.raises)
    ∧ s.onlyFields t [LOG_LSKIP.N, LOG_FIFO.USED, LOG_FIFO.PEAK, LOG_LSTAT.QUEUED, SEA_CTR.LOGUSED]
    ∧ t = { s with regs := t.regs, evt := { s.evt with
              raises := t.evt.raises, fifo := s.evt.fifo ++ [{ e with skipped := true, legal := false }], drops := 0, drops3 := 0, legalQ := rest,
              quotaRaised := true, queueFull := false } }

/-- OPEN_ENTRY_WRITE (R570, R572): the oldest entry with the next SEQ in slot (SEQ − 1) mod 8,192; a slot whose read-back fails is marked, and the entry
is written again with the next SEQ. -/
def Effect.openWritten : Prop := ∀ (s : State) (good : Bool) (e : LogEntry) (rest : List LogEntry), s.matrixRuns = true → s.evt.fifo = e :: rest →
  ∃ t, exec (.openEntryWrite good) s = .next t
    ∧ entryWritten s.evt.openLog t.evt.openLog ((s.evt.openSeq - 1) % 8192)
        (if good then entryWords s.evt.openSeq e else 0xFFFFFFFF :: (entryWords s.evt.openSeq e).drop 1)
    ∧ t.evt.fifo = (if good then rest else e :: rest)
    ∧ t.evt.openSeq = (if s.evt.openSeq = 0xFFFFFFFF then 1 else s.evt.openSeq + 1)
    ∧ (good = true → t.get LOG_OSTAT.NEWEST = s.evt.openSeq % 2 ^ 32) ∧ (good = false → t.raised Ev.PROGRAM_FAIL)
    ∧ ((s.evt.openSeq - 1) % 8192 = 0 → Sparse.get zeroWord s.evt.openLog 0 ≠ 0 → t.raised Ev.OPEN_WRAP)
    ∧ t.get LOG_FIFO.USED = t.evt.fifo.length % 256
    ∧ s.onlyFields t [if good then LOG_OSTAT.NEWEST else LOG_FIFO.USED, LOG_FIFO.USED]
    ∧ t = { s with regs := t.regs, evt := { s.evt with
              raises := t.evt.raises, openLog := t.evt.openLog, openSeq := t.evt.openSeq, fifo := t.evt.fifo } }

/-! ### The optical port, buttons, display and pulses (chapter 21) -/

/-- The optical port is the only part of the chip outside the registers that differs. -/
def State.optOnly (s t : State) : Prop := t = { s with regs := t.regs, evt := t.evt, loc := { s.loc with opt := t.loc.opt } }

/-- OPT_REQUEST (R582): a request with an empty address or the device's own opens a session. -/
def Effect.optRequest : Prop := ∀ (s : State) (msg a : List Byte), s.optListens = true → s.loc.opt.stage = .idle → requestAddress msg = some a →
    (a = [] ∨ a = trimNul (wordBytes [s.rd (LOC_ADDR.addr 0), s.rd (LOC_ADDR.addr 1)])) →
  ∃ t, exec (.optRequest msg) s = .next t ∧ t.loc.opt = { s.loc.opt with stage := .requested, tick := s.time.aoTick }
    ∧ t.on LOC_OSTAT.ACTIVE = true ∧ s.onlyFields t [LOC_OSTAT.ACTIVE] ∧ t.evt = s.evt ∧ s.optOnly t

/-- OPT_IDENT_SEND (R581, R582): the identification message; in mode C it awaits the acknowledgement, in mode A the data message follows. -/
def Effect.optIdentSend : Prop := ∀ s : State, s.optListens = true → s.loc.opt.stage = .requested → s.optDue = true →
  ∃ t, exec .optIdentSend s = .next t
    ∧ t = { s with loc := { s.loc with opt := ⟨if s.on LOC_OPT.MODE then .ackWait else .readoutDue, s.time.aoTick, s.identMessage⟩ } }

/-- An acknowledgement is awaited. -/
def State.optAwaits (s : State) : Prop := s.optListens = true ∧ s.loc.opt.stage = .ackWait

/-- OPT_ACK (R581, R586) with a baud rate up to the proposed one: Y "0" asks for the data message, and Y "6" for verification where VSEN allows it. -/
def Effect.optAck : Prop := ∀ (s : State) (z y : Byte), s.optAwaits → 0x30 ≤ z.toNat → z.toNat - 0x30 ≤ s.get LOC_OPT.ZMAX →
    (y = 0x30 ∨ (y = 0x36 ∧ s.on LOC_OPT.VSEN = true)) →
  ∃ t, exec (.optAck z y false) s = .next t ∧ t.get LOC_OSTAT.BAUD = z.toNat - 0x30
    ∧ t.loc.opt = { s.loc.opt with stage := if y = 0x30 then .readoutDue else .w6, tick := s.time.aoTick }
    ∧ s.onlyFields t [LOC_OSTAT.BAUD] ∧ t.evt = s.evt ∧ s.optOnly t

/-- The optical session has ended, and the port is back at 300 baud (R584). -/
def State.optEnded (s t : State) : Prop :=
  t.loc.opt = { s.loc.opt with stage := .idle } ∧ t.on LOC_OSTAT.ACTIVE = false ∧ t.get LOC_OSTAT.BAUD = 0 ∧ s.optOnly t

/-- OPT_ACK (R581, R584) with another Z or Y ends the session. -/
def Effect.optAckOther : Prop := ∀ (s : State) (z y : Byte), s.optAwaits →
    (z.toNat < 0x30 ∨ s.get LOC_OPT.ZMAX < z.toNat - 0x30 ∨ (y ≠ 0x30 ∧ (y ≠ 0x36 ∨ s.on LOC_OPT.VSEN = false))) →
  ∃ t, exec (.optAck z y false) s = .next t ∧ s.optEnded t ∧ t.evt = s.evt ∧ s.onlyFields t [LOC_OSTAT.ACTIVE, LOC_OSTAT.BAUD]

/-- The session has ended with an error, which is counted and raised (R584). -/
def State.optFailed (s t : State) : Prop :=
  s.optEnded t ∧ t.get LOC_OSTAT.ERRORS = min 255 (s.get LOC_OSTAT.ERRORS + 1) ∧ t.evt = (s.raise Ev.OPT_ERROR).evt
    ∧ s.onlyFields t [LOC_OSTAT.ACTIVE, LOC_OSTAT.BAUD, LOC_OSTAT.ERRORS]

/-- OPT_ACK (R584) with a parity error. -/
def Effect.optAckBad : Prop := ∀ (s : State) (z y : Byte), s.optAwaits → ∃ t, exec (.optAck z y true) s = .next t ∧ s.optFailed t

/-- The data message goes out and is counted (R579, R583). -/
def State.readoutSent (s t : State) : Prop :=
  t.loc.opt = ⟨.sending, s.time.aoTick, s.dataMessage⟩ ∧ t.get LOC_OSTAT.READOUTS = min 65535 (s.get LOC_OSTAT.READOUTS + 1)
    ∧ t.raised Ev.OPT_READOUT ∧ s.optOnly t

/-- OPT_ACK_TIMEOUT (R582): 1,500 ms without an acknowledgement: the data message at 300 baud. -/
def Effect.optAckTimeout : Prop := ∀ s : State, s.optAwaits → s.loc.opt.tick + optLimit ≤ s.time.aoTick →
  ∃ t, exec .optAckTimeout s = .next t ∧ s.readoutSent t ∧ t.get LOC_OSTAT.BAUD = 0 ∧ s.onlyFields t [LOC_OSTAT.BAUD, LOC_OSTAT.READOUTS]

/-- OPT_READOUT (R582, R583). -/
def Effect.optReadout : Prop := ∀ s : State, s.optListens = true → s.loc.opt.stage = .readoutDue → (s.optDue = true ∨ s.on LOC_OPT.MODE = false) →
  ∃ t, exec .optReadout s = .next t ∧ s.readoutSent t ∧ s.onlyFields t [LOC_OSTAT.READOUTS]

/-- OPT_SILENCE (R584): 1,500 ms without a character that a verification session awaits. -/
def Effect.optSilence : Prop := ∀ s : State, s.apcRuns = true → s.loc.opt.stage = .w6 →
    s.loc.opt.tick + optLimit ≤ s.time.aoTick → ∃ t, exec .optSilence s = .next t ∧ s.optFailed t

/-- OPT_MESSAGE_END (R584). -/
def Effect.optMessageEnd : Prop := ∀ s : State, s.loc.opt.stage = .sending → s.umb.frozen = false →
  ∃ t, exec .optMessageEnd s = .next t ∧ s.optEnded t ∧ t.evt = s.evt ∧ s.onlyFields t [LOC_OSTAT.ACTIVE, LOC_OSTAT.BAUD]

/-- A message of a verification session whose block check character is good (R586). -/
def State.w6Message (s : State) (msg : List Byte) : Prop :=
  s.optListens = true ∧ s.loc.opt.stage = .w6 ∧ msg.getLastD 0 = bcc ((msg.take (msg.length - 1)).drop 1)

/-- OPT_VS_REQ (R584, R586) with a bad block check character. -/
def Effect.optVsBad : Prop := ∀ (s : State) (msg : List Byte) (bad : Bool), s.optListens = true → s.loc.opt.stage = .w6 →
    (bad = true ∨ msg.getLastD 0 ≠ bcc ((msg.take (msg.length - 1)).drop 1)) → ∃ t, exec (.optVsReq msg bad) s = .next t ∧ s.optFailed t

/-- OPT_VS_REQ (R586): a malformed message is to be answered NAK. -/
def Effect.optVsNak : Prop := ∀ (s : State) (msg : List Byte), s.w6Message msg → w6Body (msg.take (msg.length - 1)) = none →
  ∃ t, exec (.optVsReq msg false) s = .next t ∧ t = { s with loc := { s.loc with opt := { s.loc.opt with stage := .w6Answer NAK, tick := s.time.aoTick } } }

/-- OPT_VS_REQ (R348, R586): an empty message closes the session and is to be answered ACK. -/
def Effect.optVsClose : Prop := ∀ (s : State) (msg : List Byte), s.w6Message msg → w6Body (msg.take (msg.length - 1)) = some [] →
    s.on SEA_STAT.SESSION = true →
  ∃ t, exec (.optVsReq msg false) s = .next t ∧ t.on SEA_STAT.SESSION = false ∧ t.get SYS_VS_STAT.RESULT = 3 ∧ t.get SYS_VS_STAT.ENDCAUSE = 1
    ∧ t.raised Ev.SESSION_CLOSE ∧ t.loc.opt = { s.loc.opt with stage := .w6Answer ACK, tick := s.time.aoTick }
    ∧ s.onlyFields t [SEA_STAT.SESSION, SYS_VS_STAT.RESULT, SYS_VS_STAT.ENDCAUSE] ∧ s.optOnly t

/-- OPT_VS_REQ (R342 to R344, R586): a credential of 16 bytes is written and OPEN requested; it waits while BUSY is 1. -/
def Effect.optVsOpen : Prop := ∀ (s : State) (msg hex cred : List Byte), s.w6Message msg → w6Body (msg.take (msg.length - 1)) = some hex → hex ≠ [] →
    hexBytes hex = some cred → cred.length = 16 → s.fab.restarting.contains 0 = false → s.boot.steps.testBit 3 = true →
  ∃ t, exec (.optVsReq msg false) s = .next t
    ∧ (s.on SYS_VS_STAT.BUSY = true → t = { s with loc := { s.loc with opt := { s.loc.opt with stage := .w6Busy cred, tick := s.time.aoTick } } })
    ∧ (s.on SYS_VS_STAT.BUSY = false → t.on SYS_VS_STAT.BUSY = true ∧ (∀ j, j < 4 → t.rd (SYS_VS_CRED.addr j) = 0) ∧ t.raised Ev.OPT_VS_REQ
        ∧ t.sea.opening = some (s.on SEA_STAT.VSW && !s.sessionLocked && (s.on SEA_STAT.VIRGIN || aesEncrypt (cred.map BitVec.toNat) verifierBlock
            == (wordBytes ((List.range 4).map (fun j => s.rd (SEA_VERIFIER.addr j)))).map BitVec.toNat))
        ∧ t.get SEA_LOCK.FAILS = (if s.sessionLocked then s.get SEA_LOCK.FAILS else min 8 (s.get SEA_LOCK.FAILS + 1))
        ∧ t.sea.openedAt = s.time.runCyc ∧ t.loc.opt = { s.loc.opt with stage := .w6Open, tick := s.time.aoTick })
    ∧ s.onlyWords t (SYS_VS_STAT.addr :: SEA_LOCK.addr :: (List.range 4).map SYS_VS_CRED.addr)
    ∧ t = { s with regs := t.regs, evt := t.evt, sea := { s.sea with opening := t.sea.opening, openedAt := t.sea.openedAt },
                   loc := { s.loc with opt := t.loc.opt } }

/-- An answer of one character goes out 200 ms after its message, less the 10 ms of the bound, in a tick (R586; log entries 3 and 18). -/
def Effect.optAnswered : Prop := ∀ (s : State) (c : Byte), s.pending = [] → s.aoDown = false → s.pwr.dozeEntry = false → s.pwr.request = none →
    s.apcRuns = true → s.loc.opt.stage = .w6Answer c → s.loc.opt.tick + optDelay ≤ s.time.aoTick →
  ∃ t, step s = .next t ∧ t.loc.opt = ⟨.w6, t.time.aoTick, [c]⟩

/-- OPT_START_BIT_WAKE (R95, R585) in Doze. -/
def Effect.optStartBitWake : Prop := ∀ s : State, s.mode = .doze → s.on SYS_PINCFG.OPTDIS = false → (s.rd PWR_WAKE.addr).getLsbD 4 = true →
  ∃ t, exec .optStartBitWake s = .next t ∧ s.leftDoze t 4

/-- A button that acts: up, enabled and not ignored, in Run with APC and the display driver there, on no way into Doze. -/
def State.pressable (s : State) (k : Fin 4) : Prop :=
  s.umb.frozen = false ∧ (s.get SYS_PINCFG.BTNDIS).testBit k = false ∧ s.buttonDown k = false ∧ s.loc.ignored.testBit k = false ∧ s.apcRuns = true
    ∧ s.boot.steps.testBit 3 = true ∧ s.pwr.dozeEntry = false ∧ s.on SYS_STRAP.LCDEN = true

/-- The place after the current one of the current list, and the one before it, wrapping. -/
def State.nextItem (s : State) : Nat :=
  if s.get LOC_DSTAT.ITEM + 1 < (s.listItems (s.get LOC_DSTAT.LIST)).length then s.get LOC_DSTAT.ITEM + 1 else 0
def State.prevItem (s : State) : Nat :=
  if s.get LOC_DSTAT.ITEM = 0 then (s.listItems (s.get LOC_DSTAT.LIST)).length - 1 else s.get LOC_DSTAT.ITEM - 1

/-- BUTTON_PRESS (R590, R591): the button's event; the press that turns the display on does that alone; button 0 goes on through the list and button 1
back, where no error item stands in it. -/
def Effect.buttonPress : Prop := ∀ (s : State) (k : Fin 4), s.pressable k →
  ∃ t, exec (.buttonPress k) s = .next t ∧ t.get LOC_BTN.LEVEL = s.get LOC_BTN.LEVEL ||| 2 ^ k.val ∧ t.raised (Ev.BTN0 + k.val)
    ∧ t.buttonDown k = true ∧ t.loc.lastPress = some s.time.aoTick ∧ t.on LOC_DSTAT.ON = true
    ∧ (s.on LOC_DSTAT.ON = false → t.get LOC_DSTAT.LIST = 0 ∧ t.get LOC_DSTAT.ITEM = 0 ∧ t.raised Ev.DISPLAY_ON)
    ∧ (s.on LOC_DSTAT.ON = true → t.get LOC_DSTAT.LIST = s.get LOC_DSTAT.LIST)
    ∧ (s.on LOC_DSTAT.ON = true → 2 ≤ k.val → t.get LOC_DSTAT.ITEM = s.get LOC_DSTAT.ITEM)
    ∧ (s.on LOC_DSTAT.ON = true → s.on SEA_STAT.ALARM = false → k = 0 → t.get LOC_DSTAT.ITEM = s.nextItem)
    ∧ (s.on LOC_DSTAT.ON = true → s.on SEA_STAT.ALARM = false → k = 1 → t.get LOC_DSTAT.ITEM = s.prevItem)
    ∧ s.onlyFields t [LOC_BTN.LEVEL, LOC_DSTAT.ON, LOC_DSTAT.LIST, LOC_DSTAT.ITEM]
    ∧ t = { s with regs := t.regs, evt := t.evt, loc := { s.loc with
              down := t.loc.down, lastPress := t.loc.lastPress, onErr := t.loc.onErr, lastScroll := t.loc.lastScroll } }

/-- BTN_LONG (R591): after 2 s button 0 shows the next list, button 1 list 0, and button 2 starts the display test. -/
def Effect.btnLong : Prop := ∀ (s : State) (k : Fin 4) (t0 : Nat), Sparse.find s.loc.down k.val = some t0 → s.umb.frozen = false →
    s.loc.long.testBit k = false → t0 + 2048 ≤ s.time.aoTick → s.apcRuns = true → s.on LOC_DSTAT.ON = true →
  ∃ t, exec (.btnLong k) s = .next t ∧ t.raised Ev.BTN_LONG ∧ t.loc.long.testBit k = true
    ∧ (k = 0 → t.get LOC_DSTAT.LIST = (s.get LOC_DSTAT.LIST + 1) % 3 ∧ t.get LOC_DSTAT.ITEM = 0)
    ∧ (k = 1 → t.get LOC_DSTAT.LIST = 0 ∧ t.get LOC_DSTAT.ITEM = 0)
    ∧ (2 ≤ k.val → t.regs = s.regs) ∧ t.loc.test = (if k = 2 then some s.time.aoTick else s.loc.test)
    ∧ s.onlyFields t [LOC_DSTAT.LIST, LOC_DSTAT.ITEM]
    ∧ t = { s with regs := t.regs, evt := t.evt, loc := { s.loc with
              long := t.loc.long, test := t.loc.test, onErr := t.loc.onErr, lastScroll := t.loc.lastScroll } }

/-- BUTTON_RELEASE (R591). -/
def Effect.buttonRelease : Prop := ∀ (s : State) (k : Fin 4), s.umb.frozen = false →
  ∃ t, exec (.buttonRelease k) s = .next t ∧ t.buttonDown k = false ∧ t.get LOC_BTN.LEVEL = s.get LOC_BTN.LEVEL &&& (15 - 2 ^ k.val)
    ∧ (∀ j : Fin 4, j ≠ k → t.buttonDown j = s.buttonDown j)
    ∧ s.onlyFields t [LOC_BTN.LEVEL]
    ∧ t = { s with regs := t.regs, loc := { s.loc with down := t.loc.down, long := t.loc.long, ignored := t.loc.ignored } }

/-- DISPLAY_TEST_END (R591). -/
def Effect.displayTestEnd : Prop := ∀ (s : State) (t0 : Nat), s.apcRuns = true → s.loc.test = some t0 → t0 + 2048 ≤ s.time.aoTick →
  ∃ t, exec .displayTestEnd s = .next t ∧ t = { s with loc := { s.loc with test := none } }

/-- DISPLAY_SCROLL (R590) where no error item stands in list 0. -/
def Effect.displayScroll : Prop := ∀ s : State, s.apcRuns = true → s.on LOC_DSTAT.ON = true → s.get LOC_DSTAT.LIST = 0 → s.get LOC_LCD.SCROLL ≠ 0 →
    s.noPressFor (s.get LOC_LCD.TIMEOUT) = true → s.returnDue = false → s.loc.lastScroll + s.get LOC_LCD.SCROLL * 1024 ≤ s.time.aoTick → s.on SEA_STAT.ALARM = false →
  ∃ t, exec .displayScroll s = .next t ∧ t.get LOC_DSTAT.ITEM = s.nextItem ∧ t.loc.lastScroll = s.time.aoTick ∧ s.onlyFields t [LOC_DSTAT.ITEM]
    ∧ t = { s with regs := t.regs, evt := t.evt, loc := { s.loc with onErr := false, lastScroll := s.time.aoTick } }

/-- DISPLAY_OFF (R590) in MODE 1, ONTIME seconds after the latest press. -/
def Effect.displayOff : Prop := ∀ s : State, s.apcRuns = true → s.on LOC_DSTAT.ON = true → s.on LOC_LCD.MODE = true →
    s.noPressFor (s.get LOC_LCD.ONTIME) = true →
  ∃ t, exec .displayOff s = .next t ∧ t.on LOC_DSTAT.ON = false ∧ s.onlyFields t [LOC_DSTAT.ON]
    ∧ t = { s with regs := t.regs, loc := { s.loc with test := none } }

/-- DISPLAY_TIMEOUT (R591), TIMEOUT seconds after a press, once: back to list 0, item 0. -/
def Effect.displayTimeout : Prop := ∀ (s : State) (t0 : Nat), s.apcRuns = true → s.on LOC_DSTAT.ON = true → s.loc.lastPress = some t0 →
    t0 + s.get LOC_LCD.TIMEOUT * 1024 ≤ s.time.aoTick → s.loc.lastScroll < t0 + s.get LOC_LCD.TIMEOUT * 1024 →
  ∃ t, exec .displayTimeout s = .next t ∧ t.get LOC_DSTAT.LIST = 0 ∧ t.get LOC_DSTAT.ITEM = 0 ∧ t.loc.onErr = s.on SEA_STAT.ALARM
    ∧ s.onlyFields t [LOC_DSTAT.LIST, LOC_DSTAT.ITEM]
    ∧ t = { s with regs := t.regs, evt := t.evt, loc := { s.loc with onErr := t.loc.onErr, lastScroll := s.time.aoTick } }

/-- The pulse or open time of output `n` that began last has lasted WIDTH ms (R592). -/
def State.pulseOver (s : State) (n : Fin 4) (st : PulseStage) : Prop :=
  s.apcRuns = true ∧ (s.pulseOut n).stage = st
    ∧ (s.pulseOut n).since * 1000 + s.get (LOC_PO_CFG.WIDTH n) * 32768 ≤ (s.time.cyc + 1) * 1000

/-- PULSE_END (R592): the output opens for as long as it was closed. -/
def Effect.pulseClosedEnd : Prop := ∀ (s : State) (n : Fin 4), s.pulseOver n .closed →
  ∃ t, exec (.pulseEnd n) s = .next t ∧ t.pulseOut n = { s.pulseOut n with stage := .gap, since := s.time.cyc }
    ∧ (∀ m, m ≠ n.val → t.pulseOut m = s.pulseOut m) ∧ t = { s with loc := { s.loc with outs := t.loc.outs } }

/-- PULSE_END (R592): after the open time a waiting pulse starts, and BACKLOG goes down by 1. -/
def Effect.pulseGapEnd : Prop := ∀ (s : State) (n : Fin 4), s.pulseOver n .gap → s.get (LOC_PO_CFG.MODE n) = 1 →
  ∃ t, exec (.pulseEnd n) s = .next t
    ∧ (s.get (LOC_PO_ST.BACKLOG n) = 0 → (t.pulseOut n).stage = .idle ∧ t.regs = s.regs)
    ∧ (s.get (LOC_PO_ST.BACKLOG n) ≠ 0 → t.pulseOut n = { s.pulseOut n with stage := .closed, since := s.time.cyc }
        ∧ t.get (LOC_PO_ST.BACKLOG n) = s.get (LOC_PO_ST.BACKLOG n) - 1)
    ∧ (∀ m, m ≠ n.val → t.pulseOut m = s.pulseOut m) ∧ s.onlyFields t [LOC_PO_ST.BACKLOG n]
    ∧ t = { s with regs := t.regs, loc := { s.loc with outs := t.loc.outs } }

/-- PULSE_INPUT_EDGE (R594): the selected edge counts, modulo 2^32, and the other one does not. -/
def Effect.pulseInputEdge : Prop := ∀ (s : State) (n : Fin 4) (rising : Bool), (s.mode = .run ∨ s.mode = .doze) → s.umb.frozen = false →
    s.on PWR_STAT.VIOLOK = true → (s.get SYS_PINCFG.PIDIS).testBit n = false →
  ∃ t, exec (.pulseInputEdge n rising) s = .next t
    ∧ t.get (LOC_PI_CNT.CNT n) = (if s.on (LOC_PI_CFG.EDGE n) = rising then (s.get (LOC_PI_CNT.CNT n) + 1) % 2 ^ 32 else s.get (LOC_PI_CNT.CNT n))
    ∧ t.pins.inputs = (s.pins.inputs &&& (15 - 2 ^ n.val)) + (if rising then 2 ^ n.val else 0)
    ∧ s.onlyFields t [LOC_PI_CNT.CNT n] ∧ t = { s with regs := t.regs, pins := { s.pins with inputs := t.pins.inputs } }

/-! ### Single rules -/

/-- RELEASE frees the lease when nobody waits for it (R34). -/
def Effect.leaseFreed : Prop := ∀ (s : State) (i : Fin 14) (k : Fin 4), s.leaseReady i k → (s.lease k).holder = some i.val → (s.lease k).queue = [] →
  ∃ t, exec (.leaseRelease i k []) s = .next t ∧ t.lease k = ⟨none, 0, []⟩ ∧ t.on (TWL_LEASE.HELD k) = false ∧ t.leaseResult i = 5

/-- RENEW and RELEASE by an initiator that is not the holder (R34): NOT_HOLDER, and the lease stands. -/
def Effect.leaseNotHeld : Prop := ∀ (s : State) (i : Fin 14) (k : Fin 4) (c : Instr), c ∈ [Instr.leaseRenew i k [], .leaseRelease i k []] → s.leaseReady i k →
    (s.lease k).holder ≠ some i.val →
  ∃ t, exec c s = .next t ∧ t.leaseResult i = 3 ∧ t = { s with fab := { s.fab with result := t.fab.result } }

/-- LOOP_SILENT once (R529): until a good header, nothing more happens. -/
def Effect.loopStillSilent : Prop := ∀ s : State, s.lop.silent = true → exec .loopSilent s = .next s

/-- LOOP_FRAME_REPEAT (R529): a frame with a good HCS sets RING. -/
def Effect.loopHeard : Prop := ∀ (s : State) (bytes : List Byte) (stalled : Bool) (refused : Option Denial), s.isSlave = true → 9 ≤ bytes.length →
    crc8 (bytes.take 6) = byteAt bytes 6 →
  ∃ t, exec (.loopFrameRepeat bytes stalled refused) s = .next t ∧ t.on LOP_STAT.RING = true ∧ t.lop.heard = s.time.aoTick
    ∧ t.lop.silent = false

/-- PLS_HALF_CYCLE (R447) of a receiver whose timing phase is unlocked: one more half-cycle, marked as an erasure. -/
def Effect.plsHalfErased : Prop := ∀ (s : State) (ws : List PhaseWave) (r : TrainRx), s.plsRunning = true → s.pls.train = none → s.pls.rx = some r →
    s.plsLocked = false →
  ∃ t, exec (.plsHalfCycle ws) s = .next t ∧ t.pls.rx = some { r with line := none :: r.line, erased := r.erased + 1 }

/-! ### The whole block -/

/-- A command answers a next state. -/
def Effect.answers : Prop := ∀ (c : Instr) (s : State), ∃ t, exec c s = .next t

/-- A command leaves the queue of the commands behind it alone. -/
def Effect.queueKept : Prop := ∀ (c : Instr) (s t : State), exec c s = .next t → t.pending = s.pending

/-- One RTC source cycle of the time base with no command waiting, no mode request and no Doze entry under way (R15, R36, R125, R379). -/
def Effect.idleCycle : Prop := ∀ s : State, s.pending = [] → s.aoDown = false → s.pwr.dozeEntry = false → s.pwr.request = none →
  ∃ t, step s = .next t ∧ t.time.cyc = s.time.cyc + 1
    ∧ t.time.aoTick = (if s.time.aoPresc = 31 then s.time.aoTick + 1 else s.time.aoTick) ∧ t.time.aoPresc = (s.time.aoPresc + 1) % 32
    ∧ (s.umb.frozen = true → t.time.rtc = s.time.rtc ∧ t.time.presc = s.time.presc ∧ t.umb.span = s.umb.span + 1)
    ∧ (s.umb.frozen = false → t.time.presc = (s.time.presc + 1) % 32
        ∧ t.time.rtc = (if s.time.presc = 31 ∧ s.time.rtc ≠ 0xFFFFFFFFFFFF then s.time.rtc + 1 else s.time.rtc))
    ∧ t.time.runCyc = (if s.twillRuns then s.time.runCyc + 1 else s.time.runCyc)
    ∧ t.vault = s.vault ∧ t.calico = s.calico ∧ t.mode = s.mode ∧ t.pending = []

/-- While the AO supply is absent nothing counts (R118). -/
def Effect.idleDown : Prop := ∀ s : State, s.pending = [] → s.aoDown = true → step s = .next s

end Sys2Proof.Machine

open Sys2Proof Sys2Proof.Machine

/-- With a command at the front of the queue, a step is exec of that command on the state with the rest of the queue. (spec/95_what_each_step_holds.md) -/
def Obligations.StepRunsFront : Prop :=
  ∀ (s : State) (c : Instr) (q : List Instr), s.pending = c :: q → step s = exec c (s.withPending q)

/-- No command of the table ends in a fault or a refusal, whatever the state and the operands. That a command whose condition does not hold has no effect is a choice of the model, log entry 1. (spec/95_what_each_step_holds.md) -/
def Obligations.EveryCommandAnswers : Prop :=
  Effect.answers

/-- Where a command answers a next state, the queue of the commands behind it stands as it was: exec acts on everything but the queue. (spec/95_what_each_step_holds.md) -/
def Obligations.QueueKept : Prop :=
  Effect.queueKept

/-- The tick on an empty queue is a choice of the model, log entry 3: one RTC source cycle, in which the AO tick and its divider count, the RTC and its divider count outside a freeze and hold at the maximum, the freeze span counts in a freeze, and nothing counts while the AO supply is absent. (R15, R36, R118, R125, R379) -/
def Obligations.IdleCycle : Prop :=
  Effect.idleCycle ∧ Effect.idleDown

/-- From every sound state, one whose register store, Calico, vault, shadow SRAM and store array are in canonical form, a step answers a sound state. The canonical form is the model's own, log entries 2 and 27. (R5, R19, R118, R390) -/
def Obligations.SoundKept : Prop :=
  ∀ s t : State, s.Sound → step s = .next t → t.Sound

/-- The state after reset is sound, and no command waits in it. (R148) -/
def Obligations.ResetSound : Prop :=
  State.reset.Sound ∧ State.reset.pending = []

/-- After reset the RTC and the AO tick stand at 0, no source is raised, nothing is logged, no lease is held, no session is open, no train, frame or message waits, and the first start is counted in SYS_RSTCNT. That reset is taken as the state at step 1 of the first start is a choice of the model, log entry 28. (R118, R148) -/
def Obligations.ResetValues : Prop :=
  State.reset.time.rtc = 0 ∧ State.reset.time.aoTick = 0 ∧ State.reset.evt.raises = [] ∧ State.reset.evt.legalQ = []
    ∧ State.reset.evt.fifo = [] ∧ (∀ k, State.reset.lease k = ⟨none, 0, []⟩) ∧ State.reset.on SEA_STAT.SESSION = false
    ∧ State.reset.pls.train = none ∧ State.reset.rad.own = [] ∧ State.reset.lop.own = [] ∧ State.reset.inbox = []
    ∧ State.reset.rd SYS_RSTCNT.addr = 1 ∧ ∀ a, a ≠ SYS_RSTCNT.addr → State.reset.rd a = resetWord a

/-- RENEW by the holder restarts the full duration with an empty queue and is denied otherwise; RELEASE by the holder frees the lease; either by another initiator answers NOT_HOLDER and changes no lease. (R34) -/
def Obligations.RenewAndRelease : Prop :=
  Effect.leaseRenew ∧ Effect.leaseRelease ∧ Effect.leaseFreed ∧ Effect.leaseNotHeld

/-- A slave that has seen no frame with a good HCS for 100 ms clears RING and raises LOOP_SILENT, once; the next frame with a good HCS sets RING again. (R529) -/
def Obligations.RingSilence : Prop :=
  Effect.loopSilent ∧ Effect.loopStillSilent ∧ Effect.loopHeard

/-- A receiver whose timing phase is unlocked counts on and marks each half-cycle as an erasure; more than GAPMAX of them in a row end its reception and raise GAP_ERASED. (R447) -/
def Obligations.ReceptionGaps : Prop :=
  Effect.plsHalfErased ∧ Effect.gapErased

/-- Power-on reset, the strap pre-sample, a pin reset in a low mode and the completion of its cut end in the states that the reset rules give (choices in log entry 23). (R148, R649, R151) -/
def Obligations.ResetSources : Prop :=
  Effect.powerOnReset ∧ Effect.strapPresample ∧ Effect.pinResetAsleep ∧ Effect.rstoreCut

/-- A pin reset in Run stores first; a software start begins again; the release of the internal reset samples the straps and starts step 1 (choices in log entry 23). (R150, R151, R148, R149, R152, R58, R649) -/
def Obligations.ResetAndRelease : Prop :=
  Effect.pinReset ∧ Effect.softwareStart ∧ Effect.internalResetRelease ∧ Effect.internalResetReleaseStraps

/-- Each step of the start is reached with what it brings: oscillators, host bus, APC, NWC, the background recall, metering (choices in log entry 23). (R144, R153, R422, R508, R159, R160, R162, R145) -/
def Obligations.StartSteps : Prop :=
  Effect.oscillatorsUp ∧ Effect.remapLost ∧ Effect.hostReady ∧ Effect.apcRunning ∧ Effect.nwcRunning ∧ Effect.settledPageRecall ∧ Effect.recallSettled
    ∧ Effect.meterReady ∧ Effect.hfxoStartTimeout

/-- A failure moves the clocks to their stand-ins with its event, and the recovery moves them back. (R137, R139, R140, R142) -/
def Obligations.CrystalFailures : Prop :=
  Effect.lfxoFail ∧ Effect.lfxoBack ∧ Effect.hfxoFail ∧ Effect.spllUnlock ∧ Effect.hfxoRestartTry ∧ Effect.hfxoBack

/-- The engine clock, the LPO and its calibration, the crystal comparison, the temperature sample and the end of the RTC count act as their rules say. (R137, R138, R140, R626, R15) -/
def Obligations.EngineAndLpoClocks : Prop :=
  Effect.epllUnlock ∧ Effect.epllRelock ∧ Effect.lpoRange ∧ Effect.lpoBack ∧ Effect.lpoCalibrate ∧ Effect.xoMismatchCount ∧ Effect.xoMismatchClears
    ∧ Effect.tempSample ∧ Effect.rtcEnd

/-- Crossings in and outside the window, missed crossings and the loss of lock (integer arithmetic of log entry 12). (R135, R136) -/
def Obligations.ZeroCrossingTracker : Prop :=
  Effect.zeroCrossing ∧ Effect.zeroCrossingLocks ∧ Effect.zeroCrossingIgnored ∧ Effect.zcMissed ∧ Effect.zcLost

/-- The monitors of VIO_L, VIO_H, VDRV, the battery and the hold capacitor show what they see and raise their events. (R67, R526, R116, R115, R108, R107, R106, R118, R58) -/
def Obligations.SupplyMonitors : Prop :=
  Effect.violBack ∧ Effect.viohLoss ∧ Effect.viohBack ∧ Effect.vdrvFault ∧ Effect.vdrvBack ∧ Effect.batend ∧ Effect.vbatSample ∧ Effect.holdokReached
    ∧ Effect.holdFault ∧ Effect.vaultRetentionLoss ∧ Effect.viohLossInReset

/-- Trigger, ride-through, declaration, the hold floor and the end of the store (choices in log entry 23). (R99, R101, R165, R103, R102, R81, R448) -/
def Obligations.PowerFailure : Prop :=
  Effect.pfTrigger ∧ Effect.pfTriggerPod ∧ Effect.pfRide ∧ Effect.pfDeclaredInResetStore ∧ Effect.holdFloor ∧ Effect.pfStoreEnd ∧ Effect.pfDeclared
    ∧ Effect.violLoss

/-- A mode request is accepted, refused, or waits for its store, and AUTO enters Doze. (R98, R401, R93) -/
def Obligations.ModeRequests : Prop :=
  Effect.dozeRequest ∧ Effect.listenRequest ∧ Effect.listenRefused ∧ Effect.vaultRequest ∧ Effect.modeStoreDone ∧ Effect.autoDoze

/-- A wake source ends Doze with its cause, or abandons a Doze entry; from Listen and Vault it begins a warm start; mains and a new cell do so after a power failure. (R94, R96, R114, R104, R148, R113) -/
def Obligations.WakingAndWarmStarts : Prop :=
  Effect.scheduledWake ∧ Effect.rtcAlarm ∧ Effect.hostWake ∧ Effect.mainsBack ∧ Effect.vbatNewCell ∧ Effect.warmStart ∧ Effect.scheduledWakeAbandons

/-- The by-pass switches, settles, faults with growing waits, and is tried again. (R71, R526, R527, R79, R528) -/
def Obligations.LoopBypass : Prop :=
  Effect.bypassSwitch ∧ Effect.bypassSwitchCloses ∧ Effect.bypassSettled ∧ Effect.bypassFault ∧ Effect.bypassRetry

/-- The freeze pin, the image and its port, and the words it gives in turn (choices in log entry 21). (R65, R112, R366, R375, R376, R377, R378, R66, R74) -/
def Obligations.FreezePort : Prop :=
  Effect.frzNFall ∧ Effect.frzNFallIgnored ∧ Effect.imageReady ∧ Effect.umbraPortEnable ∧ Effect.umbraAdvance ∧ Effect.umbraAdvanceEnds
    ∧ Effect.umbraRewind ∧ Effect.frzNRise ∧ Effect.umbraAdvanceHeld ∧ Effect.frzNRiseIgnored

/-- At acceptance the chip freezes; at resume the span is added to the RTC and the freeze is recorded (choices in log entry 21). (R365, R382, R380) -/
def Obligations.FreezeAndResume : Prop :=
  Effect.freezeAccept ∧ Effect.resumeAccept ∧ Effect.spanEnd

/-- A request waits or is refused by the rules of its target; a target that holds acceptance accepts nothing; an accepted access reads or writes its word; the hard bound ends one that waited too long (choices in log entry 6). (R26, R28, R27, R29, R23, R25) -/
def Obligations.TwillAccesses : Prop :=
  Effect.twillRequest ∧ Effect.twillRequestRefused ∧ Effect.accessAcceptedRead ∧ Effect.accessAcceptedWrite ∧ Effect.hardBoundExpiry
    ∧ Effect.acceptanceHeld

/-- A free lease is granted for its full duration, and a held one puts its initiator in the queue; of two requests of one class in one cycle the lower initiator comes first, and a RENEW in the cycle of the expiry is in time. That the requests of one cycle are operands of one command is a choice of the model, log entry 31. (R33, R43) -/
def Obligations.LeaseGrants : Prop :=
  Effect.leaseAcquire ∧ Effect.leaseAcquireQueued ∧ Effect.leaseAcquireTogether ∧ Effect.leaseRenewedInTime

/-- An expired lease fences its holder; the domain reset ends; the target discards its work; a core restarts (choices in log entry 5). (R35, R599, R598, R600, R603, R601) -/
def Obligations.FencesAndRestarts : Prop :=
  Effect.leaseRevoke ∧ Effect.domainResetEnd ∧ Effect.targetFlush ∧ Effect.coreWdg ∧ Effect.coreRestartDone

/-- A register write changes the writable fields of its word alone; reads with side effects and accesses of two-word quantities act as the tables say. (R5, R9, R7, R175, R132, R133, R25) -/
def Obligations.RegisterAccess : Prop :=
  Effect.registerWrite ∧ Effect.rcReadComplete ∧ Effect.multiwordLowRead ∧ Effect.multiwordHighWrite ∧ Effect.registerWriteWaits

/-- The key arms one command, which acts only under it (choices in log entry 7). (R193, R195) -/
def Obligations.HostKey : Prop :=
  Effect.hKeyArm ∧ Effect.keyTimeout ∧ Effect.winrst ∧ Effect.mboxrst ∧ Effect.ctrlNeedsKey ∧ Effect.clockSetRequest

/-- Address, select, prefetch, data reads and buffered data writes of a window, and the bound on a host access (choices in log entry 7). (R187, R191, R188, R190, R189, R174, R25, R177, R184) -/
def Obligations.HostWindows : Prop :=
  Effect.windowAddress ∧ Effect.windowPrefetches ∧ Effect.windowSelect ∧ Effect.prefetchDone ∧ Effect.windowDloRead ∧ Effect.windowBuffered
    ∧ Effect.windowNotReady ∧ Effect.windowDloWrite ∧ Effect.windowDhiWrite ∧ Effect.hostBoundExpiry ∧ Effect.windowWaits

/-- A frame with a good CRC acts as its cycle would; a read frame returns the register and its CRC; one whose slot is taken is refused; a bad or short one is counted and changes nothing else. (R181, R182, R183, R185, R180, R184) -/
def Obligations.SerialFrames : Prop :=
  Effect.serialFrame ∧ Effect.serialFrameBad ∧ Effect.serShort ∧ Effect.serialOverlap ∧ Effect.serialRead

/-- Latched reads, the acknowledgement of events, loading the clock, and the host watchdog. (R194, R557, R215, R195, R196) -/
def Obligations.HostReadsAndTime : Prop :=
  Effect.hTimeLoRead ∧ Effect.hEvtLoRead ∧ Effect.stgErrRead ∧ Effect.hEvtAck ∧ Effect.clockSetLoad ∧ Effect.wdgKick ∧ Effect.wdgSetPeriod
    ∧ Effect.hostWdg

/-- Words and messages in both directions of the mailbox, full and partly read. (R197, R549, R198) -/
def Obligations.Mailbox : Prop :=
  Effect.mboxTxWrite ∧ Effect.mboxTxFull ∧ Effect.mboxMessage ∧ Effect.mboxRxRead ∧ Effect.mboxDeliver

/-- A staged write joins its set; CHECK reports; APPLY schedules or refuses; DISCARD empties (choices in log entries 9 and 19). (R203, R204, R206, R207, R208, R209, R210, R211, R213) -/
def Obligations.StagingCommands : Prop :=
  Effect.stagingWrite ∧ Effect.stagingFull ∧ Effect.stagingIgnored ∧ Effect.stgCheck ∧ Effect.stgApply ∧ Effect.stgBusy ∧ Effect.stgDiscard
    ∧ Effect.stgCheckDone ∧ Effect.stgApplyCheckDone ∧ Effect.stgApplyRefused

/-- At its commit point a set is charged and scheduled or refused; at its boundary its fields become live. (R212, R221, R353, R218, R219, R220) -/
def Obligations.CommitPoint : Prop :=
  Effect.commitPoint ∧ Effect.commitRefused ∧ Effect.setTakesEffect

/-- Epochs begin on the grid of the RTC; a shot is prepared, sends its burst at its time in both directions or is not fired, and is released. (R162, R242, R248, R249, R244, R251, R253, R229, R234, R239) -/
def Obligations.EpochsAndShots : Prop :=
  Effect.firstEpoch ∧ Effect.nextEpoch ∧ Effect.shotPreparation ∧ Effect.forwardFire ∧ Effect.notFired ∧ Effect.reverseFire ∧ Effect.unitRelease
    ∧ Effect.burstSent ∧ Effect.fireMissed ∧ Effect.fireEarly ∧ Effect.reverseEarly

/-- A drive fault, the close of a capture and an overrun; what a record waits for, is rejected for, or completes a pair with (choices in log entry 12). (R257, R244, R129, R130, R251, R269, R267, R273, R30) -/
def Obligations.ShotRecords : Prop :=
  Effect.driveFault ∧ Effect.captureClose ∧ Effect.captureOverrun ∧ Effect.shotWaits ∧ Effect.shotRejected ∧ Effect.pairCompleted ∧ Effect.shotDropped

/-- A conversion computes its value from its codes, or reports its overload or fault; a result waits in its crossing queue or is dropped at a full one (rounding of log entry 24). (R298, R299, R300, R301, R129, R130) -/
def Obligations.Conversions : Prop :=
  Effect.tempConversion ∧ Effect.tempOverload ∧ Effect.bridgeConversion ∧ Effect.tempWaits ∧ Effect.tempDropped

/-- A publication shows its epoch and adds what it accrued to the totals, residue and all; a close and a reset of billing are taken or refused. (R309, R250, R307, R330, R334, R318) -/
def Obligations.PublicationAndBilling : Prop :=
  Effect.flowCutoff ∧ Effect.epochPublication ∧ Effect.totalsAccrue ∧ Effect.bilCmdClose ∧ Effect.resettr ∧ Effect.billRefused

/-- The switch, the opening of a session, its refusals and lock-out, and its four ends. (R341, R348, R342, R343, R344, R346, R347) -/
def Obligations.Sessions : Prop :=
  Effect.vswChange ∧ Effect.sessionOpen ∧ Effect.sessionOpened ∧ Effect.sessionDenied ∧ Effect.sessionClose ∧ Effect.sessionTimeout
    ∧ Effect.lockoutEnd

/-- A patch image is tested and stored, refused with the code of the first test that failed, an unreadable word among them, or removed (choices in log entry 10). (R360, R361, R362, R21) -/
def Obligations.Patches : Prop :=
  Effect.patchInstall ∧ Effect.patchTestsDone ∧ Effect.patchRemove ∧ Effect.patchUnreadable ∧ Effect.patchHeaderUnreadable

/-- A store is requested, begins, retries and ends, and the fabric may refuse its accesses (choices in log entry 8). (R397, R398, R403, R421, R103) -/
def Obligations.Stores : Prop :=
  Effect.storePeriod ∧ Effect.storeStart ∧ Effect.storeStartEnd ∧ Effect.storePageRetry ∧ Effect.storeDone ∧ Effect.stcFabricRetry
    ∧ Effect.stcFabricRefused ∧ Effect.storeEnded

/-- A programmed page stands in the array with its generation and CRC, or a spare takes its place (choices in log entry 8). (R398, R402) -/
def Obligations.StoredPages : Prop :=
  Effect.storePageDone ∧ Effect.storePageSpare

/-- A port command is checked, opens a transfer or is refused; its words are read from and written into the shadow SRAM (choices in log entry 8). (R409, R406, R407, R410, R411, R415, R405, R395) -/
def Obligations.StorePort : Prop :=
  Effect.stoStore ∧ Effect.portOwner ∧ Effect.portChecked ∧ Effect.transferClose ∧ Effect.pdataRead ∧ Effect.pdataWrite

/-- A wrong password is counted up to the lock-out, a right one opens, and a new one is set (choices in log entry 8). (R411, R412, R415) -/
def Obligations.AccessChecks : Prop :=
  Effect.accessDenied ∧ Effect.accessOpened ∧ Effect.passwordSet ∧ Effect.stoLockoutEnd

/-- A key is updated, refused or erased; reservations are confirmed; limited events are raised again (choices in log entry 11). (R492, R493, R499, R494, R504, R418) -/
def Obligations.Keys : Prop :=
  Effect.keyUpdate ∧ Effect.keyRefused ∧ Effect.keyErase ∧ Effect.secRaiseLimit ∧ Effect.resvStored

/-- Frames are made and loaded into trains, which back off, are sent, acknowledged, timed out or abandoned (choices in log entries 13 and 36). (R443, R434, R442, R444, R435, R449, R438, R439, R441, R428, R446, R440) -/
def Obligations.TrainsSent : Prop :=
  Effect.plsTrainLoad ∧ Effect.plsFrameMade ∧ Effect.plsBackoffEnd ∧ Effect.trainEnd ∧ Effect.txFault ∧ Effect.trainAbandoned ∧ Effect.plsAckSend
    ∧ Effect.plsAckTimeout

/-- A half-cycle sends the pulse due or hears one; preambles, headers and frames are taken or counted; a node advertises itself and loses neighbours (choices in log entries 13 and 36). (R425, R426, R427, R428, R446, R429, R438, R434, R442, R436, R437, R440) -/
def Obligations.LineReceived : Prop :=
  Effect.plsHalfSent ∧ Effect.plsHalfPaused ∧ Effect.plsHalfHeard ∧ Effect.preambleDetect ∧ Effect.plsHeaderBad ∧ Effect.plsFrameTaken
    ∧ Effect.routeAdvertisement ∧ Effect.nbrLost

/-- Frames are loaded, assessed, deferred by the duty budget, sent after their pattern where they wake a pod, and leave their queues (choices in log entry 14). (R465, R467, R472, R477, R473, R474, R478, R485, R476, R475, R461, R484) -/
def Obligations.RadioSending : Prop :=
  Effect.radioFrameLoad ∧ Effect.radioBackoffEnd ∧ Effect.radioDeferred ∧ Effect.ccaClear ∧ Effect.ccaBusy ∧ Effect.ccaFail ∧ Effect.gwaitExpiry
    ∧ Effect.txDoneAck ∧ Effect.txDoneGlint ∧ Effect.txDoneFrame ∧ Effect.pendingFrameSend ∧ Effect.dutyTimeout ∧ Effect.dutyBudgetFits
    ∧ Effect.relayDelayEnd ∧ Effect.wmbTelegram

/-- Acknowledgements, their time-outs, data frames and their windows, Glint patterns and telegrams (choices in log entry 14). (R475, R477, R466, R478, R481, R476, R468, R469, R483, R484, R479, R480) -/
def Obligations.RadioReceiving : Prop :=
  Effect.radioAckSend ∧ Effect.radioAcked ∧ Effect.radioAckBad ∧ Effect.radioAckTimeout ∧ Effect.radioNoAck ∧ Effect.gauzeBad ∧ Effect.gauzeTaken
    ∧ Effect.glintMatch ∧ Effect.glintFalse ∧ Effect.rxwinExpiry ∧ Effect.wmbRx

/-- A slave repeats, answers, takes its station, and drops what is damaged (choices in log entry 15). (R517, R521, R524, R525, R527, R522, R519) -/
def Obligations.LoopSlave : Prop :=
  Effect.loopMessageLoad ∧ Effect.loopHeaderBad ∧ Effect.loopCrcBad ∧ Effect.loopPolled ∧ Effect.loopPasses ∧ Effect.loopStationSet
    ∧ Effect.loopViolation ∧ Effect.loopAbortRx ∧ Effect.stationLoss

/-- The master polls, broadcasts and discovers, and sorts what comes back (choices in log entry 15). (R516, R520, R521, R523, R522, R519) -/
def Obligations.LoopMaster : Prop :=
  Effect.loopPoll ∧ Effect.loopBroadcast ∧ Effect.loopDiscover ∧ Effect.loopForeign ∧ Effect.loopFailed ∧ Effect.loopPollBack ∧ Effect.loopDiscovered
    ∧ Effect.loopNoReturn

/-- A pod joins and reports; the hub stores new records and counts repeated ones. (R535, R536, R542) -/
def Obligations.PodReports : Prop :=
  Effect.reportDue ∧ Effect.joinSent ∧ Effect.podJoinResp ∧ Effect.podReport ∧ Effect.podDuplicate

/-- A pod joins, is refused, is removed, or falls silent. (R540, R541) -/
def Obligations.PodTable : Prop :=
  Effect.podRejoin ∧ Effect.podClosed ∧ Effect.podRefused ∧ Effect.podJoined ∧ Effect.podRemove ∧ Effect.conCmdRemove ∧ Effect.podSilent

/-- Messages in transit, for pods, and from the store; held frames that go after HOLDMAX (choices in log entry 16). (R542, R545, R547, R548, R549) -/
def Obligations.Forwarding : Prop :=
  Effect.readStore ∧ Effect.conTransit ∧ Effect.podDown ∧ Effect.podUnknown ∧ Effect.forwardCycle ∧ Effect.heldExpired

/-- A raise sets its bits and makes its entries; entries are written with their CRC, written again after a bad slot, or withheld by the quota or for want of a slot (choices in log entry 4). (R554, R555, R556, R557, R558, R562, R571, R564, R565, R566, R561, R572) -/
def Obligations.EventsAndLogs : Prop :=
  Effect.eventTaken ∧ Effect.eventLogged ∧ Effect.eventLegal ∧ Effect.eventLegalOpen ∧ Effect.eventWithheld ∧ Effect.legalWritten ∧ Effect.legalFailed
    ∧ Effect.legalWithheld ∧ Effect.openWritten

/-- A session is requested, identified, acknowledged and answered with the data message (IEC 62056-21 details in log entry 18). (R582, R581, R586, R584, R583) -/
def Obligations.OpticalReadout : Prop :=
  Effect.optRequest ∧ Effect.optIdentSend ∧ Effect.optAck ∧ Effect.optAckOther ∧ Effect.optAckBad ∧ Effect.optAckTimeout ∧ Effect.optReadout
    ∧ Effect.optMessageEnd

/-- Silence and errors, credentials and the close of a session, and the wake by a start bit (details in log entry 18). (R584, R586, R348, R342, R343, R344, R95, R585) -/
def Obligations.OpticalVerification : Prop :=
  Effect.optSilence ∧ Effect.optVsBad ∧ Effect.optVsNak ∧ Effect.optVsClose ∧ Effect.optVsOpen ∧ Effect.optStartBitWake ∧ Effect.optAnswered

/-- Presses, long presses and releases, the display and its timers, pulse outputs and inputs (choices in log entry 18). (R590, R591, R592, R594) -/
def Obligations.LocalControls : Prop :=
  Effect.buttonPress ∧ Effect.btnLong ∧ Effect.buttonRelease ∧ Effect.displayTestEnd ∧ Effect.displayScroll ∧ Effect.displayOff
    ∧ Effect.displayTimeout ∧ Effect.pulseClosedEnd ∧ Effect.pulseGapEnd ∧ Effect.pulseInputEdge
end

