-- ==== Sys2Proof/Laws/Sparse.lean ====
section
/-! SUPPORT. The laws of sparse maps and of memories: a read after a write, that a write leaves every other key alone, and that
every write keeps the canonical form. -/

namespace Sys2Proof.Machine

section
variable {α : Type}

theorem Sparse.find_insert (m : List (Nat × α)) (k j : Nat) (v : α) :
    Sparse.find (Sparse.insert m k v) j = if j = k then some v else Sparse.find m j := by
  induction m with
  | nil => simp [Sparse.insert, Sparse.find, eq_comm]
  | cons e m ih => grind [Sparse.insert, Sparse.find]

theorem Sparse.find_erase (m : List (Nat × α)) (k j : Nat) :
    Sparse.find (Sparse.erase m k) j = if j = k then none else Sparse.find m j := by
  induction m with
  | nil => simp [Sparse.erase, Sparse.find]
  | cons e m ih => grind [Sparse.erase, Sparse.find]

/-- What a map reads as after a write. -/
theorem Sparse.get_set [DecidableEq α] (d : Nat → α) (m : List (Nat × α)) (k j : Nat) (v : α) :
    Sparse.get d (Sparse.set d m k v) j = if j = k then v else Sparse.get d m j := by
  unfold Sparse.get Sparse.set
  split
  · rw [Sparse.find_erase]; split <;> simp_all
  · rw [Sparse.find_insert]; split <;> simp_all

variable [DecidableEq α] (d : Nat → α)

theorem Sparse.wf_tail {e : Nat × α} {m : List (Nat × α)} (h : Sparse.wf d (e :: m) = true) : Sparse.wf d m = true := by
  obtain ⟨i, w⟩ := e
  cases m with
  | nil => rfl
  | cons f m => obtain ⟨j, x⟩ := f; simp [Sparse.wf] at h; simpa [Sparse.wf] using h.2

/-- The canonical form of a longer list: the head entry differs from its default and its key stands below every other. -/
theorem Sparse.wf_cons (i : Nat) (w : α) (m : List (Nat × α)) :
    Sparse.wf d ((i, w) :: m) = true ↔ w ≠ d i ∧ (∀ e ∈ m, i < e.1) ∧ Sparse.wf d m = true := by
  induction m generalizing i w with
  | nil => simp [Sparse.wf]
  | cons f m ih =>
    obtain ⟨j, x⟩ := f
    constructor
    · intro h
      simp only [Sparse.wf, Bool.and_eq_true, decide_eq_true_eq] at h
      have h2 := (ih j x).1 h.2
      refine ⟨h.1.1, ?_, h.2⟩
      intro e he
      rcases List.mem_cons.1 he with rfl | he
      · exact h.1.2
      · exact Nat.lt_trans h.1.2 (h2.2.1 e he)
    · rintro ⟨h1, h2, h3⟩
      simp only [Sparse.wf, Bool.and_eq_true, decide_eq_true_eq]
      exact ⟨⟨h1, h2 (j, x) (List.mem_cons_self ..)⟩, h3⟩

/-- Leaving entries out keeps the canonical form. -/
theorem Sparse.wf_filter (p : Nat × α → Bool) (m : List (Nat × α)) (h : Sparse.wf d m = true) :
    Sparse.wf d (m.filter p) = true := by
  induction m with
  | nil => simpa using h
  | cons e m ih =>
    obtain ⟨i, w⟩ := e
    have h2 := (Sparse.wf_cons d i w m).1 h
    rw [List.filter_cons]
    split
    · exact (Sparse.wf_cons d i w _).2 ⟨h2.1, fun e he => h2.2.1 e (List.mem_filter.1 he).1, ih h2.2.2⟩
    · exact ih h2.2.2

omit [DecidableEq α] in
theorem Sparse.mem_insert (m : List (Nat × α)) (k : Nat) (v : α) (e : Nat × α) (h : e ∈ Sparse.insert m k v) :
    e = (k, v) ∨ e ∈ m := by
  induction m with
  | nil => simpa [Sparse.insert] using h
  | cons f m ih =>
    obtain ⟨j, x⟩ := f
    unfold Sparse.insert at h
    split at h
    · simpa using h
    · split at h
      · rcases List.mem_cons.1 h with h | h <;> simp_all
      · rcases List.mem_cons.1 h with h | h
        · simp [h]
        · rcases ih h with h | h <;> simp [h]

theorem Sparse.wf_insert (m : List (Nat × α)) (k : Nat) (v : α) (hv : v ≠ d k) (h : Sparse.wf d m = true) :
    Sparse.wf d (Sparse.insert m k v) = true := by
  induction m with
  | nil => simpa [Sparse.insert, Sparse.wf] using hv
  | cons f m ih =>
    obtain ⟨j, x⟩ := f
    have h2 := (Sparse.wf_cons d j x m).1 h
    unfold Sparse.insert
    split
    · rename_i hk
      refine (Sparse.wf_cons d k v _).2 ⟨hv, ?_, h⟩
      intro e he
      rcases List.mem_cons.1 he with rfl | he
      · exact hk
      · exact Nat.lt_trans hk (h2.2.1 e he)
    · split
      · rename_i hk; subst hk
        exact (Sparse.wf_cons d k v m).2 ⟨hv, h2.2.1, h2.2.2⟩
      · rename_i h3 h4
        refine (Sparse.wf_cons d j x _).2 ⟨h2.1, ?_, ih h2.2.2⟩
        intro e he
        rcases Sparse.mem_insert m k v e he with rfl | he
        · show j < k; omega
        · exact h2.2.1 e he

/-- A write keeps the canonical form. -/
theorem Sparse.wf_set (m : List (Nat × α)) (k : Nat) (v : α) (h : Sparse.wf d m = true) :
    Sparse.wf d (Sparse.set d m k v) = true := by
  unfold Sparse.set
  split
  · exact Sparse.wf_filter d _ m h
  · exact Sparse.wf_insert d m k v ‹_› h

end

/-! ### Memories -/

theorem Memory.byte_setByte (m : List Host.Cell) (a b : Nat) (v : Byte) :
    Memory.byte (Memory.setByte m a v) b = if b = a then v else Memory.byte m b := Sparse.get_set zeroByte m a b v

theorem Memory.wf_setByte (m : List Host.Cell) (a : Nat) (v : Byte) (h : Memory.wf m = true) :
    Memory.wf (Memory.setByte m a v) = true := Sparse.wf_set zeroByte m a v h

theorem Memory.wf_setWord (m : List Host.Cell) (a : Nat) (w : Word) (h : Memory.wf m = true) :
    Memory.wf (Memory.setWord m a w) = true :=
  Memory.wf_setByte _ _ _ (Memory.wf_setByte _ _ _ (Memory.wf_setByte _ _ _ (Memory.wf_setByte _ _ _ h)))

theorem Memory.wf_setBytes (m : List Host.Cell) (a : Nat) (bs : List Byte) (h : Memory.wf m = true) :
    Memory.wf (Memory.setBytes m a bs) = true := by
  induction bs generalizing m a with
  | nil => exact h
  | cons b bs ih => exact ih _ _ (Memory.wf_setByte _ _ _ h)

/-- Every byte outside a written word reads as before. -/
theorem Memory.byte_setWord (m : List Host.Cell) (a b : Nat) (w : Word) (h : b < a ∨ a + 4 ≤ b) :
    Memory.byte (Memory.setWord m a w) b = Memory.byte m b := by
  simp only [Memory.setWord, Memory.byte_setByte]
  rw [if_neg (by omega), if_neg (by omega), if_neg (by omega), if_neg (by omega)]

/-- A word reads back as it was written. -/
theorem Memory.word_setWord (m : List Host.Cell) (a : Nat) (w : Word) : Memory.word (Memory.setWord m a w) a = w := by
  simp only [Memory.word, Memory.setWord, Memory.byte_setByte]
  simp only [Nat.add_left_cancel_iff, Nat.add_eq_left, Nat.left_eq_add, if_true, if_false, Nat.reduceEqDiff]
  apply BitVec.eq_of_getLsbD_eq
  intro i hi
  simp only [BitVec.getLsbD_append, BitVec.getLsbD_extractLsb']
  rcases (show i < 8 ∨ (8 ≤ i ∧ i < 16) ∨ (16 ≤ i ∧ i < 24) ∨ 24 ≤ i by omega) with h | h | h | h
  · simp [h]
  · simp [show ¬ i < 8 by omega, show i - 8 < 8 by omega, show 8 + (i - 8) = i by omega]
  · simp [show ¬ i < 8 by omega, show ¬ i - 8 < 8 by omega, show i - 8 - 8 < 8 by omega, show 16 + (i - 8 - 8) = i by omega]
  · simp [show ¬ i < 8 by omega, show ¬ i - 8 < 8 by omega, show ¬ i - 8 - 8 < 8 by omega, show i - 8 - 8 - 8 < 8 by omega,
      show 24 + (i - 8 - 8 - 8) = i by omega]

/-- Every byte outside the written ones reads as before. -/
theorem Memory.byte_setBytes (m : List Host.Cell) (a b : Nat) (bs : List Byte) (h : b < a ∨ a + bs.length ≤ b) :
    Memory.byte (Memory.setBytes m a bs) b = Memory.byte m b := by
  induction bs generalizing m a with
  | nil => rfl
  | cons x bs ih =>
    simp only [List.length_cons] at h
    rw [Memory.setBytes, ih _ _ (by omega), Memory.byte_setByte, if_neg (by omega)]

end Sys2Proof.Machine
end

