-- ==== Sys2Proof/Laws/Regs.lean ====
section
/-! SUPPORT. The laws of registers and fields: a field reads as it was written, and a write of a field leaves every bit outside it
alone. -/

namespace Sys2Proof.Machine

@[simp] theorem State.rd_wr (s : State) (a b : Nat) (w : Word) : (s.wr a w).rd b = if b = a then w else s.rd b :=
  Sparse.get_set resetWord s.regs a b w

/-- A field that lies within its word. -/
def Fd.ok (f : Fd) : Bool := decide (f.lo ≤ f.hi) && decide (f.hi < 32)

/-- Two fields with no bit in common. -/
def Fd.apart (f g : Fd) : Bool := decide (f.addr ≠ g.addr) || decide (f.hi < g.lo) || decide (g.hi < f.lo)

theorem bitMask_getLsbD (hi lo b : Nat) (h : lo ≤ hi) (h2 : hi < 32) :
    (bitMask hi lo).getLsbD b = (decide (lo ≤ b) && decide (b ≤ hi)) := by
  unfold bitMask
  rw [BitVec.getLsbD_ofNat]
  have e : 2 ^ (hi + 1) - 2 ^ lo = 2 ^ lo * (2 ^ (hi + 1 - lo) - 1) := by
    rw [Nat.mul_sub, ← Nat.pow_add, Nat.mul_one]; congr 2; omega
  rw [e, Nat.testBit_two_pow_mul, Nat.testBit_two_pow_sub_one]
  by_cases h3 : lo ≤ b <;> by_cases h4 : b ≤ hi <;> simp [h3, h4] <;> omega

/-- Bit by bit, what a word holds after a field of it is written. -/
theorem Fd.getLsbD_into (f : Fd) (h : f.ok = true) (w : Word) (v b : Nat) :
    (f.into w v).getLsbD b = if f.lo ≤ b ∧ b ≤ f.hi then v.testBit (b - f.lo) else w.getLsbD b := by
  simp only [Fd.ok, Bool.and_eq_true, decide_eq_true_eq] at h
  by_cases hb : b < 32
  · simp only [Fd.into, BitVec.getLsbD_or, BitVec.getLsbD_and, BitVec.getLsbD_not, BitVec.getLsbD_shiftLeft,
      BitVec.getLsbD_ofNat, bitMask_getLsbD _ _ _ h.1 h.2, hb, decide_true, Bool.true_and]
    have h5 : b - f.lo < 32 := by omega
    by_cases h3 : f.lo ≤ b
    · have h6 : ¬ b < f.lo := by omega
      by_cases h4 : b ≤ f.hi <;> simp [h3, h4, h5, h6]
    · have h6 : b < f.lo := by omega
      simp [h3, h6]
  · rw [BitVec.getLsbD_of_ge _ _ (by omega), if_neg (by omega), BitVec.getLsbD_of_ge _ _ (by omega)]

/-- Bit by bit, the value of a field. -/
theorem Fd.testBit_of (f : Fd) (w : Word) (j : Nat) :
    (f.of w).testBit j = (decide (j < f.hi + 1 - f.lo) && w.getLsbD (f.lo + j)) := by
  unfold Fd.of
  rw [Nat.testBit_mod_two_pow, Nat.testBit_div_two_pow, BitVec.getLsbD, Nat.add_comm j]

theorem Fd.of_into (f : Fd) (h : f.ok = true) (w : Word) (v : Nat) : f.of (f.into w v) = v % 2 ^ (f.hi + 1 - f.lo) := by
  apply Nat.eq_of_testBit_eq
  intro j
  rw [Fd.testBit_of, Fd.getLsbD_into f h, Nat.testBit_mod_two_pow]
  simp only [Fd.ok, Bool.and_eq_true, decide_eq_true_eq] at h
  by_cases hj : j < f.hi + 1 - f.lo
  · rw [if_pos (by omega)]; simp
  · simp [hj]

theorem Fd.of_into_apart (f g : Fd) (h : f.ok = true) (ha : f.hi < g.lo ∨ g.hi < f.lo) (w : Word) (v : Nat) :
    g.of (f.into w v) = g.of w := by
  apply Nat.eq_of_testBit_eq
  intro j
  rw [Fd.testBit_of, Fd.testBit_of, Fd.getLsbD_into f h]
  by_cases hj : j < g.hi + 1 - g.lo
  · rw [if_neg (by omega)]
  · simp [hj]

theorem Fd.of_le_max (f : Fd) (w : Word) : f.of w ≤ f.max := by
  unfold Fd.of Fd.max
  exact Nat.le_sub_one_of_lt (Nat.mod_lt _ (Nat.two_pow_pos _))

/-- A field reads as it was written, in as many bits as it has. -/
theorem State.get_put (s : State) (f : Fd) (h : f.ok = true) (v : Nat) : (s.put f v).get f = v % 2 ^ (f.hi + 1 - f.lo) := by
  simp [State.get, State.put, Fd.of_into f h]

/-- A field reads as it was written, where the value fits. -/
theorem State.get_put_le (s : State) (f : Fd) (h : f.ok = true) (v : Nat) (hv : v ≤ f.max) : (s.put f v).get f = v := by
  rw [State.get_put s f h, Nat.mod_eq_of_lt]
  unfold Fd.max at hv
  have := Nat.two_pow_pos (f.hi + 1 - f.lo)
  omega

/-- A write of a field leaves every field apart from it alone. -/
theorem State.get_put_apart (s : State) (f g : Fd) (h : f.ok = true) (ha : f.apart g = true) (v : Nat) :
    (s.put f v).get g = s.get g := by
  unfold Fd.apart at ha
  simp only [Bool.or_eq_true, decide_eq_true_eq] at ha
  simp only [State.get, State.put, State.rd_wr]
  by_cases he : g.addr = f.addr
  · rw [if_pos he, Fd.of_into_apart f g h (by omega), he]
  · rw [if_neg he]

theorem State.on_putB (s : State) (f : Fd) (h : f.ok = true) (b : Bool) : (s.putB f b).on f = b := by
  have h2 := h
  simp only [Fd.ok, Bool.and_eq_true, decide_eq_true_eq] at h2
  have : b.toNat ≤ f.max := by
    unfold Fd.max
    have : 2 ^ 1 ≤ 2 ^ (f.hi + 1 - f.lo) := Nat.pow_le_pow_right (by omega) (by omega)
    have : b.toNat ≤ 1 := by cases b <;> decide
    omega
  simp only [State.on, State.putB, State.get_put_le s f h _ this]
  cases b <;> rfl

theorem State.on_put_apart (s : State) (f g : Fd) (h : f.ok = true) (ha : f.apart g = true) (v : Nat) :
    (s.put f v).on g = s.on g := by simp [State.on, State.get_put_apart s f g h ha]

theorem State.get_le_max (s : State) (f : Fd) : s.get f ≤ f.max := Fd.of_le_max f _

/-- A count goes up by one, and holds at its maximum. -/
theorem State.get_bump (s : State) (f : Fd) (h : f.ok = true) : (s.bump f).get f = min f.max (s.get f + 1) :=
  State.get_put_le s f h _ (Nat.min_le_left _ _)

theorem State.get_bumpBy (s : State) (f : Fd) (h : f.ok = true) (n : Nat) :
    (s.bumpBy f n).get f = min f.max (s.get f + n) :=
  State.get_put_le s f h _ (Nat.min_le_left _ _)

/-! ### Frames -/

theorem State.onlyFields_refl (s : State) (fs : List Fd) : s.onlyFields s fs := fun _ _ _ => rfl

theorem State.onlyFields_trans {s t u : State} {fs : List Fd} (h : s.onlyFields t fs) (h2 : t.onlyFields u fs) : s.onlyFields u fs :=
  fun a b hb => (h2 a b hb).trans (h a b hb)

theorem State.onlyFields_mono {s t : State} {fs gs : List Fd} (h : s.onlyFields t fs) (hs : ∀ f ∈ fs, f ∈ gs) : s.onlyFields t gs :=
  fun a b hb => h a b (fun ⟨f, hf, hx⟩ => hb ⟨f, hs f hf, hx⟩)

/-- What does not touch the registers keeps every frame. -/
theorem State.onlyFields_regs {s t u : State} {fs : List Fd} (h : s.onlyFields t fs) (hr : u.regs = t.regs) : s.onlyFields u fs := by
  intro a b hb; rw [← h a b hb]; unfold State.rd; rw [hr]

theorem State.onlyFields_put {s t : State} {fs : List Fd} (h : s.onlyFields t fs) (f : Fd) (hf : f ∈ fs) (hok : f.ok = true) (v : Nat) :
    s.onlyFields (t.put f v) fs := by
  intro a b hb
  rw [← h a b hb]
  simp only [State.put, State.rd_wr]
  split
  · rename_i ha
    rw [Fd.getLsbD_into f hok, if_neg (fun hx => hb ⟨f, hf, ha.symm, hx.1, hx.2⟩), ha]
  · rfl

theorem State.onlyWords_wr {s t : State} {ws : List Nat} (h : s.onlyWords t ws) (a : Nat) (ha : a ∈ ws) (w : Word) :
    s.onlyWords (t.wr a w) ws := by
  intro b hb
  rw [State.rd_wr, if_neg (fun e => by subst e; exact hb ha), h b hb]

/-- A write keeps the register store in canonical form. -/
theorem State.regsWf_wr (s : State) (a : Nat) (w : Word) (h : s.regsWf = true) : (s.wr a w).regsWf = true :=
  Sparse.wf_set resetWord _ _ _ h

end Sys2Proof.Machine
end

