-- ==== Sys2Proof/Laws/State.lean ====
section
/-! SUPPORT. What each update of the state leaves alone, field by field, and that a register, a raise and the queue are told apart. -/

namespace Sys2Proof.Machine

/-! ### wr -/

section
variable (s : State) (a : Nat) (w : Word)
@[simp] theorem State.wr_pending : (s.wr a w).pending = s.pending := rfl
@[simp] theorem State.wr_calico : (s.wr a w).calico = s.calico := rfl
@[simp] theorem State.wr_vault : (s.wr a w).vault = s.vault := rfl
@[simp] theorem State.wr_free : (s.wr a w).free = s.free := rfl
@[simp] theorem State.wr_mode : (s.wr a w).mode = s.mode := rfl
@[simp] theorem State.wr_time : (s.wr a w).time = s.time := rfl
@[simp] theorem State.wr_fab : (s.wr a w).fab = s.fab := rfl
@[simp] theorem State.wr_evt : (s.wr a w).evt = s.evt := rfl
@[simp] theorem State.wr_pins : (s.wr a w).pins = s.pins := rfl
@[simp] theorem State.wr_bypass : (s.wr a w).bypass = s.bypass := rfl
@[simp] theorem State.wr_pwr : (s.wr a w).pwr = s.pwr := rfl
@[simp] theorem State.wr_clk : (s.wr a w).clk = s.clk := rfl
@[simp] theorem State.wr_boot : (s.wr a w).boot = s.boot := rfl
@[simp] theorem State.wr_sto : (s.wr a w).sto = s.sto := rfl
@[simp] theorem State.wr_fir : (s.wr a w).fir = s.fir := rfl
@[simp] theorem State.wr_arv : (s.wr a w).arv = s.arv := rfl
@[simp] theorem State.wr_flo : (s.wr a w).flo = s.flo := rfl
@[simp] theorem State.wr_bil : (s.wr a w).bil = s.bil := rfl
@[simp] theorem State.wr_stg : (s.wr a w).stg = s.stg := rfl
@[simp] theorem State.wr_sea : (s.wr a w).sea = s.sea := rfl
@[simp] theorem State.wr_sec : (s.wr a w).sec = s.sec := rfl
@[simp] theorem State.wr_inbox : (s.wr a w).inbox = s.inbox := rfl
@[simp] theorem State.wr_con : (s.wr a w).con = s.con := rfl
@[simp] theorem State.wr_mbx : (s.wr a w).mbx = s.mbx := rfl
@[simp] theorem State.wr_pls : (s.wr a w).pls = s.pls := rfl
@[simp] theorem State.wr_rad : (s.wr a w).rad = s.rad := rfl
@[simp] theorem State.wr_lop : (s.wr a w).lop = s.lop := rfl
@[simp] theorem State.wr_loc : (s.wr a w).loc = s.loc := rfl
@[simp] theorem State.wr_umb : (s.wr a w).umb = s.umb := rfl
@[simp] theorem State.wr_hst : (s.wr a w).hst = s.hst := rfl
end

/-! ### put -/

section
variable (s : State) (f : Fd) (v : Nat)
@[simp] theorem State.put_pending : (s.put f v).pending = s.pending := rfl
@[simp] theorem State.put_calico : (s.put f v).calico = s.calico := rfl
@[simp] theorem State.put_vault : (s.put f v).vault = s.vault := rfl
@[simp] theorem State.put_free : (s.put f v).free = s.free := rfl
@[simp] theorem State.put_mode : (s.put f v).mode = s.mode := rfl
@[simp] theorem State.put_time : (s.put f v).time = s.time := rfl
@[simp] theorem State.put_fab : (s.put f v).fab = s.fab := rfl
@[simp] theorem State.put_evt : (s.put f v).evt = s.evt := rfl
@[simp] theorem State.put_pins : (s.put f v).pins = s.pins := rfl
@[simp] theorem State.put_bypass : (s.put f v).bypass = s.bypass := rfl
@[simp] theorem State.put_pwr : (s.put f v).pwr = s.pwr := rfl
@[simp] theorem State.put_clk : (s.put f v).clk = s.clk := rfl
@[simp] theorem State.put_boot : (s.put f v).boot = s.boot := rfl
@[simp] theorem State.put_sto : (s.put f v).sto = s.sto := rfl
@[simp] theorem State.put_fir : (s.put f v).fir = s.fir := rfl
@[simp] theorem State.put_arv : (s.put f v).arv = s.arv := rfl
@[simp] theorem State.put_flo : (s.put f v).flo = s.flo := rfl
@[simp] theorem State.put_bil : (s.put f v).bil = s.bil := rfl
@[simp] theorem State.put_stg : (s.put f v).stg = s.stg := rfl
@[simp] theorem State.put_sea : (s.put f v).sea = s.sea := rfl
@[simp] theorem State.put_sec : (s.put f v).sec = s.sec := rfl
@[simp] theorem State.put_inbox : (s.put f v).inbox = s.inbox := rfl
@[simp] theorem State.put_con : (s.put f v).con = s.con := rfl
@[simp] theorem State.put_mbx : (s.put f v).mbx = s.mbx := rfl
@[simp] theorem State.put_pls : (s.put f v).pls = s.pls := rfl
@[simp] theorem State.put_rad : (s.put f v).rad = s.rad := rfl
@[simp] theorem State.put_lop : (s.put f v).lop = s.lop := rfl
@[simp] theorem State.put_loc : (s.put f v).loc = s.loc := rfl
@[simp] theorem State.put_umb : (s.put f v).umb = s.umb := rfl
@[simp] theorem State.put_hst : (s.put f v).hst = s.hst := rfl
end

/-! ### putB -/

section
variable (s : State) (f : Fd) (b : Bool)
@[simp] theorem State.putB_pending : (s.putB f b).pending = s.pending := rfl
@[simp] theorem State.putB_calico : (s.putB f b).calico = s.calico := rfl
@[simp] theorem State.putB_vault : (s.putB f b).vault = s.vault := rfl
@[simp] theorem State.putB_free : (s.putB f b).free = s.free := rfl
@[simp] theorem State.putB_mode : (s.putB f b).mode = s.mode := rfl
@[simp] theorem State.putB_time : (s.putB f b).time = s.time := rfl
@[simp] theorem State.putB_fab : (s.putB f b).fab = s.fab := rfl
@[simp] theorem State.putB_evt : (s.putB f b).evt = s.evt := rfl
@[simp] theorem State.putB_pins : (s.putB f b).pins = s.pins := rfl
@[simp] theorem State.putB_bypass : (s.putB f b).bypass = s.bypass := rfl
@[simp] theorem State.putB_pwr : (s.putB f b).pwr = s.pwr := rfl
@[simp] theorem State.putB_clk : (s.putB f b).clk = s.clk := rfl
@[simp] theorem State.putB_boot : (s.putB f b).boot = s.boot := rfl
@[simp] theorem State.putB_sto : (s.putB f b).sto = s.sto := rfl
@[simp] theorem State.putB_fir : (s.putB f b).fir = s.fir := rfl
@[simp] theorem State.putB_arv : (s.putB f b).arv = s.arv := rfl
@[simp] theorem State.putB_flo : (s.putB f b).flo = s.flo := rfl
@[simp] theorem State.putB_bil : (s.putB f b).bil = s.bil := rfl
@[simp] theorem State.putB_stg : (s.putB f b).stg = s.stg := rfl
@[simp] theorem State.putB_sea : (s.putB f b).sea = s.sea := rfl
@[simp] theorem State.putB_sec : (s.putB f b).sec = s.sec := rfl
@[simp] theorem State.putB_inbox : (s.putB f b).inbox = s.inbox := rfl
@[simp] theorem State.putB_con : (s.putB f b).con = s.con := rfl
@[simp] theorem State.putB_mbx : (s.putB f b).mbx = s.mbx := rfl
@[simp] theorem State.putB_pls : (s.putB f b).pls = s.pls := rfl
@[simp] theorem State.putB_rad : (s.putB f b).rad = s.rad := rfl
@[simp] theorem State.putB_lop : (s.putB f b).lop = s.lop := rfl
@[simp] theorem State.putB_loc : (s.putB f b).loc = s.loc := rfl
@[simp] theorem State.putB_umb : (s.putB f b).umb = s.umb := rfl
@[simp] theorem State.putB_hst : (s.putB f b).hst = s.hst := rfl
end

/-! ### putI -/

section
variable (s : State) (f : Fd) (v : Int)
@[simp] theorem State.putI_pending : (s.putI f v).pending = s.pending := rfl
@[simp] theorem State.putI_calico : (s.putI f v).calico = s.calico := rfl
@[simp] theorem State.putI_vault : (s.putI f v).vault = s.vault := rfl
@[simp] theorem State.putI_free : (s.putI f v).free = s.free := rfl
@[simp] theorem State.putI_mode : (s.putI f v).mode = s.mode := rfl
@[simp] theorem State.putI_time : (s.putI f v).time = s.time := rfl
@[simp] theorem State.putI_fab : (s.putI f v).fab = s.fab := rfl
@[simp] theorem State.putI_evt : (s.putI f v).evt = s.evt := rfl
@[simp] theorem State.putI_pins : (s.putI f v).pins = s.pins := rfl
@[simp] theorem State.putI_bypass : (s.putI f v).bypass = s.bypass := rfl
@[simp] theorem State.putI_pwr : (s.putI f v).pwr = s.pwr := rfl
@[simp] theorem State.putI_clk : (s.putI f v).clk = s.clk := rfl
@[simp] theorem State.putI_boot : (s.putI f v).boot = s.boot := rfl
@[simp] theorem State.putI_sto : (s.putI f v).sto = s.sto := rfl
@[simp] theorem State.putI_fir : (s.putI f v).fir = s.fir := rfl
@[simp] theorem State.putI_arv : (s.putI f v).arv = s.arv := rfl
@[simp] theorem State.putI_flo : (s.putI f v).flo = s.flo := rfl
@[simp] theorem State.putI_bil : (s.putI f v).bil = s.bil := rfl
@[simp] theorem State.putI_stg : (s.putI f v).stg = s.stg := rfl
@[simp] theorem State.putI_sea : (s.putI f v).sea = s.sea := rfl
@[simp] theorem State.putI_sec : (s.putI f v).sec = s.sec := rfl
@[simp] theorem State.putI_inbox : (s.putI f v).inbox = s.inbox := rfl
@[simp] theorem State.putI_con : (s.putI f v).con = s.con := rfl
@[simp] theorem State.putI_mbx : (s.putI f v).mbx = s.mbx := rfl
@[simp] theorem State.putI_pls : (s.putI f v).pls = s.pls := rfl
@[simp] theorem State.putI_rad : (s.putI f v).rad = s.rad := rfl
@[simp] theorem State.putI_lop : (s.putI f v).lop = s.lop := rfl
@[simp] theorem State.putI_loc : (s.putI f v).loc = s.loc := rfl
@[simp] theorem State.putI_umb : (s.putI f v).umb = s.umb := rfl
@[simp] theorem State.putI_hst : (s.putI f v).hst = s.hst := rfl
end

/-! ### bumpBy -/

section
variable (s : State) (f : Fd) (n : Nat)
@[simp] theorem State.bumpBy_pending : (s.bumpBy f n).pending = s.pending := rfl
@[simp] theorem State.bumpBy_calico : (s.bumpBy f n).calico = s.calico := rfl
@[simp] theorem State.bumpBy_vault : (s.bumpBy f n).vault = s.vault := rfl
@[simp] theorem State.bumpBy_free : (s.bumpBy f n).free = s.free := rfl
@[simp] theorem State.bumpBy_mode : (s.bumpBy f n).mode = s.mode := rfl
@[simp] theorem State.bumpBy_time : (s.bumpBy f n).time = s.time := rfl
@[simp] theorem State.bumpBy_fab : (s.bumpBy f n).fab = s.fab := rfl
@[simp] theorem State.bumpBy_evt : (s.bumpBy f n).evt = s.evt := rfl
@[simp] theorem State.bumpBy_pins : (s.bumpBy f n).pins = s.pins := rfl
@[simp] theorem State.bumpBy_bypass : (s.bumpBy f n).bypass = s.bypass := rfl
@[simp] theorem State.bumpBy_pwr : (s.bumpBy f n).pwr = s.pwr := rfl
@[simp] theorem State.bumpBy_clk : (s.bumpBy f n).clk = s.clk := rfl
@[simp] theorem State.bumpBy_boot : (s.bumpBy f n).boot = s.boot := rfl
@[simp] theorem State.bumpBy_sto : (s.bumpBy f n).sto = s.sto := rfl
@[simp] theorem State.bumpBy_fir : (s.bumpBy f n).fir = s.fir := rfl
@[simp] theorem State.bumpBy_arv : (s.bumpBy f n).arv = s.arv := rfl
@[simp] theorem State.bumpBy_flo : (s.bumpBy f n).flo = s.flo := rfl
@[simp] theorem State.bumpBy_bil : (s.bumpBy f n).bil = s.bil := rfl
@[simp] theorem State.bumpBy_stg : (s.bumpBy f n).stg = s.stg := rfl
@[simp] theorem State.bumpBy_sea : (s.bumpBy f n).sea = s.sea := rfl
@[simp] theorem State.bumpBy_sec : (s.bumpBy f n).sec = s.sec := rfl
@[simp] theorem State.bumpBy_inbox : (s.bumpBy f n).inbox = s.inbox := rfl
@[simp] theorem State.bumpBy_con : (s.bumpBy f n).con = s.con := rfl
@[simp] theorem State.bumpBy_mbx : (s.bumpBy f n).mbx = s.mbx := rfl
@[simp] theorem State.bumpBy_pls : (s.bumpBy f n).pls = s.pls := rfl
@[simp] theorem State.bumpBy_rad : (s.bumpBy f n).rad = s.rad := rfl
@[simp] theorem State.bumpBy_lop : (s.bumpBy f n).lop = s.lop := rfl
@[simp] theorem State.bumpBy_loc : (s.bumpBy f n).loc = s.loc := rfl
@[simp] theorem State.bumpBy_umb : (s.bumpBy f n).umb = s.umb := rfl
@[simp] theorem State.bumpBy_hst : (s.bumpBy f n).hst = s.hst := rfl
end

/-! ### bump -/

section
variable (s : State) (f : Fd)
@[simp] theorem State.bump_pending : (s.bump f).pending = s.pending := rfl
@[simp] theorem State.bump_calico : (s.bump f).calico = s.calico := rfl
@[simp] theorem State.bump_vault : (s.bump f).vault = s.vault := rfl
@[simp] theorem State.bump_free : (s.bump f).free = s.free := rfl
@[simp] theorem State.bump_mode : (s.bump f).mode = s.mode := rfl
@[simp] theorem State.bump_time : (s.bump f).time = s.time := rfl
@[simp] theorem State.bump_fab : (s.bump f).fab = s.fab := rfl
@[simp] theorem State.bump_evt : (s.bump f).evt = s.evt := rfl
@[simp] theorem State.bump_pins : (s.bump f).pins = s.pins := rfl
@[simp] theorem State.bump_bypass : (s.bump f).bypass = s.bypass := rfl
@[simp] theorem State.bump_pwr : (s.bump f).pwr = s.pwr := rfl
@[simp] theorem State.bump_clk : (s.bump f).clk = s.clk := rfl
@[simp] theorem State.bump_boot : (s.bump f).boot = s.boot := rfl
@[simp] theorem State.bump_sto : (s.bump f).sto = s.sto := rfl
@[simp] theorem State.bump_fir : (s.bump f).fir = s.fir := rfl
@[simp] theorem State.bump_arv : (s.bump f).arv = s.arv := rfl
@[simp] theorem State.bump_flo : (s.bump f).flo = s.flo := rfl
@[simp] theorem State.bump_bil : (s.bump f).bil = s.bil := rfl
@[simp] theorem State.bump_stg : (s.bump f).stg = s.stg := rfl
@[simp] theorem State.bump_sea : (s.bump f).sea = s.sea := rfl
@[simp] theorem State.bump_sec : (s.bump f).sec = s.sec := rfl
@[simp] theorem State.bump_inbox : (s.bump f).inbox = s.inbox := rfl
@[simp] theorem State.bump_con : (s.bump f).con = s.con := rfl
@[simp] theorem State.bump_mbx : (s.bump f).mbx = s.mbx := rfl
@[simp] theorem State.bump_pls : (s.bump f).pls = s.pls := rfl
@[simp] theorem State.bump_rad : (s.bump f).rad = s.rad := rfl
@[simp] theorem State.bump_lop : (s.bump f).lop = s.lop := rfl
@[simp] theorem State.bump_loc : (s.bump f).loc = s.loc := rfl
@[simp] theorem State.bump_umb : (s.bump f).umb = s.umb := rfl
@[simp] theorem State.bump_hst : (s.bump f).hst = s.hst := rfl
end

/-! ### peak -/

section
variable (s : State) (f : Fd) (v : Nat)
@[simp] theorem State.peak_pending : (s.peak f v).pending = s.pending := rfl
@[simp] theorem State.peak_calico : (s.peak f v).calico = s.calico := rfl
@[simp] theorem State.peak_vault : (s.peak f v).vault = s.vault := rfl
@[simp] theorem State.peak_free : (s.peak f v).free = s.free := rfl
@[simp] theorem State.peak_mode : (s.peak f v).mode = s.mode := rfl
@[simp] theorem State.peak_time : (s.peak f v).time = s.time := rfl
@[simp] theorem State.peak_fab : (s.peak f v).fab = s.fab := rfl
@[simp] theorem State.peak_evt : (s.peak f v).evt = s.evt := rfl
@[simp] theorem State.peak_pins : (s.peak f v).pins = s.pins := rfl
@[simp] theorem State.peak_bypass : (s.peak f v).bypass = s.bypass := rfl
@[simp] theorem State.peak_pwr : (s.peak f v).pwr = s.pwr := rfl
@[simp] theorem State.peak_clk : (s.peak f v).clk = s.clk := rfl
@[simp] theorem State.peak_boot : (s.peak f v).boot = s.boot := rfl
@[simp] theorem State.peak_sto : (s.peak f v).sto = s.sto := rfl
@[simp] theorem State.peak_fir : (s.peak f v).fir = s.fir := rfl
@[simp] theorem State.peak_arv : (s.peak f v).arv = s.arv := rfl
@[simp] theorem State.peak_flo : (s.peak f v).flo = s.flo := rfl
@[simp] theorem State.peak_bil : (s.peak f v).bil = s.bil := rfl
@[simp] theorem State.peak_stg : (s.peak f v).stg = s.stg := rfl
@[simp] theorem State.peak_sea : (s.peak f v).sea = s.sea := rfl
@[simp] theorem State.peak_sec : (s.peak f v).sec = s.sec := rfl
@[simp] theorem State.peak_inbox : (s.peak f v).inbox = s.inbox := rfl
@[simp] theorem State.peak_con : (s.peak f v).con = s.con := rfl
@[simp] theorem State.peak_mbx : (s.peak f v).mbx = s.mbx := rfl
@[simp] theorem State.peak_pls : (s.peak f v).pls = s.pls := rfl
@[simp] theorem State.peak_rad : (s.peak f v).rad = s.rad := rfl
@[simp] theorem State.peak_lop : (s.peak f v).lop = s.lop := rfl
@[simp] theorem State.peak_loc : (s.peak f v).loc = s.loc := rfl
@[simp] theorem State.peak_umb : (s.peak f v).umb = s.umb := rfl
@[simp] theorem State.peak_hst : (s.peak f v).hst = s.hst := rfl
end

/-! ### put2 -/

section
variable (s : State) (a v : Nat)
@[simp] theorem State.put2_pending : (s.put2 a v).pending = s.pending := rfl
@[simp] theorem State.put2_calico : (s.put2 a v).calico = s.calico := rfl
@[simp] theorem State.put2_vault : (s.put2 a v).vault = s.vault := rfl
@[simp] theorem State.put2_free : (s.put2 a v).free = s.free := rfl
@[simp] theorem State.put2_mode : (s.put2 a v).mode = s.mode := rfl
@[simp] theorem State.put2_time : (s.put2 a v).time = s.time := rfl
@[simp] theorem State.put2_fab : (s.put2 a v).fab = s.fab := rfl
@[simp] theorem State.put2_evt : (s.put2 a v).evt = s.evt := rfl
@[simp] theorem State.put2_pins : (s.put2 a v).pins = s.pins := rfl
@[simp] theorem State.put2_bypass : (s.put2 a v).bypass = s.bypass := rfl
@[simp] theorem State.put2_pwr : (s.put2 a v).pwr = s.pwr := rfl
@[simp] theorem State.put2_clk : (s.put2 a v).clk = s.clk := rfl
@[simp] theorem State.put2_boot : (s.put2 a v).boot = s.boot := rfl
@[simp] theorem State.put2_sto : (s.put2 a v).sto = s.sto := rfl
@[simp] theorem State.put2_fir : (s.put2 a v).fir = s.fir := rfl
@[simp] theorem State.put2_arv : (s.put2 a v).arv = s.arv := rfl
@[simp] theorem State.put2_flo : (s.put2 a v).flo = s.flo := rfl
@[simp] theorem State.put2_bil : (s.put2 a v).bil = s.bil := rfl
@[simp] theorem State.put2_stg : (s.put2 a v).stg = s.stg := rfl
@[simp] theorem State.put2_sea : (s.put2 a v).sea = s.sea := rfl
@[simp] theorem State.put2_sec : (s.put2 a v).sec = s.sec := rfl
@[simp] theorem State.put2_inbox : (s.put2 a v).inbox = s.inbox := rfl
@[simp] theorem State.put2_con : (s.put2 a v).con = s.con := rfl
@[simp] theorem State.put2_mbx : (s.put2 a v).mbx = s.mbx := rfl
@[simp] theorem State.put2_pls : (s.put2 a v).pls = s.pls := rfl
@[simp] theorem State.put2_rad : (s.put2 a v).rad = s.rad := rfl
@[simp] theorem State.put2_lop : (s.put2 a v).lop = s.lop := rfl
@[simp] theorem State.put2_loc : (s.put2 a v).loc = s.loc := rfl
@[simp] theorem State.put2_umb : (s.put2 a v).umb = s.umb := rfl
@[simp] theorem State.put2_hst : (s.put2 a v).hst = s.hst := rfl
end

/-! ### clearRange -/

section
variable (s : State) (lo hi : Nat)
@[simp] theorem State.clearRange_pending : (s.clearRange lo hi).pending = s.pending := rfl
@[simp] theorem State.clearRange_calico : (s.clearRange lo hi).calico = s.calico := rfl
@[simp] theorem State.clearRange_vault : (s.clearRange lo hi).vault = s.vault := rfl
@[simp] theorem State.clearRange_free : (s.clearRange lo hi).free = s.free := rfl
@[simp] theorem State.clearRange_mode : (s.clearRange lo hi).mode = s.mode := rfl
@[simp] theorem State.clearRange_time : (s.clearRange lo hi).time = s.time := rfl
@[simp] theorem State.clearRange_fab : (s.clearRange lo hi).fab = s.fab := rfl
@[simp] theorem State.clearRange_evt : (s.clearRange lo hi).evt = s.evt := rfl
@[simp] theorem State.clearRange_pins : (s.clearRange lo hi).pins = s.pins := rfl
@[simp] theorem State.clearRange_bypass : (s.clearRange lo hi).bypass = s.bypass := rfl
@[simp] theorem State.clearRange_pwr : (s.clearRange lo hi).pwr = s.pwr := rfl
@[simp] theorem State.clearRange_clk : (s.clearRange lo hi).clk = s.clk := rfl
@[simp] theorem State.clearRange_boot : (s.clearRange lo hi).boot = s.boot := rfl
@[simp] theorem State.clearRange_sto : (s.clearRange lo hi).sto = s.sto := rfl
@[simp] theorem State.clearRange_fir : (s.clearRange lo hi).fir = s.fir := rfl
@[simp] theorem State.clearRange_arv : (s.clearRange lo hi).arv = s.arv := rfl
@[simp] theorem State.clearRange_flo : (s.clearRange lo hi).flo = s.flo := rfl
@[simp] theorem State.clearRange_bil : (s.clearRange lo hi).bil = s.bil := rfl
@[simp] theorem State.clearRange_stg : (s.clearRange lo hi).stg = s.stg := rfl
@[simp] theorem State.clearRange_sea : (s.clearRange lo hi).sea = s.sea := rfl
@[simp] theorem State.clearRange_sec : (s.clearRange lo hi).sec = s.sec := rfl
@[simp] theorem State.clearRange_inbox : (s.clearRange lo hi).inbox = s.inbox := rfl
@[simp] theorem State.clearRange_con : (s.clearRange lo hi).con = s.con := rfl
@[simp] theorem State.clearRange_mbx : (s.clearRange lo hi).mbx = s.mbx := rfl
@[simp] theorem State.clearRange_pls : (s.clearRange lo hi).pls = s.pls := rfl
@[simp] theorem State.clearRange_rad : (s.clearRange lo hi).rad = s.rad := rfl
@[simp] theorem State.clearRange_lop : (s.clearRange lo hi).lop = s.lop := rfl
@[simp] theorem State.clearRange_loc : (s.clearRange lo hi).loc = s.loc := rfl
@[simp] theorem State.clearRange_umb : (s.clearRange lo hi).umb = s.umb := rfl
@[simp] theorem State.clearRange_hst : (s.clearRange lo hi).hst = s.hst := rfl
end

/-! ### raiseWith -/

section
variable (s : State) (n : Nat) (d : List Word)
@[simp] theorem State.raiseWith_pending : (s.raiseWith n d).pending = s.pending := rfl
@[simp] theorem State.raiseWith_regs : (s.raiseWith n d).regs = s.regs := rfl
@[simp] theorem State.raiseWith_calico : (s.raiseWith n d).calico = s.calico := rfl
@[simp] theorem State.raiseWith_vault : (s.raiseWith n d).vault = s.vault := rfl
@[simp] theorem State.raiseWith_free : (s.raiseWith n d).free = s.free := rfl
@[simp] theorem State.raiseWith_mode : (s.raiseWith n d).mode = s.mode := rfl
@[simp] theorem State.raiseWith_time : (s.raiseWith n d).time = s.time := rfl
@[simp] theorem State.raiseWith_fab : (s.raiseWith n d).fab = s.fab := rfl
@[simp] theorem State.raiseWith_pins : (s.raiseWith n d).pins = s.pins := rfl
@[simp] theorem State.raiseWith_bypass : (s.raiseWith n d).bypass = s.bypass := rfl
@[simp] theorem State.raiseWith_pwr : (s.raiseWith n d).pwr = s.pwr := rfl
@[simp] theorem State.raiseWith_clk : (s.raiseWith n d).clk = s.clk := rfl
@[simp] theorem State.raiseWith_boot : (s.raiseWith n d).boot = s.boot := rfl
@[simp] theorem State.raiseWith_sto : (s.raiseWith n d).sto = s.sto := rfl
@[simp] theorem State.raiseWith_fir : (s.raiseWith n d).fir = s.fir := rfl
@[simp] theorem State.raiseWith_arv : (s.raiseWith n d).arv = s.arv := rfl
@[simp] theorem State.raiseWith_flo : (s.raiseWith n d).flo = s.flo := rfl
@[simp] theorem State.raiseWith_bil : (s.raiseWith n d).bil = s.bil := rfl
@[simp] theorem State.raiseWith_stg : (s.raiseWith n d).stg = s.stg := rfl
@[simp] theorem State.raiseWith_sea : (s.raiseWith n d).sea = s.sea := rfl
@[simp] theorem State.raiseWith_sec : (s.raiseWith n d).sec = s.sec := rfl
@[simp] theorem State.raiseWith_inbox : (s.raiseWith n d).inbox = s.inbox := rfl
@[simp] theorem State.raiseWith_con : (s.raiseWith n d).con = s.con := rfl
@[simp] theorem State.raiseWith_mbx : (s.raiseWith n d).mbx = s.mbx := rfl
@[simp] theorem State.raiseWith_pls : (s.raiseWith n d).pls = s.pls := rfl
@[simp] theorem State.raiseWith_rad : (s.raiseWith n d).rad = s.rad := rfl
@[simp] theorem State.raiseWith_lop : (s.raiseWith n d).lop = s.lop := rfl
@[simp] theorem State.raiseWith_loc : (s.raiseWith n d).loc = s.loc := rfl
@[simp] theorem State.raiseWith_umb : (s.raiseWith n d).umb = s.umb := rfl
@[simp] theorem State.raiseWith_hst : (s.raiseWith n d).hst = s.hst := rfl
@[simp] theorem State.raiseWith_rd (x : Nat) : (s.raiseWith n d).rd x = s.rd x := rfl
@[simp] theorem State.raiseWith_get (x : Fd) : (s.raiseWith n d).get x = s.get x := rfl
@[simp] theorem State.raiseWith_on (x : Fd) : (s.raiseWith n d).on x = s.on x := rfl
@[simp] theorem State.raiseWith_getI (x : Fd) : (s.raiseWith n d).getI x = s.getI x := rfl
end

/-! ### raise -/

section
variable (s : State) (n : Nat)
@[simp] theorem State.raise_pending : (s.raise n).pending = s.pending := rfl
@[simp] theorem State.raise_regs : (s.raise n).regs = s.regs := rfl
@[simp] theorem State.raise_calico : (s.raise n).calico = s.calico := rfl
@[simp] theorem State.raise_vault : (s.raise n).vault = s.vault := rfl
@[simp] theorem State.raise_free : (s.raise n).free = s.free := rfl
@[simp] theorem State.raise_mode : (s.raise n).mode = s.mode := rfl
@[simp] theorem State.raise_time : (s.raise n).time = s.time := rfl
@[simp] theorem State.raise_fab : (s.raise n).fab = s.fab := rfl
@[simp] theorem State.raise_pins : (s.raise n).pins = s.pins := rfl
@[simp] theorem State.raise_bypass : (s.raise n).bypass = s.bypass := rfl
@[simp] theorem State.raise_pwr : (s.raise n).pwr = s.pwr := rfl
@[simp] theorem State.raise_clk : (s.raise n).clk = s.clk := rfl
@[simp] theorem State.raise_boot : (s.raise n).boot = s.boot := rfl
@[simp] theorem State.raise_sto : (s.raise n).sto = s.sto := rfl
@[simp] theorem State.raise_fir : (s.raise n).fir = s.fir := rfl
@[simp] theorem State.raise_arv : (s.raise n).arv = s.arv := rfl
@[simp] theorem State.raise_flo : (s.raise n).flo = s.flo := rfl
@[simp] theorem State.raise_bil : (s.raise n).bil = s.bil := rfl
@[simp] theorem State.raise_stg : (s.raise n).stg = s.stg := rfl
@[simp] theorem State.raise_sea : (s.raise n).sea = s.sea := rfl
@[simp] theorem State.raise_sec : (s.raise n).sec = s.sec := rfl
@[simp] theorem State.raise_inbox : (s.raise n).inbox = s.inbox := rfl
@[simp] theorem State.raise_con : (s.raise n).con = s.con := rfl
@[simp] theorem State.raise_mbx : (s.raise n).mbx = s.mbx := rfl
@[simp] theorem State.raise_pls : (s.raise n).pls = s.pls := rfl
@[simp] theorem State.raise_rad : (s.raise n).rad = s.rad := rfl
@[simp] theorem State.raise_lop : (s.raise n).lop = s.lop := rfl
@[simp] theorem State.raise_loc : (s.raise n).loc = s.loc := rfl
@[simp] theorem State.raise_umb : (s.raise n).umb = s.umb := rfl
@[simp] theorem State.raise_hst : (s.raise n).hst = s.hst := rfl
@[simp] theorem State.raise_rd (x : Nat) : (s.raise n).rd x = s.rd x := rfl
@[simp] theorem State.raise_get (x : Fd) : (s.raise n).get x = s.get x := rfl
@[simp] theorem State.raise_on (x : Fd) : (s.raise n).on x = s.on x := rfl
@[simp] theorem State.raise_getI (x : Fd) : (s.raise n).getI x = s.getI x := rfl
end

/-! ### raiseIf -/

section
variable (s : State) (b : Bool) (n : Nat)
@[simp] theorem State.raiseIf_pending : (s.raiseIf b n).pending = s.pending := by cases b <;> rfl
@[simp] theorem State.raiseIf_regs : (s.raiseIf b n).regs = s.regs := by cases b <;> rfl
@[simp] theorem State.raiseIf_calico : (s.raiseIf b n).calico = s.calico := by cases b <;> rfl
@[simp] theorem State.raiseIf_vault : (s.raiseIf b n).vault = s.vault := by cases b <;> rfl
@[simp] theorem State.raiseIf_free : (s.raiseIf b n).free = s.free := by cases b <;> rfl
@[simp] theorem State.raiseIf_mode : (s.raiseIf b n).mode = s.mode := by cases b <;> rfl
@[simp] theorem State.raiseIf_time : (s.raiseIf b n).time = s.time := by cases b <;> rfl
@[simp] theorem State.raiseIf_fab : (s.raiseIf b n).fab = s.fab := by cases b <;> rfl
@[simp] theorem State.raiseIf_pins : (s.raiseIf b n).pins = s.pins := by cases b <;> rfl
@[simp] theorem State.raiseIf_bypass : (s.raiseIf b n).bypass = s.bypass := by cases b <;> rfl
@[simp] theorem State.raiseIf_pwr : (s.raiseIf b n).pwr = s.pwr := by cases b <;> rfl
@[simp] theorem State.raiseIf_clk : (s.raiseIf b n).clk = s.clk := by cases b <;> rfl
@[simp] theorem State.raiseIf_boot : (s.raiseIf b n).boot = s.boot := by cases b <;> rfl
@[simp] theorem State.raiseIf_sto : (s.raiseIf b n).sto = s.sto := by cases b <;> rfl
@[simp] theorem State.raiseIf_fir : (s.raiseIf b n).fir = s.fir := by cases b <;> rfl
@[simp] theorem State.raiseIf_arv : (s.raiseIf b n).arv = s.arv := by cases b <;> rfl
@[simp] theorem State.raiseIf_flo : (s.raiseIf b n).flo = s.flo := by cases b <;> rfl
@[simp] theorem State.raiseIf_bil : (s.raiseIf b n).bil = s.bil := by cases b <;> rfl
@[simp] theorem State.raiseIf_stg : (s.raiseIf b n).stg = s.stg := by cases b <;> rfl
@[simp] theorem State.raiseIf_sea : (s.raiseIf b n).sea = s.sea := by cases b <;> rfl
@[simp] theorem State.raiseIf_sec : (s.raiseIf b n).sec = s.sec := by cases b <;> rfl
@[simp] theorem State.raiseIf_inbox : (s.raiseIf b n).inbox = s.inbox := by cases b <;> rfl
@[simp] theorem State.raiseIf_con : (s.raiseIf b n).con = s.con := by cases b <;> rfl
@[simp] theorem State.raiseIf_mbx : (s.raiseIf b n).mbx = s.mbx := by cases b <;> rfl
@[simp] theorem State.raiseIf_pls : (s.raiseIf b n).pls = s.pls := by cases b <;> rfl
@[simp] theorem State.raiseIf_rad : (s.raiseIf b n).rad = s.rad := by cases b <;> rfl
@[simp] theorem State.raiseIf_lop : (s.raiseIf b n).lop = s.lop := by cases b <;> rfl
@[simp] theorem State.raiseIf_loc : (s.raiseIf b n).loc = s.loc := by cases b <;> rfl
@[simp] theorem State.raiseIf_umb : (s.raiseIf b n).umb = s.umb := by cases b <;> rfl
@[simp] theorem State.raiseIf_hst : (s.raiseIf b n).hst = s.hst := by cases b <;> rfl
@[simp] theorem State.raiseIf_rd (x : Nat) : (s.raiseIf b n).rd x = s.rd x := by cases b <;> rfl
@[simp] theorem State.raiseIf_get (x : Fd) : (s.raiseIf b n).get x = s.get x := by cases b <;> rfl
@[simp] theorem State.raiseIf_on (x : Fd) : (s.raiseIf b n).on x = s.on x := by cases b <;> rfl
@[simp] theorem State.raiseIf_getI (x : Fd) : (s.raiseIf b n).getI x = s.getI x := by cases b <;> rfl
end

/-! ### withPending -/

section
variable (s : State) (q : List Instr)
@[simp] theorem State.withPending_regs : (s.withPending q).regs = s.regs := rfl
@[simp] theorem State.withPending_calico : (s.withPending q).calico = s.calico := rfl
@[simp] theorem State.withPending_vault : (s.withPending q).vault = s.vault := rfl
@[simp] theorem State.withPending_free : (s.withPending q).free = s.free := rfl
@[simp] theorem State.withPending_mode : (s.withPending q).mode = s.mode := rfl
@[simp] theorem State.withPending_time : (s.withPending q).time = s.time := rfl
@[simp] theorem State.withPending_fab : (s.withPending q).fab = s.fab := rfl
@[simp] theorem State.withPending_evt : (s.withPending q).evt = s.evt := rfl
@[simp] theorem State.withPending_pins : (s.withPending q).pins = s.pins := rfl
@[simp] theorem State.withPending_bypass : (s.withPending q).bypass = s.bypass := rfl
@[simp] theorem State.withPending_pwr : (s.withPending q).pwr = s.pwr := rfl
@[simp] theorem State.withPending_clk : (s.withPending q).clk = s.clk := rfl
@[simp] theorem State.withPending_boot : (s.withPending q).boot = s.boot := rfl
@[simp] theorem State.withPending_sto : (s.withPending q).sto = s.sto := rfl
@[simp] theorem State.withPending_fir : (s.withPending q).fir = s.fir := rfl
@[simp] theorem State.withPending_arv : (s.withPending q).arv = s.arv := rfl
@[simp] theorem State.withPending_flo : (s.withPending q).flo = s.flo := rfl
@[simp] theorem State.withPending_bil : (s.withPending q).bil = s.bil := rfl
@[simp] theorem State.withPending_stg : (s.withPending q).stg = s.stg := rfl
@[simp] theorem State.withPending_sea : (s.withPending q).sea = s.sea := rfl
@[simp] theorem State.withPending_sec : (s.withPending q).sec = s.sec := rfl
@[simp] theorem State.withPending_inbox : (s.withPending q).inbox = s.inbox := rfl
@[simp] theorem State.withPending_con : (s.withPending q).con = s.con := rfl
@[simp] theorem State.withPending_mbx : (s.withPending q).mbx = s.mbx := rfl
@[simp] theorem State.withPending_pls : (s.withPending q).pls = s.pls := rfl
@[simp] theorem State.withPending_rad : (s.withPending q).rad = s.rad := rfl
@[simp] theorem State.withPending_lop : (s.withPending q).lop = s.lop := rfl
@[simp] theorem State.withPending_loc : (s.withPending q).loc = s.loc := rfl
@[simp] theorem State.withPending_umb : (s.withPending q).umb = s.umb := rfl
@[simp] theorem State.withPending_hst : (s.withPending q).hst = s.hst := rfl
@[simp] theorem State.withPending_rd (x : Nat) : (s.withPending q).rd x = s.rd x := rfl
@[simp] theorem State.withPending_get (x : Fd) : (s.withPending q).get x = s.get x := rfl
@[simp] theorem State.withPending_on (x : Fd) : (s.withPending q).on x = s.on x := rfl
@[simp] theorem State.withPending_getI (x : Fd) : (s.withPending q).getI x = s.getI x := rfl
end

@[simp] theorem State.withPending_pending (s : State) (q : List Instr) : (s.withPending q).pending = q := rfl

end Sys2Proof.Machine
end

