-- ==== Sys2Proof/Laws/Tables.lean ====
section
/-! SUPPORT. The tables kept beside the registers: an entry reads back as it was written, every other entry stays, and the rest of the state
stays too. -/

namespace Sys2Proof.Machine

/-! ### setPort -/

section
variable (s : State) (n : Nat) (u : PortUse)
@[simp] theorem State.setPort_port (j : Nat) : (s.setPort n u).port j = if j = n then u else s.port j := Sparse.get_set _ _ _ _ _
@[simp] theorem State.setPort_pending : (s.setPort n u).pending = s.pending := rfl
@[simp] theorem State.setPort_regs : (s.setPort n u).regs = s.regs := rfl
@[simp] theorem State.setPort_calico : (s.setPort n u).calico = s.calico := rfl
@[simp] theorem State.setPort_vault : (s.setPort n u).vault = s.vault := rfl
@[simp] theorem State.setPort_free : (s.setPort n u).free = s.free := rfl
@[simp] theorem State.setPort_mode : (s.setPort n u).mode = s.mode := rfl
@[simp] theorem State.setPort_time : (s.setPort n u).time = s.time := rfl
@[simp] theorem State.setPort_fab : (s.setPort n u).fab = s.fab := rfl
@[simp] theorem State.setPort_evt : (s.setPort n u).evt = s.evt := rfl
@[simp] theorem State.setPort_pins : (s.setPort n u).pins = s.pins := rfl
@[simp] theorem State.setPort_bypass : (s.setPort n u).bypass = s.bypass := rfl
@[simp] theorem State.setPort_pwr : (s.setPort n u).pwr = s.pwr := rfl
@[simp] theorem State.setPort_clk : (s.setPort n u).clk = s.clk := rfl
@[simp] theorem State.setPort_boot : (s.setPort n u).boot = s.boot := rfl
@[simp] theorem State.setPort_sto : (s.setPort n u).sto = s.sto := rfl
@[simp] theorem State.setPort_arv : (s.setPort n u).arv = s.arv := rfl
@[simp] theorem State.setPort_flo : (s.setPort n u).flo = s.flo := rfl
@[simp] theorem State.setPort_bil : (s.setPort n u).bil = s.bil := rfl
@[simp] theorem State.setPort_stg : (s.setPort n u).stg = s.stg := rfl
@[simp] theorem State.setPort_sea : (s.setPort n u).sea = s.sea := rfl
@[simp] theorem State.setPort_sec : (s.setPort n u).sec = s.sec := rfl
@[simp] theorem State.setPort_inbox : (s.setPort n u).inbox = s.inbox := rfl
@[simp] theorem State.setPort_con : (s.setPort n u).con = s.con := rfl
@[simp] theorem State.setPort_mbx : (s.setPort n u).mbx = s.mbx := rfl
@[simp] theorem State.setPort_pls : (s.setPort n u).pls = s.pls := rfl
@[simp] theorem State.setPort_rad : (s.setPort n u).rad = s.rad := rfl
@[simp] theorem State.setPort_lop : (s.setPort n u).lop = s.lop := rfl
@[simp] theorem State.setPort_loc : (s.setPort n u).loc = s.loc := rfl
@[simp] theorem State.setPort_umb : (s.setPort n u).umb = s.umb := rfl
@[simp] theorem State.setPort_hst : (s.setPort n u).hst = s.hst := rfl
@[simp] theorem State.setPort_rd (a : Nat) : (s.setPort n u).rd a = s.rd a := rfl
@[simp] theorem State.setPort_get (f : Fd) : (s.setPort n u).get f = s.get f := rfl
@[simp] theorem State.setPort_on (f : Fd) : (s.setPort n u).on f = s.on f := rfl
@[simp] theorem State.setPort_getI (f : Fd) : (s.setPort n u).getI f = s.getI f := rfl
end

/-! ### setShotQueue -/

section
variable (s : State) (k : Nat) (q : List Shot)
@[simp] theorem State.setShotQueue_shotQueue (j : Nat) : (s.setShotQueue k q).shotQueue j = if j = k then q else s.shotQueue j := Sparse.get_set _ _ _ _ _
@[simp] theorem State.setShotQueue_pending : (s.setShotQueue k q).pending = s.pending := rfl
@[simp] theorem State.setShotQueue_regs : (s.setShotQueue k q).regs = s.regs := rfl
@[simp] theorem State.setShotQueue_calico : (s.setShotQueue k q).calico = s.calico := rfl
@[simp] theorem State.setShotQueue_vault : (s.setShotQueue k q).vault = s.vault := rfl
@[simp] theorem State.setShotQueue_free : (s.setShotQueue k q).free = s.free := rfl
@[simp] theorem State.setShotQueue_mode : (s.setShotQueue k q).mode = s.mode := rfl
@[simp] theorem State.setShotQueue_time : (s.setShotQueue k q).time = s.time := rfl
@[simp] theorem State.setShotQueue_fab : (s.setShotQueue k q).fab = s.fab := rfl
@[simp] theorem State.setShotQueue_evt : (s.setShotQueue k q).evt = s.evt := rfl
@[simp] theorem State.setShotQueue_pins : (s.setShotQueue k q).pins = s.pins := rfl
@[simp] theorem State.setShotQueue_bypass : (s.setShotQueue k q).bypass = s.bypass := rfl
@[simp] theorem State.setShotQueue_pwr : (s.setShotQueue k q).pwr = s.pwr := rfl
@[simp] theorem State.setShotQueue_clk : (s.setShotQueue k q).clk = s.clk := rfl
@[simp] theorem State.setShotQueue_boot : (s.setShotQueue k q).boot = s.boot := rfl
@[simp] theorem State.setShotQueue_sto : (s.setShotQueue k q).sto = s.sto := rfl
@[simp] theorem State.setShotQueue_arv : (s.setShotQueue k q).arv = s.arv := rfl
@[simp] theorem State.setShotQueue_flo : (s.setShotQueue k q).flo = s.flo := rfl
@[simp] theorem State.setShotQueue_bil : (s.setShotQueue k q).bil = s.bil := rfl
@[simp] theorem State.setShotQueue_stg : (s.setShotQueue k q).stg = s.stg := rfl
@[simp] theorem State.setShotQueue_sea : (s.setShotQueue k q).sea = s.sea := rfl
@[simp] theorem State.setShotQueue_sec : (s.setShotQueue k q).sec = s.sec := rfl
@[simp] theorem State.setShotQueue_inbox : (s.setShotQueue k q).inbox = s.inbox := rfl
@[simp] theorem State.setShotQueue_con : (s.setShotQueue k q).con = s.con := rfl
@[simp] theorem State.setShotQueue_mbx : (s.setShotQueue k q).mbx = s.mbx := rfl
@[simp] theorem State.setShotQueue_pls : (s.setShotQueue k q).pls = s.pls := rfl
@[simp] theorem State.setShotQueue_rad : (s.setShotQueue k q).rad = s.rad := rfl
@[simp] theorem State.setShotQueue_lop : (s.setShotQueue k q).lop = s.lop := rfl
@[simp] theorem State.setShotQueue_loc : (s.setShotQueue k q).loc = s.loc := rfl
@[simp] theorem State.setShotQueue_umb : (s.setShotQueue k q).umb = s.umb := rfl
@[simp] theorem State.setShotQueue_hst : (s.setShotQueue k q).hst = s.hst := rfl
@[simp] theorem State.setShotQueue_rd (a : Nat) : (s.setShotQueue k q).rd a = s.rd a := rfl
@[simp] theorem State.setShotQueue_get (f : Fd) : (s.setShotQueue k q).get f = s.get f := rfl
@[simp] theorem State.setShotQueue_on (f : Fd) : (s.setShotQueue k q).on f = s.on f := rfl
@[simp] theorem State.setShotQueue_getI (f : Fd) : (s.setShotQueue k q).getI f = s.getI f := rfl
end

/-! ### setTemplate -/

section
variable (s : State) (p : Nat) (t : PathTemplate)
@[simp] theorem State.setTemplate_template (j : Nat) : (s.setTemplate p t).template j = if j = p then t else s.template j := Sparse.get_set _ _ _ _ _
@[simp] theorem State.setTemplate_pending : (s.setTemplate p t).pending = s.pending := rfl
@[simp] theorem State.setTemplate_regs : (s.setTemplate p t).regs = s.regs := rfl
@[simp] theorem State.setTemplate_calico : (s.setTemplate p t).calico = s.calico := rfl
@[simp] theorem State.setTemplate_vault : (s.setTemplate p t).vault = s.vault := rfl
@[simp] theorem State.setTemplate_free : (s.setTemplate p t).free = s.free := rfl
@[simp] theorem State.setTemplate_mode : (s.setTemplate p t).mode = s.mode := rfl
@[simp] theorem State.setTemplate_time : (s.setTemplate p t).time = s.time := rfl
@[simp] theorem State.setTemplate_fab : (s.setTemplate p t).fab = s.fab := rfl
@[simp] theorem State.setTemplate_evt : (s.setTemplate p t).evt = s.evt := rfl
@[simp] theorem State.setTemplate_pins : (s.setTemplate p t).pins = s.pins := rfl
@[simp] theorem State.setTemplate_bypass : (s.setTemplate p t).bypass = s.bypass := rfl
@[simp] theorem State.setTemplate_pwr : (s.setTemplate p t).pwr = s.pwr := rfl
@[simp] theorem State.setTemplate_clk : (s.setTemplate p t).clk = s.clk := rfl
@[simp] theorem State.setTemplate_boot : (s.setTemplate p t).boot = s.boot := rfl
@[simp] theorem State.setTemplate_sto : (s.setTemplate p t).sto = s.sto := rfl
@[simp] theorem State.setTemplate_fir : (s.setTemplate p t).fir = s.fir := rfl
@[simp] theorem State.setTemplate_flo : (s.setTemplate p t).flo = s.flo := rfl
@[simp] theorem State.setTemplate_bil : (s.setTemplate p t).bil = s.bil := rfl
@[simp] theorem State.setTemplate_stg : (s.setTemplate p t).stg = s.stg := rfl
@[simp] theorem State.setTemplate_sea : (s.setTemplate p t).sea = s.sea := rfl
@[simp] theorem State.setTemplate_sec : (s.setTemplate p t).sec = s.sec := rfl
@[simp] theorem State.setTemplate_inbox : (s.setTemplate p t).inbox = s.inbox := rfl
@[simp] theorem State.setTemplate_con : (s.setTemplate p t).con = s.con := rfl
@[simp] theorem State.setTemplate_mbx : (s.setTemplate p t).mbx = s.mbx := rfl
@[simp] theorem State.setTemplate_pls : (s.setTemplate p t).pls = s.pls := rfl
@[simp] theorem State.setTemplate_rad : (s.setTemplate p t).rad = s.rad := rfl
@[simp] theorem State.setTemplate_lop : (s.setTemplate p t).lop = s.lop := rfl
@[simp] theorem State.setTemplate_loc : (s.setTemplate p t).loc = s.loc := rfl
@[simp] theorem State.setTemplate_umb : (s.setTemplate p t).umb = s.umb := rfl
@[simp] theorem State.setTemplate_hst : (s.setTemplate p t).hst = s.hst := rfl
@[simp] theorem State.setTemplate_rd (a : Nat) : (s.setTemplate p t).rd a = s.rd a := rfl
@[simp] theorem State.setTemplate_get (f : Fd) : (s.setTemplate p t).get f = s.get f := rfl
@[simp] theorem State.setTemplate_on (f : Fd) : (s.setTemplate p t).on f = s.on f := rfl
@[simp] theorem State.setTemplate_getI (f : Fd) : (s.setTemplate p t).getI f = s.getI f := rfl
end

/-! ### setPoint -/

section
variable (s : State) (i : Nat) (h : MpHistory)
@[simp] theorem State.setPoint_point (j : Nat) : (s.setPoint i h).point j = if j = i then h else s.point j := Sparse.get_set _ _ _ _ _
@[simp] theorem State.setPoint_pending : (s.setPoint i h).pending = s.pending := rfl
@[simp] theorem State.setPoint_regs : (s.setPoint i h).regs = s.regs := rfl
@[simp] theorem State.setPoint_calico : (s.setPoint i h).calico = s.calico := rfl
@[simp] theorem State.setPoint_vault : (s.setPoint i h).vault = s.vault := rfl
@[simp] theorem State.setPoint_free : (s.setPoint i h).free = s.free := rfl
@[simp] theorem State.setPoint_mode : (s.setPoint i h).mode = s.mode := rfl
@[simp] theorem State.setPoint_time : (s.setPoint i h).time = s.time := rfl
@[simp] theorem State.setPoint_fab : (s.setPoint i h).fab = s.fab := rfl
@[simp] theorem State.setPoint_evt : (s.setPoint i h).evt = s.evt := rfl
@[simp] theorem State.setPoint_pins : (s.setPoint i h).pins = s.pins := rfl
@[simp] theorem State.setPoint_bypass : (s.setPoint i h).bypass = s.bypass := rfl
@[simp] theorem State.setPoint_pwr : (s.setPoint i h).pwr = s.pwr := rfl
@[simp] theorem State.setPoint_clk : (s.setPoint i h).clk = s.clk := rfl
@[simp] theorem State.setPoint_boot : (s.setPoint i h).boot = s.boot := rfl
@[simp] theorem State.setPoint_sto : (s.setPoint i h).sto = s.sto := rfl
@[simp] theorem State.setPoint_fir : (s.setPoint i h).fir = s.fir := rfl
@[simp] theorem State.setPoint_arv : (s.setPoint i h).arv = s.arv := rfl
@[simp] theorem State.setPoint_bil : (s.setPoint i h).bil = s.bil := rfl
@[simp] theorem State.setPoint_stg : (s.setPoint i h).stg = s.stg := rfl
@[simp] theorem State.setPoint_sea : (s.setPoint i h).sea = s.sea := rfl
@[simp] theorem State.setPoint_sec : (s.setPoint i h).sec = s.sec := rfl
@[simp] theorem State.setPoint_inbox : (s.setPoint i h).inbox = s.inbox := rfl
@[simp] theorem State.setPoint_con : (s.setPoint i h).con = s.con := rfl
@[simp] theorem State.setPoint_mbx : (s.setPoint i h).mbx = s.mbx := rfl
@[simp] theorem State.setPoint_pls : (s.setPoint i h).pls = s.pls := rfl
@[simp] theorem State.setPoint_rad : (s.setPoint i h).rad = s.rad := rfl
@[simp] theorem State.setPoint_lop : (s.setPoint i h).lop = s.lop := rfl
@[simp] theorem State.setPoint_loc : (s.setPoint i h).loc = s.loc := rfl
@[simp] theorem State.setPoint_umb : (s.setPoint i h).umb = s.umb := rfl
@[simp] theorem State.setPoint_hst : (s.setPoint i h).hst = s.hst := rfl
@[simp] theorem State.setPoint_rd (a : Nat) : (s.setPoint i h).rd a = s.rd a := rfl
@[simp] theorem State.setPoint_get (f : Fd) : (s.setPoint i h).get f = s.get f := rfl
@[simp] theorem State.setPoint_on (f : Fd) : (s.setPoint i h).on f = s.on f := rfl
@[simp] theorem State.setPoint_getI (f : Fd) : (s.setPoint i h).getI f = s.getI f := rfl
end

/-! ### setChannel -/

section
variable (s : State) (c : Nat) (h : Channel)
@[simp] theorem State.setChannel_channel (j : Nat) : (s.setChannel c h).channel j = if j = c then h else s.channel j := Sparse.get_set _ _ _ _ _
@[simp] theorem State.setChannel_pending : (s.setChannel c h).pending = s.pending := rfl
@[simp] theorem State.setChannel_regs : (s.setChannel c h).regs = s.regs := rfl
@[simp] theorem State.setChannel_calico : (s.setChannel c h).calico = s.calico := rfl
@[simp] theorem State.setChannel_vault : (s.setChannel c h).vault = s.vault := rfl
@[simp] theorem State.setChannel_free : (s.setChannel c h).free = s.free := rfl
@[simp] theorem State.setChannel_mode : (s.setChannel c h).mode = s.mode := rfl
@[simp] theorem State.setChannel_time : (s.setChannel c h).time = s.time := rfl
@[simp] theorem State.setChannel_fab : (s.setChannel c h).fab = s.fab := rfl
@[simp] theorem State.setChannel_evt : (s.setChannel c h).evt = s.evt := rfl
@[simp] theorem State.setChannel_pins : (s.setChannel c h).pins = s.pins := rfl
@[simp] theorem State.setChannel_bypass : (s.setChannel c h).bypass = s.bypass := rfl
@[simp] theorem State.setChannel_pwr : (s.setChannel c h).pwr = s.pwr := rfl
@[simp] theorem State.setChannel_clk : (s.setChannel c h).clk = s.clk := rfl
@[simp] theorem State.setChannel_boot : (s.setChannel c h).boot = s.boot := rfl
@[simp] theorem State.setChannel_sto : (s.setChannel c h).sto = s.sto := rfl
@[simp] theorem State.setChannel_fir : (s.setChannel c h).fir = s.fir := rfl
@[simp] theorem State.setChannel_arv : (s.setChannel c h).arv = s.arv := rfl
@[simp] theorem State.setChannel_bil : (s.setChannel c h).bil = s.bil := rfl
@[simp] theorem State.setChannel_stg : (s.setChannel c h).stg = s.stg := rfl
@[simp] theorem State.setChannel_sea : (s.setChannel c h).sea = s.sea := rfl
@[simp] theorem State.setChannel_sec : (s.setChannel c h).sec = s.sec := rfl
@[simp] theorem State.setChannel_inbox : (s.setChannel c h).inbox = s.inbox := rfl
@[simp] theorem State.setChannel_con : (s.setChannel c h).con = s.con := rfl
@[simp] theorem State.setChannel_mbx : (s.setChannel c h).mbx = s.mbx := rfl
@[simp] theorem State.setChannel_pls : (s.setChannel c h).pls = s.pls := rfl
@[simp] theorem State.setChannel_rad : (s.setChannel c h).rad = s.rad := rfl
@[simp] theorem State.setChannel_lop : (s.setChannel c h).lop = s.lop := rfl
@[simp] theorem State.setChannel_loc : (s.setChannel c h).loc = s.loc := rfl
@[simp] theorem State.setChannel_umb : (s.setChannel c h).umb = s.umb := rfl
@[simp] theorem State.setChannel_hst : (s.setChannel c h).hst = s.hst := rfl
@[simp] theorem State.setChannel_rd (a : Nat) : (s.setChannel c h).rd a = s.rd a := rfl
@[simp] theorem State.setChannel_get (f : Fd) : (s.setChannel c h).get f = s.get f := rfl
@[simp] theorem State.setChannel_on (f : Fd) : (s.setChannel c h).on f = s.on f := rfl
@[simp] theorem State.setChannel_getI (f : Fd) : (s.setChannel c h).getI f = s.getI f := rfl
end

/-! ### setConvQueue -/

section
variable (s : State) (q : Nat) (xs : List ConvResult)
@[simp] theorem State.setConvQueue_convQueue (j : Nat) : (s.setConvQueue q xs).convQueue j = if j = q then xs else s.convQueue j := Sparse.get_set _ _ _ _ _
@[simp] theorem State.setConvQueue_pending : (s.setConvQueue q xs).pending = s.pending := rfl
@[simp] theorem State.setConvQueue_regs : (s.setConvQueue q xs).regs = s.regs := rfl
@[simp] theorem State.setConvQueue_calico : (s.setConvQueue q xs).calico = s.calico := rfl
@[simp] theorem State.setConvQueue_vault : (s.setConvQueue q xs).vault = s.vault := rfl
@[simp] theorem State.setConvQueue_free : (s.setConvQueue q xs).free = s.free := rfl
@[simp] theorem State.setConvQueue_mode : (s.setConvQueue q xs).mode = s.mode := rfl
@[simp] theorem State.setConvQueue_time : (s.setConvQueue q xs).time = s.time := rfl
@[simp] theorem State.setConvQueue_fab : (s.setConvQueue q xs).fab = s.fab := rfl
@[simp] theorem State.setConvQueue_evt : (s.setConvQueue q xs).evt = s.evt := rfl
@[simp] theorem State.setConvQueue_pins : (s.setConvQueue q xs).pins = s.pins := rfl
@[simp] theorem State.setConvQueue_bypass : (s.setConvQueue q xs).bypass = s.bypass := rfl
@[simp] theorem State.setConvQueue_pwr : (s.setConvQueue q xs).pwr = s.pwr := rfl
@[simp] theorem State.setConvQueue_clk : (s.setConvQueue q xs).clk = s.clk := rfl
@[simp] theorem State.setConvQueue_boot : (s.setConvQueue q xs).boot = s.boot := rfl
@[simp] theorem State.setConvQueue_sto : (s.setConvQueue q xs).sto = s.sto := rfl
@[simp] theorem State.setConvQueue_fir : (s.setConvQueue q xs).fir = s.fir := rfl
@[simp] theorem State.setConvQueue_arv : (s.setConvQueue q xs).arv = s.arv := rfl
@[simp] theorem State.setConvQueue_bil : (s.setConvQueue q xs).bil = s.bil := rfl
@[simp] theorem State.setConvQueue_stg : (s.setConvQueue q xs).stg = s.stg := rfl
@[simp] theorem State.setConvQueue_sea : (s.setConvQueue q xs).sea = s.sea := rfl
@[simp] theorem State.setConvQueue_sec : (s.setConvQueue q xs).sec = s.sec := rfl
@[simp] theorem State.setConvQueue_inbox : (s.setConvQueue q xs).inbox = s.inbox := rfl
@[simp] theorem State.setConvQueue_con : (s.setConvQueue q xs).con = s.con := rfl
@[simp] theorem State.setConvQueue_mbx : (s.setConvQueue q xs).mbx = s.mbx := rfl
@[simp] theorem State.setConvQueue_pls : (s.setConvQueue q xs).pls = s.pls := rfl
@[simp] theorem State.setConvQueue_rad : (s.setConvQueue q xs).rad = s.rad := rfl
@[simp] theorem State.setConvQueue_lop : (s.setConvQueue q xs).lop = s.lop := rfl
@[simp] theorem State.setConvQueue_loc : (s.setConvQueue q xs).loc = s.loc := rfl
@[simp] theorem State.setConvQueue_umb : (s.setConvQueue q xs).umb = s.umb := rfl
@[simp] theorem State.setConvQueue_hst : (s.setConvQueue q xs).hst = s.hst := rfl
@[simp] theorem State.setConvQueue_rd (a : Nat) : (s.setConvQueue q xs).rd a = s.rd a := rfl
@[simp] theorem State.setConvQueue_get (f : Fd) : (s.setConvQueue q xs).get f = s.get f := rfl
@[simp] theorem State.setConvQueue_on (f : Fd) : (s.setConvQueue q xs).on f = s.on f := rfl
@[simp] theorem State.setConvQueue_getI (f : Fd) : (s.setConvQueue q xs).getI f = s.getI f := rfl
end

/-! ### setWin -/

section
variable (s : State) (n : Nat) (w : HostWindow)
@[simp] theorem State.setWin_win (j : Nat) : (s.setWin n w).win j = if j = n then w else s.win j := Sparse.get_set _ _ _ _ _
@[simp] theorem State.setWin_pending : (s.setWin n w).pending = s.pending := rfl
@[simp] theorem State.setWin_regs : (s.setWin n w).regs = s.regs := rfl
@[simp] theorem State.setWin_calico : (s.setWin n w).calico = s.calico := rfl
@[simp] theorem State.setWin_vault : (s.setWin n w).vault = s.vault := rfl
@[simp] theorem State.setWin_free : (s.setWin n w).free = s.free := rfl
@[simp] theorem State.setWin_mode : (s.setWin n w).mode = s.mode := rfl
@[simp] theorem State.setWin_time : (s.setWin n w).time = s.time := rfl
@[simp] theorem State.setWin_fab : (s.setWin n w).fab = s.fab := rfl
@[simp] theorem State.setWin_evt : (s.setWin n w).evt = s.evt := rfl
@[simp] theorem State.setWin_pins : (s.setWin n w).pins = s.pins := rfl
@[simp] theorem State.setWin_bypass : (s.setWin n w).bypass = s.bypass := rfl
@[simp] theorem State.setWin_pwr : (s.setWin n w).pwr = s.pwr := rfl
@[simp] theorem State.setWin_clk : (s.setWin n w).clk = s.clk := rfl
@[simp] theorem State.setWin_boot : (s.setWin n w).boot = s.boot := rfl
@[simp] theorem State.setWin_sto : (s.setWin n w).sto = s.sto := rfl
@[simp] theorem State.setWin_fir : (s.setWin n w).fir = s.fir := rfl
@[simp] theorem State.setWin_arv : (s.setWin n w).arv = s.arv := rfl
@[simp] theorem State.setWin_flo : (s.setWin n w).flo = s.flo := rfl
@[simp] theorem State.setWin_bil : (s.setWin n w).bil = s.bil := rfl
@[simp] theorem State.setWin_stg : (s.setWin n w).stg = s.stg := rfl
@[simp] theorem State.setWin_sea : (s.setWin n w).sea = s.sea := rfl
@[simp] theorem State.setWin_sec : (s.setWin n w).sec = s.sec := rfl
@[simp] theorem State.setWin_inbox : (s.setWin n w).inbox = s.inbox := rfl
@[simp] theorem State.setWin_con : (s.setWin n w).con = s.con := rfl
@[simp] theorem State.setWin_mbx : (s.setWin n w).mbx = s.mbx := rfl
@[simp] theorem State.setWin_pls : (s.setWin n w).pls = s.pls := rfl
@[simp] theorem State.setWin_rad : (s.setWin n w).rad = s.rad := rfl
@[simp] theorem State.setWin_lop : (s.setWin n w).lop = s.lop := rfl
@[simp] theorem State.setWin_loc : (s.setWin n w).loc = s.loc := rfl
@[simp] theorem State.setWin_umb : (s.setWin n w).umb = s.umb := rfl
@[simp] theorem State.setWin_rd (a : Nat) : (s.setWin n w).rd a = s.rd a := rfl
@[simp] theorem State.setWin_get (f : Fd) : (s.setWin n w).get f = s.get f := rfl
@[simp] theorem State.setWin_on (f : Fd) : (s.setWin n w).on f = s.on f := rfl
@[simp] theorem State.setWin_getI (f : Fd) : (s.setWin n w).getI f = s.getI f := rfl
end

/-! ### setPulseOut -/

section
variable (s : State) (n : Nat) (p : PulseOut)
@[simp] theorem State.setPulseOut_pulseOut (j : Nat) : (s.setPulseOut n p).pulseOut j = if j = n then p else s.pulseOut j := Sparse.get_set _ _ _ _ _
@[simp] theorem State.setPulseOut_pending : (s.setPulseOut n p).pending = s.pending := rfl
@[simp] theorem State.setPulseOut_regs : (s.setPulseOut n p).regs = s.regs := rfl
@[simp] theorem State.setPulseOut_calico : (s.setPulseOut n p).calico = s.calico := rfl
@[simp] theorem State.setPulseOut_vault : (s.setPulseOut n p).vault = s.vault := rfl
@[simp] theorem State.setPulseOut_free : (s.setPulseOut n p).free = s.free := rfl
@[simp] theorem State.setPulseOut_mode : (s.setPulseOut n p).mode = s.mode := rfl
@[simp] theorem State.setPulseOut_time : (s.setPulseOut n p).time = s.time := rfl
@[simp] theorem State.setPulseOut_fab : (s.setPulseOut n p).fab = s.fab := rfl
@[simp] theorem State.setPulseOut_evt : (s.setPulseOut n p).evt = s.evt := rfl
@[simp] theorem State.setPulseOut_pins : (s.setPulseOut n p).pins = s.pins := rfl
@[simp] theorem State.setPulseOut_bypass : (s.setPulseOut n p).bypass = s.bypass := rfl
@[simp] theorem State.setPulseOut_pwr : (s.setPulseOut n p).pwr = s.pwr := rfl
@[simp] theorem State.setPulseOut_clk : (s.setPulseOut n p).clk = s.clk := rfl
@[simp] theorem State.setPulseOut_boot : (s.setPulseOut n p).boot = s.boot := rfl
@[simp] theorem State.setPulseOut_sto : (s.setPulseOut n p).sto = s.sto := rfl
@[simp] theorem State.setPulseOut_fir : (s.setPulseOut n p).fir = s.fir := rfl
@[simp] theorem State.setPulseOut_arv : (s.setPulseOut n p).arv = s.arv := rfl
@[simp] theorem State.setPulseOut_flo : (s.setPulseOut n p).flo = s.flo := rfl
@[simp] theorem State.setPulseOut_bil : (s.setPulseOut n p).bil = s.bil := rfl
@[simp] theorem State.setPulseOut_stg : (s.setPulseOut n p).stg = s.stg := rfl
@[simp] theorem State.setPulseOut_sea : (s.setPulseOut n p).sea = s.sea := rfl
@[simp] theorem State.setPulseOut_sec : (s.setPulseOut n p).sec = s.sec := rfl
@[simp] theorem State.setPulseOut_inbox : (s.setPulseOut n p).inbox = s.inbox := rfl
@[simp] theorem State.setPulseOut_con : (s.setPulseOut n p).con = s.con := rfl
@[simp] theorem State.setPulseOut_mbx : (s.setPulseOut n p).mbx = s.mbx := rfl
@[simp] theorem State.setPulseOut_pls : (s.setPulseOut n p).pls = s.pls := rfl
@[simp] theorem State.setPulseOut_rad : (s.setPulseOut n p).rad = s.rad := rfl
@[simp] theorem State.setPulseOut_lop : (s.setPulseOut n p).lop = s.lop := rfl
@[simp] theorem State.setPulseOut_umb : (s.setPulseOut n p).umb = s.umb := rfl
@[simp] theorem State.setPulseOut_hst : (s.setPulseOut n p).hst = s.hst := rfl
@[simp] theorem State.setPulseOut_rd (a : Nat) : (s.setPulseOut n p).rd a = s.rd a := rfl
@[simp] theorem State.setPulseOut_get (f : Fd) : (s.setPulseOut n p).get f = s.get f := rfl
@[simp] theorem State.setPulseOut_on (f : Fd) : (s.setPulseOut n p).on f = s.on f := rfl
@[simp] theorem State.setPulseOut_getI (f : Fd) : (s.setPulseOut n p).getI f = s.getI f := rfl
end

/-! ### setStation -/

section
variable (s : State) (k : Nat) (x : LoopStation)
@[simp] theorem State.setStation_station (j : Nat) : (s.setStation k x).station j = if j = k then x else s.station j := Sparse.get_set _ _ _ _ _
@[simp] theorem State.setStation_pending : (s.setStation k x).pending = s.pending := rfl
@[simp] theorem State.setStation_regs : (s.setStation k x).regs = s.regs := rfl
@[simp] theorem State.setStation_calico : (s.setStation k x).calico = s.calico := rfl
@[simp] theorem State.setStation_vault : (s.setStation k x).vault = s.vault := rfl
@[simp] theorem State.setStation_free : (s.setStation k x).free = s.free := rfl
@[simp] theorem State.setStation_mode : (s.setStation k x).mode = s.mode := rfl
@[simp] theorem State.setStation_time : (s.setStation k x).time = s.time := rfl
@[simp] theorem State.setStation_fab : (s.setStation k x).fab = s.fab := rfl
@[simp] theorem State.setStation_evt : (s.setStation k x).evt = s.evt := rfl
@[simp] theorem State.setStation_pins : (s.setStation k x).pins = s.pins := rfl
@[simp] theorem State.setStation_bypass : (s.setStation k x).bypass = s.bypass := rfl
@[simp] theorem State.setStation_pwr : (s.setStation k x).pwr = s.pwr := rfl
@[simp] theorem State.setStation_clk : (s.setStation k x).clk = s.clk := rfl
@[simp] theorem State.setStation_boot : (s.setStation k x).boot = s.boot := rfl
@[simp] theorem State.setStation_sto : (s.setStation k x).sto = s.sto := rfl
@[simp] theorem State.setStation_fir : (s.setStation k x).fir = s.fir := rfl
@[simp] theorem State.setStation_arv : (s.setStation k x).arv = s.arv := rfl
@[simp] theorem State.setStation_flo : (s.setStation k x).flo = s.flo := rfl
@[simp] theorem State.setStation_bil : (s.setStation k x).bil = s.bil := rfl
@[simp] theorem State.setStation_stg : (s.setStation k x).stg = s.stg := rfl
@[simp] theorem State.setStation_sea : (s.setStation k x).sea = s.sea := rfl
@[simp] theorem State.setStation_sec : (s.setStation k x).sec = s.sec := rfl
@[simp] theorem State.setStation_inbox : (s.setStation k x).inbox = s.inbox := rfl
@[simp] theorem State.setStation_con : (s.setStation k x).con = s.con := rfl
@[simp] theorem State.setStation_mbx : (s.setStation k x).mbx = s.mbx := rfl
@[simp] theorem State.setStation_pls : (s.setStation k x).pls = s.pls := rfl
@[simp] theorem State.setStation_rad : (s.setStation k x).rad = s.rad := rfl
@[simp] theorem State.setStation_loc : (s.setStation k x).loc = s.loc := rfl
@[simp] theorem State.setStation_umb : (s.setStation k x).umb = s.umb := rfl
@[simp] theorem State.setStation_hst : (s.setStation k x).hst = s.hst := rfl
@[simp] theorem State.setStation_rd (a : Nat) : (s.setStation k x).rd a = s.rd a := rfl
@[simp] theorem State.setStation_get (f : Fd) : (s.setStation k x).get f = s.get f := rfl
@[simp] theorem State.setStation_on (f : Fd) : (s.setStation k x).on f = s.on f := rfl
@[simp] theorem State.setStation_getI (f : Fd) : (s.setStation k x).getI f = s.getI f := rfl
end

/-! ### setPlsNbr -/

section
variable (s : State) (n : Nat) (x : PlsNbr)
@[simp] theorem State.setPlsNbr_plsNbr (j : Nat) : (s.setPlsNbr n x).plsNbr j = if j = n then x else s.plsNbr j := Sparse.get_set _ _ _ _ _
@[simp] theorem State.setPlsNbr_pending : (s.setPlsNbr n x).pending = s.pending := rfl
@[simp] theorem State.setPlsNbr_regs : (s.setPlsNbr n x).regs = s.regs := rfl
@[simp] theorem State.setPlsNbr_calico : (s.setPlsNbr n x).calico = s.calico := rfl
@[simp] theorem State.setPlsNbr_vault : (s.setPlsNbr n x).vault = s.vault := rfl
@[simp] theorem State.setPlsNbr_free : (s.setPlsNbr n x).free = s.free := rfl
@[simp] theorem State.setPlsNbr_mode : (s.setPlsNbr n x).mode = s.mode := rfl
@[simp] theorem State.setPlsNbr_time : (s.setPlsNbr n x).time = s.time := rfl
@[simp] theorem State.setPlsNbr_fab : (s.setPlsNbr n x).fab = s.fab := rfl
@[simp] theorem State.setPlsNbr_evt : (s.setPlsNbr n x).evt = s.evt := rfl
@[simp] theorem State.setPlsNbr_pins : (s.setPlsNbr n x).pins = s.pins := rfl
@[simp] theorem State.setPlsNbr_bypass : (s.setPlsNbr n x).bypass = s.bypass := rfl
@[simp] theorem State.setPlsNbr_pwr : (s.setPlsNbr n x).pwr = s.pwr := rfl
@[simp] theorem State.setPlsNbr_clk : (s.setPlsNbr n x).clk = s.clk := rfl
@[simp] theorem State.setPlsNbr_boot : (s.setPlsNbr n x).boot = s.boot := rfl
@[simp] theorem State.setPlsNbr_sto : (s.setPlsNbr n x).sto = s.sto := rfl
@[simp] theorem State.setPlsNbr_fir : (s.setPlsNbr n x).fir = s.fir := rfl
@[simp] theorem State.setPlsNbr_arv : (s.setPlsNbr n x).arv = s.arv := rfl
@[simp] theorem State.setPlsNbr_flo : (s.setPlsNbr n x).flo = s.flo := rfl
@[simp] theorem State.setPlsNbr_bil : (s.setPlsNbr n x).bil = s.bil := rfl
@[simp] theorem State.setPlsNbr_stg : (s.setPlsNbr n x).stg = s.stg := rfl
@[simp] theorem State.setPlsNbr_sea : (s.setPlsNbr n x).sea = s.sea := rfl
@[simp] theorem State.setPlsNbr_sec : (s.setPlsNbr n x).sec = s.sec := rfl
@[simp] theorem State.setPlsNbr_inbox : (s.setPlsNbr n x).inbox = s.inbox := rfl
@[simp] theorem State.setPlsNbr_con : (s.setPlsNbr n x).con = s.con := rfl
@[simp] theorem State.setPlsNbr_mbx : (s.setPlsNbr n x).mbx = s.mbx := rfl
@[simp] theorem State.setPlsNbr_rad : (s.setPlsNbr n x).rad = s.rad := rfl
@[simp] theorem State.setPlsNbr_lop : (s.setPlsNbr n x).lop = s.lop := rfl
@[simp] theorem State.setPlsNbr_loc : (s.setPlsNbr n x).loc = s.loc := rfl
@[simp] theorem State.setPlsNbr_umb : (s.setPlsNbr n x).umb = s.umb := rfl
@[simp] theorem State.setPlsNbr_hst : (s.setPlsNbr n x).hst = s.hst := rfl
@[simp] theorem State.setPlsNbr_rd (a : Nat) : (s.setPlsNbr n x).rd a = s.rd a := rfl
@[simp] theorem State.setPlsNbr_get (f : Fd) : (s.setPlsNbr n x).get f = s.get f := rfl
@[simp] theorem State.setPlsNbr_on (f : Fd) : (s.setPlsNbr n x).on f = s.on f := rfl
@[simp] theorem State.setPlsNbr_getI (f : Fd) : (s.setPlsNbr n x).getI f = s.getI f := rfl
end

/-! ### setBill -/

section
variable (s : State) (i : Nat) (b : BillPoint)
@[simp] theorem State.setBill_bill (j : Nat) : (s.setBill i b).bill j = if j = i then b else s.bill j := Sparse.get_set _ _ _ _ _
@[simp] theorem State.setBill_pending : (s.setBill i b).pending = s.pending := rfl
@[simp] theorem State.setBill_regs : (s.setBill i b).regs = s.regs := rfl
@[simp] theorem State.setBill_calico : (s.setBill i b).calico = s.calico := rfl
@[simp] theorem State.setBill_vault : (s.setBill i b).vault = s.vault := rfl
@[simp] theorem State.setBill_free : (s.setBill i b).free = s.free := rfl
@[simp] theorem State.setBill_mode : (s.setBill i b).mode = s.mode := rfl
@[simp] theorem State.setBill_time : (s.setBill i b).time = s.time := rfl
@[simp] theorem State.setBill_fab : (s.setBill i b).fab = s.fab := rfl
@[simp] theorem State.setBill_evt : (s.setBill i b).evt = s.evt := rfl
@[simp] theorem State.setBill_pins : (s.setBill i b).pins = s.pins := rfl
@[simp] theorem State.setBill_bypass : (s.setBill i b).bypass = s.bypass := rfl
@[simp] theorem State.setBill_pwr : (s.setBill i b).pwr = s.pwr := rfl
@[simp] theorem State.setBill_clk : (s.setBill i b).clk = s.clk := rfl
@[simp] theorem State.setBill_boot : (s.setBill i b).boot = s.boot := rfl
@[simp] theorem State.setBill_sto : (s.setBill i b).sto = s.sto := rfl
@[simp] theorem State.setBill_fir : (s.setBill i b).fir = s.fir := rfl
@[simp] theorem State.setBill_arv : (s.setBill i b).arv = s.arv := rfl
@[simp] theorem State.setBill_flo : (s.setBill i b).flo = s.flo := rfl
@[simp] theorem State.setBill_stg : (s.setBill i b).stg = s.stg := rfl
@[simp] theorem State.setBill_sea : (s.setBill i b).sea = s.sea := rfl
@[simp] theorem State.setBill_sec : (s.setBill i b).sec = s.sec := rfl
@[simp] theorem State.setBill_inbox : (s.setBill i b).inbox = s.inbox := rfl
@[simp] theorem State.setBill_con : (s.setBill i b).con = s.con := rfl
@[simp] theorem State.setBill_mbx : (s.setBill i b).mbx = s.mbx := rfl
@[simp] theorem State.setBill_pls : (s.setBill i b).pls = s.pls := rfl
@[simp] theorem State.setBill_rad : (s.setBill i b).rad = s.rad := rfl
@[simp] theorem State.setBill_lop : (s.setBill i b).lop = s.lop := rfl
@[simp] theorem State.setBill_loc : (s.setBill i b).loc = s.loc := rfl
@[simp] theorem State.setBill_umb : (s.setBill i b).umb = s.umb := rfl
@[simp] theorem State.setBill_hst : (s.setBill i b).hst = s.hst := rfl
@[simp] theorem State.setBill_rd (a : Nat) : (s.setBill i b).rd a = s.rd a := rfl
@[simp] theorem State.setBill_get (f : Fd) : (s.setBill i b).get f = s.get f := rfl
@[simp] theorem State.setBill_on (f : Fd) : (s.setBill i b).on f = s.on f := rfl
@[simp] theorem State.setBill_getI (f : Fd) : (s.setBill i b).getI f = s.getI f := rfl
end

/-! ### setPathHistory: one entry for each path and direction -/

section
variable (s : State) (p : Nat) (rev : Bool) (h : PathHistory)
@[simp] theorem State.setPathHistory_pathHistory (q : Nat) (r : Bool) :
    (s.setPathHistory p rev h).pathHistory q r = if q = p ∧ r = rev then h else s.pathHistory q r := by
  unfold State.setPathHistory State.pathHistory
  rw [Sparse.get_set]
  have : (2 * q + r.toNat = 2 * p + rev.toNat) ↔ (q = p ∧ r = rev) := by cases r <;> cases rev <;> simp <;> omega
  simp only [this]
@[simp] theorem State.setPathHistory_pending : (s.setPathHistory p rev h).pending = s.pending := rfl
@[simp] theorem State.setPathHistory_regs : (s.setPathHistory p rev h).regs = s.regs := rfl
@[simp] theorem State.setPathHistory_calico : (s.setPathHistory p rev h).calico = s.calico := rfl
@[simp] theorem State.setPathHistory_vault : (s.setPathHistory p rev h).vault = s.vault := rfl
@[simp] theorem State.setPathHistory_free : (s.setPathHistory p rev h).free = s.free := rfl
@[simp] theorem State.setPathHistory_mode : (s.setPathHistory p rev h).mode = s.mode := rfl
@[simp] theorem State.setPathHistory_time : (s.setPathHistory p rev h).time = s.time := rfl
@[simp] theorem State.setPathHistory_fab : (s.setPathHistory p rev h).fab = s.fab := rfl
@[simp] theorem State.setPathHistory_evt : (s.setPathHistory p rev h).evt = s.evt := rfl
@[simp] theorem State.setPathHistory_pins : (s.setPathHistory p rev h).pins = s.pins := rfl
@[simp] theorem State.setPathHistory_bypass : (s.setPathHistory p rev h).bypass = s.bypass := rfl
@[simp] theorem State.setPathHistory_pwr : (s.setPathHistory p rev h).pwr = s.pwr := rfl
@[simp] theorem State.setPathHistory_clk : (s.setPathHistory p rev h).clk = s.clk := rfl
@[simp] theorem State.setPathHistory_boot : (s.setPathHistory p rev h).boot = s.boot := rfl
@[simp] theorem State.setPathHistory_sto : (s.setPathHistory p rev h).sto = s.sto := rfl
@[simp] theorem State.setPathHistory_fir : (s.setPathHistory p rev h).fir = s.fir := rfl
@[simp] theorem State.setPathHistory_flo : (s.setPathHistory p rev h).flo = s.flo := rfl
@[simp] theorem State.setPathHistory_bil : (s.setPathHistory p rev h).bil = s.bil := rfl
@[simp] theorem State.setPathHistory_stg : (s.setPathHistory p rev h).stg = s.stg := rfl
@[simp] theorem State.setPathHistory_sea : (s.setPathHistory p rev h).sea = s.sea := rfl
@[simp] theorem State.setPathHistory_sec : (s.setPathHistory p rev h).sec = s.sec := rfl
@[simp] theorem State.setPathHistory_inbox : (s.setPathHistory p rev h).inbox = s.inbox := rfl
@[simp] theorem State.setPathHistory_con : (s.setPathHistory p rev h).con = s.con := rfl
@[simp] theorem State.setPathHistory_mbx : (s.setPathHistory p rev h).mbx = s.mbx := rfl
@[simp] theorem State.setPathHistory_pls : (s.setPathHistory p rev h).pls = s.pls := rfl
@[simp] theorem State.setPathHistory_rad : (s.setPathHistory p rev h).rad = s.rad := rfl
@[simp] theorem State.setPathHistory_lop : (s.setPathHistory p rev h).lop = s.lop := rfl
@[simp] theorem State.setPathHistory_loc : (s.setPathHistory p rev h).loc = s.loc := rfl
@[simp] theorem State.setPathHistory_umb : (s.setPathHistory p rev h).umb = s.umb := rfl
@[simp] theorem State.setPathHistory_hst : (s.setPathHistory p rev h).hst = s.hst := rfl
end

end Sys2Proof.Machine
end

