-- ==== Sys2Proof/Machine/Pins.lean ====
section
/-! DEFINITION. What the balls show, derived from the state (Table BAL-5, R67): the transducer ports and the front ends, the power-line and radio
outputs, the loop line with its coding (R510, R512), the display, the optical and pulse outputs. -/

namespace Sys2Proof.Machine

/-- VIO_L is below power-good: the balls of its group are unpowered (R67, R81). -/
def State.vioLBad (s : State) : Bool := !s.on PWR_STAT.VIOLOK

/-- The chip is in Run, neither frozen nor shedding load, with RESET_N high. -/
def State.runsNow (s : State) : Bool := s.mode == .run && !s.umb.frozen && !s.shed && !s.pins.resetLow

/-! ### The front ends -/

/-- Port TPnn is clamped to its guard: at every time that it takes no part in a shot (R228, Table BAL-5). -/
def State.portClamped (s : State) (n : Nat) : Bool := !s.runsNow || s.port n == .clamped

/-- The guard TGnn is at VSS, through at most the given number of ohms (R228, Table BAL-5). -/
def State.guardOhms (s : State) (_n : Nat) : Nat := if s.runsNow then 2 else 100

/-- The excitation of a conversion group's RTDs, or of the bridge (group 4), is on. -/
def State.excited (s : State) (g : Nat) : Bool := s.runsNow && s.groupConverts g

/-! ### The power line and the radio -/

/-- PZD1 to PZD3 in the latest half-cycle: when each rises and falls, in µs from the predicted crossing; without a pulse it is low (R425, R427). -/
def State.pzd (s : State) (phase : Nat) : Option (Int × Int) :=
  if !s.runsNow || s.vioLBad || !s.netRunning then none
  else match s.pls.pulse, s.pls.train with
    | some (k, phases), some t => if phases.contains phase then some (pulseEdges (phyPw t.phy) k) else none
    | _, _ => none

/-- The transmitter drives RFIO. -/
def State.rfOn (s : State) : Bool := s.runsNow && s.radioSending

/-! ### The loop line (R510, R512) -/

/-- A bit cell as two half-bits, high or low: a 0 is high then low, a 1 low then high. -/
def halfBits (bit : Bool) : List Bool := [!bit, bit]

/-- A byte on the line, least significant bit first. -/
def byteHalfBits (b : Byte) : List Bool := (List.range 8).flatMap (fun k => halfBits (b.getLsbD k))

/-- What stands ahead of the frame bytes: the preamble and the start word. -/
def loopLead : List Byte := [0x55, 0x55, 0x55, 0x55, 0xD3, 0x91]

/-- The abort sequence: four half-bits positive, four negative. -/
def abortHalfBits : List Bool := List.replicate 4 true ++ List.replicate 4 false

/-- A frame on LO as half-bits of 125 ns; one that was cut ends with the abort sequence instead of two bits of 1. -/
def loopHalfBits (bytes : List Byte) (cut : Bool) : List Bool :=
  (loopLead ++ bytes).flatMap byteHalfBits ++ (if cut then abortHalfBits else halfBits true ++ halfBits true)

/-- The latest frame that left at LO; an idle line carries no transitions. -/
def State.loopOut (s : State) : List Bool :=
  if s.bypass.joined && !(s.lop.line.isEmpty && !s.lop.aborted) then loopHalfBits s.lop.line s.lop.aborted else []

/-! ### The local balls -/

/-- VLCD in mV (R587). -/
def State.vlcd (s : State) : Nat := 2600 + 160 * s.get LOC_LCD.VLCD

/-- OPT_TX may carry LED current: a message is being sent in Run with VIO_L good (Table BAL-5, R81). -/
def State.optLed (s : State) : Bool := s.runsNow && !s.vioLBad && s.loc.opt.stage == .sending

/-- AUX_TX floats: outside Run, and where the auxiliary serial balls are disabled (Tables BAL-5 and BAL-10). -/
def State.auxFloats (s : State) : Bool := !s.runsNow || s.vioLBad || s.on SYS_PINCFG.AUXDIS

/-- The chip pulls WAIT_N low (R177, Table BAL-5); State.irqLow says the same of IRQn_N. -/
def State.waitPin (s : State) : Bool := s.runsNow && !s.pins.vioHBad && s.pins.waitLow

end Sys2Proof.Machine
end

