-- ==== Sys2Proof/Tests/Slice0.lean ====
section
/-! SUPPORT. The model's own tests: the worked examples of the spec, a witness for the hypotheses of every clause of the statements, and
well-formedness. -/

namespace Sys2Proof.Tests

set_option linter.all false
set_option Elab.async false

open Sys2Proof.Machine

/-- ready in Run -/
def ready (xs : List (Fd × Nat)) : State :=
  xs.foldl (fun s x => s.put x.1 x.2) { State.reset with boot := { State.reset.boot with steps := 1022, firstStart := false, legalLoaded := true }, pins := { State.reset.pins with dRole := .parallel } }
def hub (xs : List (Fd × Nat)) : State := ready ([(SEC_CFG.REQUIRE, 0), (CLK_STAT.HFXOOK, 1), (CLK_STAT.SPLLOK, 1), (CLK_STAT.LFXOOK,1), (CLK_STAT.LPOOK,1), (CLK_STAT.EPLLOK, 15), (PWR_STAT.VIOLOK,1), (PWR_STAT.HOLDOK, 1), (PWR_STAT.VIOHOK,1)] ++ xs)
def pod (xs : List (Fd × Nat)) : State := hub ([(SYS_STRAP.PROFILE, 1), (CLK_STAT.EPLLOK, 1)] ++ xs)
def anEpoch (cfg : List (Nat × Word)) (events : List FireEvent) : Epoch :=
  { id := 5, startRtc := 4096, startCyc := 0, eplog := 4, ver := 7, cfg := cfg, events := events, engines := List.replicate 4 ⟨0, 0, 0, 0⟩, first := false,
    span := 0, notBefore := 0, stopped := false, len := 0, endRtc := 0, endRun := 0, converted := [], inputs := 0, pairs := [], values := [],
    cut := false, results := [], flows := [], refused := false }
def capOf (a : Nat) : Capture := ⟨[1, BitVec.ofNat 12 a, 3], [31250]⟩
def goodCap : Capture := ⟨[1, 1000, 3], [31250]⟩
def fr (bytes : List Byte) (next : Nat) : OutFrame := ⟨bytes, bytes, none, next, false, false, 0, false, .plain⟩
def frA (bytes : List Byte) (next : Nat) : OutFrame := { fr bytes next with ackreq := true }
def rf (id : Nat) (f : OutFrame) : RadFrame := ⟨id, f, false, false, false, false, 5, 6, 1000, none, none, false, false, 3, 0⟩
def plsHub (xs : List (Fd × Nat)) : State := hub ([(SEC_CFG.REQUIRE, 0), (PLS_CFG.EN, 1), (CLK_ZC.LOCK 0, 1), (PLS_CFG.NETID, 77), (PLS_ADDR.ADDR, 7), (PLS_NBR_A.ADDR 0, 9)] ++ xs)
def trOf (fs : List OutFrame) (st : TrainStage) (left : Nat) : Train := ⟨fs, 9, 1, 0, [0, 1, 2, 3], 0, false, st, left, resetWord PLS_PHY.addr⟩
def plsBytes : List Byte := withCrc (((plsHub [(PLS_ADDR.ADDR, 9)]).plsPlain 0 0 false true 7 7 [] [3, 0, 0, 0, 0, 0]).set 1 31 |> plsHcs)
def plsRx (n : Nat) : TrainRx := ⟨1, 0, List.replicate n none, 0, 0, 0, false, 0, none, 0, resetWord PLS_PHY.addr⟩
def radHub (xs : List (Fd × Nat)) : State :=
  { hub ([(RAD_CFG.EN, 1), (RAD_CFG.NETID, 77), (RAD_ADDR.ADDR, 7), (MSH_NBR_A.ADDR 0, 9)] ++ xs) with time := { State.reset.time with runCyc := 1000000 } }
def gzBytes (ack : Bool) : List Byte := withCrc ([BitVec.ofNat 8 (8 * ack.toNat), 33] ++ leBytes 2 77 ++ leBytes 4 9 ++ leBytes 4 7 ++ leBytes 4 9 ++ leBytes 4 7 ++ leBytes 2 100 ++ leBytes 2 200 ++ [4] ++ [3, 0, 0, 0, 0, 0])
def ringSlave (xs : List (Fd × Nat)) : State := { hub ([(LOP_CFG.EN, 1), (LOP_CFG.NETID, 77), (LOP_ADDR.ADDR, 7), (LOP_STAT.STATION, 2), (LOP_STAT.RING, 1)] ++ xs) with bypass := ⟨true, false, true, 0, 3, none, false⟩ }
def ringMaster (xs : List (Fd × Nat)) : State :=
  { hub ([(LOP_CFG.EN, 1), (LOP_CFG.ROLE, 1), (LOP_CFG.NETID, 77), (LOP_ADDR.ADDR, 7), (LOP_STAT.RING, 1)] ++ xs) with
    bypass := ⟨true, false, true, 0, 0, none, false⟩, lop := { State.reset.lop with discover := false } }
def lopFrame (fc station rslot : Nat) (down rest : List Byte) : List Byte := withCrc ((ringSlave []).loopHeader fc station rslot down.length ++ down ++ rest)
def conHub (xs : List (Fd × Nat)) : State :=
  hub ([(CON_CFG.EN, 1), (CON_FWD.ORDER0, 0), (CON_FWD.ORDER1, 0), (CON_FWD.ORDER2, 0), (CON_FWD.ORDER3, 0), (CON_POD_ST.STATE 3, 1), (CON_POD_ADDR.ADDR 3, 77), (CON_POD_H.H 3, 9)] ++ xs)
def dl (src : Nat) (ty : Nat) (pod : Nat) (body : List Byte) : Delivery := ⟨1, src, conMessage ty false pod body, some 5, 12⟩
def conPod (xs : List (Fd × Nat)) : State := pod ([(CON_PCFG.EN, 1), (CON_PCFG.NRECS, 3)] ++ xs)
def lcd (xs : List (Fd × Nat)) : State := hub ([(SYS_STRAP.LCDEN, 1)] ++ xs)
def opt (st : OptStage) (xs : List (Fd × Nat)) : State :=
  { hub ([(LOC_OPT.EN, 1), (LOC_OPT.MODE, 1), (LOC_OPT.ZMAX, 5), (LOC_OSTAT.ACTIVE, 1), (LOC_OSTAT.BAUD, 3)] ++ xs) with loc := { State.reset.loc with opt := ⟨st, 0, []⟩ } }
def entry (src kind : Nat) : LogEntry := ⟨77, src, kind, 1, true, false, [1, 2]⟩
def w6 (h : List Byte) : List Byte := let m := [0x01, 0x57, 0x36, 0x02, 0x28] ++ h ++ [0x29, 0x03]; m ++ [bcc (m.drop 1)]

def sreset : State := State.reset

def allErased (ms : List (Option Nat)) : Prop := ms.getD 0 none = some 0 ∧ ∀ k, ms.getD k none = none ∨ ms.getD k none = some 0

theorem minOpt_zero {a b : Option Nat} (ha : a = none ∨ a = some 0) (hb : b = none ∨ b = some 0) : minOpt a b = none ∨ minOpt a b = some 0 := by
  rcases ha with rfl | rfl <;> rcases hb with rfl | rfl <;> simp [minOpt]

theorem map_zero {a : Option Nat} (ha : a = none ∨ a = some 0) : a.map (· + 0) = none ∨ a.map (· + 0) = some 0 := by
  rcases ha with rfl | rfl <;> simp

theorem getD_map_range (f : Nat → Option Nat) (n k : Nat) : ((List.range n).map f).getD k none = if k < n then f k else none := by
  rw [List.getD_eq_getElem?_getD, List.getElem?_map]
  by_cases h : k < n
  · rw [List.getElem?_range h]; simp [h]
  · rw [List.getElem?_eq_none (by simpa using h)]; simp [h]

theorem viterbi_erased (n : Nat) : allErased (viterbi (List.replicate n none)) := by
  unfold viterbi
  have hstart : allErased ((List.range 64).map (fun t => if t = 0 then some 0 else none)) := by
    refine ⟨rfl, fun k => ?_⟩
    rw [getD_map_range]
    split
    · split <;> simp
    · simp
  generalize (List.range 64).map (fun t => if t = 0 then some 0 else none) = ms at hstart
  induction n generalizing ms with
  | zero => exact hstart
  | succ n ih =>
    rw [List.replicate_succ, List.foldl_cons]
    refine ih _ ⟨?_, fun k => ?_⟩
    · rw [getD_map_range, if_pos (by decide)]
      have h0 := hstart.1
      have h1 := hstart.2 1
      show minOpt ((ms.getD 0 none).map (· + 0)) ((ms.getD 1 none).map (· + 0)) = some 0
      rw [h0]
      rcases h1 with h1 | h1 <;> rw [h1] <;> rfl
    · rw [getD_map_range]
      split
      · exact minOpt_zero (map_zero (hstart.2 _)) (map_zero (hstart.2 _))
      · exact .inl rfl

theorem zip_erased (n : Nat) (xs : List Nat) : (List.zipWith obsDistance (List.replicate n none) xs).foldl (· + ·) 0 = 0 := by
  induction n generalizing xs with
  | zero => rfl
  | succ n ih => cases xs with
    | nil => rfl
    | cons x xs => exact ih xs

/-- Where every symbol is erased, every content is a most likely one (R441). -/
theorem decodes_erased (n : Nat) (bytes : List Byte) : decodes (List.replicate n none) bytes = true := by
  unfold decodes
  rw [(viterbi_erased n).1, zip_erased]; rfl

theorem plsBytes_arrived : { plsHub [(PLS_STAT.RXACT,1)] with pls.rx := some (plsRx 254) }.plsArrived (plsRx 254) plsBytes := by
  unfold State.plsArrived
  refine ⟨rfl, by decide +kernel, by decide +kernel, by decide +kernel, by decide +kernel, by decide +kernel, by decide +kernel, ?_⟩
  have h : (List.range (8 * plsBytes.length + 6)).map (fun i => decidedSymbol (phyDetmin (plsRx 254).phy) (plsRx 254).line.reverse (plsRx 254).r (plsRx 254).span ((plsRx 254).symbols + i)) = List.replicate (8 * plsBytes.length + 6) none := by decide +kernel
  rw [h]; exact decodes_erased _ _

/-- a hub whose pod table is full, entry n holding pod 1000 + n -/
def fullTable : State :=
  let b := conHub [(CON_CFG.OPEN, 1)]
  let low := b.regs.takeWhile (fun x => decide (x.1 < CON_POD_ADDR.addr 0))
  let high := b.regs.dropWhile (fun x => decide (x.1 < CON_POD_ADDR.addr 250))
  { b with regs := low ++ (List.range 250).flatMap (fun n => [(CON_POD_ADDR.addr n, BitVec.ofNat 32 (1000 + n)), (CON_POD_ST.addr n, 0x40)]) ++ high,
           inbox := [dl 78 1 78 [1, 5, 0]] }
/-- a hub whose addresses are set and which forwards nothing: its live configuration breaks no rule of CHECK -/
def commissioned (xs : List (Fd × Nat)) : State :=
  hub ([(PLS_ADDR.ADDR, 7), (RAD_ADDR.ADDR, 7), (LOP_ADDR.ADDR, 7), (CON_FWD.ORDER0, 0), (CON_FWD.ORDER1, 0), (CON_FWD.ORDER2, 0), (CON_FWD.ORDER3, 0)] ++ xs)
def mb (path engine rx : Nat) (fwd rev : ShotStage) (armed : Bool) : Member := ⟨path, engine, rx, fwd, rev, armed, some 1, none⟩
/-- an event that fires 100 µs after the epoch's start and 200 µs after it, and is free at 300 µs -/
def fev (ms : List Member) (prepared : Bool) : FireEvent := ⟨ms, 100, 200, 300, prepared, false⟩
/-- an epoch with one event, `cyc` cycles after its start -/
def fireEp (ms : List Member) (prepared : Bool) : Epoch := anEpoch [] [fev ms prepared]
def fireHub (cyc : Nat) (ms : List Member) (prepared : Bool) : State :=
  { hub [(PWR_STAT.VDRVOK, 1), (CLK_STAT.TDCOK, 15)] with time := { State.reset.time with cyc := cyc }, fir := { State.reset.fir with cur := some (fireEp ms prepared) } }
/-- an epoch in its tail with one event, its paths measured by the first crossing -/
def tailEp (ms : List Member) : Epoch :=
  anEpoch (ready [(ARV_PATH_M.MODE 1, 0), (ARV_PATH_M.ZCSEL 1, 1), (ARV_PATH_M.ZCN 1, 1), (FIR_PATH_B.WLEN 1, 100)]).regs [fev ms true]
def tailHub (ms : List Member) (q : List Shot) : State :=
  { hub [] with fir := { State.reset.fir with tails := [tailEp ms], queues := [(3, q)] } }

/-- The start of a patch image of 65 words for core 1: its mark, its form, VERSION 1, and the version of the ROM it is for. -/
def patchHead (r : BitVec 32) : List Host.Cell :=
  [(524288, 0x31), (524289, 0x48), (524290, 0x43), (524291, 0x50), (524292, 1), (524293, 1), (524294, 65), (524296, 1),
   (524300, r.extractLsb' 0 8), (524301, r.extractLsb' 8 8), (524302, r.extractLsb' 16 8), (524303, r.extractLsb' 24 8)]
def patchHub (r : BitVec 32) : State :=
  { hub [] with sea := { State.reset.sea with installing := some 0x420000 }, calico := patchHead r, fab := { State.reset.fab with eccDouble := [131072 + 64] } }

theorem patchHub_header : (patchHub (Config.romVersion 1)).headerCode 0x420000 ((List.range 64).map ((patchHub (Config.romVersion 1)).imageWord 0x420000)) = 0 := by
  have h3 : ((List.range 64).map ((patchHub (Config.romVersion 1)).imageWord 0x420000)).getD 3 0 = Config.romVersion 1 := by
    generalize Config.romVersion 1 = r
    show r.extractLsb' 24 8 ++ r.extractLsb' 16 8 ++ r.extractLsb' 8 8 ++ r.extractLsb' 0 8 = r
    apply BitVec.eq_of_getLsbD_eq
    intro i hi
    simp only [BitVec.getLsbD_append, BitVec.getLsbD_extractLsb']
    rcases (show i < 8 ∨ (8 ≤ i ∧ i < 16) ∨ (16 ≤ i ∧ i < 24) ∨ 24 ≤ i by omega) with h | h | h | h
    · simp [h]
    · simp [show ¬ i < 8 by omega, show i - 8 < 8 by omega, show 8 + (i - 8) = i by omega]
    · simp [show ¬ i < 8 by omega, show ¬ i - 8 < 8 by omega, show i - 8 - 8 < 8 by omega, show 16 + (i - 8 - 8) = i by omega]
    · simp [show ¬ i < 8 by omega, show ¬ i - 8 < 8 by omega, show ¬ i - 8 - 8 < 8 by omega, show i - 8 - 8 - 8 < 8 by omega,
        show 24 + (i - 8 - 8 - 8) = i by omega]
  have hc : ((((List.range 64).map ((patchHub (Config.romVersion 1)).imageWord 0x420000)).getD 1 0).toNat % 256) = 1 := by decide +kernel
  unfold State.headerCode
  simp only [hc, h3]
  rw [if_neg (by decide +kernel), if_neg (by decide +kernel), if_neg (by decide), if_neg (by decide +kernel), if_neg (by simp), if_neg (by decide +kernel), if_neg (by decide +kernel)]

/-! ### The spec's worked examples -/

def after (o : Out) (f : State → Bool) : Bool := match o with
  | .next t => f t
  | _ => false

/-- Chapter 06, a serial read of H_ID: the CRC steps. -/
theorem test_serial_crc : crc8 [0x80] = 0x7A ∧ crc8 [0x80, 0x46] = 0xB4 ∧ crc8 [0x80, 0x46, 0x32] = 0x9B := by decide +kernel

def serial (xs : List (Fd × Nat)) : State :=
  { hub ((SYS_STRAP.HOSTMODE, 1) :: xs) with pins := { State.reset.pins with selArmed := true, dRole := .serial } }

/-- Chapter 06, a serial read of H_ID: 0x4632, LASTOK 1. -/
theorem test_serial_read : after (exec (.serialFrame 0x8046329B 32 0 false 0 true 0 0 0) (serial [(SYS_BOOT.PHASE, 9), (SYS_BOOT.READY, 1)]))
    (fun t => t.hst.data == 0x4632 && t.get H_SER_STAT.LASTOK == 1 && t.hostMirror 2 % 256 == 0x19) = true := by decide +kernel

/-- A frame whose CRC is wrong is counted and clears LASTOK. -/
theorem test_serial_bad : after (exec (.serialFrame 0x8046329A 32 0 false 0 true 0 0 0) (serial [(H_SER_STAT.LASTOK, 1)]))
    (fun t => t.get H_SER_STAT.LASTOK == 0 && t.get H_SER_STAT.CRCERR == 1) = true := by decide +kernel

/-- Chapter 04, riding over a disturbed crossing: P 10,000 µs, the crossing 16 µs late. -/
theorem test_crossing : after (exec (.zeroCrossing 0 192307) ((hub []).setTracker 0 ⟨192000, 0, some 0, 0, false, .locked⟩))
    (fun t => t.get (CLK_ZC.HALF 0) == 10001 && t.get (CLK_ZC.HOLD 0) == 0 && t.get (CLK_ZC.LOCK 0) == 1) = true := by decide +kernel

/-- The same: the second crossing, 425 µs late, is ignored. -/
theorem test_crossing_ignored : after (exec (.zeroCrossing 0 392256) ((hub []).setTracker 0 ⟨192019, 192077, some 192307, 0, false, .locked⟩))
    (fun t => t.get (CLK_ZC.HOLD 0) == 1 && t.get (CLK_ZC.IGNORED 0) == 1 && t.get (CLK_ZC.LOCK 0) == 1
      && t.evt.raises.any (fun r => r.src == Ev.ZC_IGNORED)) = true := by decide +kernel

/-- Chapter 07, a refused CHECK: RELATION at 0x04_0011, RANGE at 0x04_0051. -/
theorem test_check_conflicts : { commissioned [] with stg := { State.reset.stg with imm :=
    { StageSet.empty with entries := [(0x040011, 0x191E01), (0x040051, 0)] } } }.conflicts false false 0 = [(2, 0x040011), (1, 0x040051)] := by
  decide +kernel

def spool : State := hub ((List.range 8).flatMap (fun p => [(FIR_PATH_A.EN p, 1), (FIR_PATH_A.PORTA p, if p < 4 then 2 * p else 8 + 2 * p), (FIR_PATH_A.GROUP p, 1),
    (FIR_PATH_A.PAIRS p, 4), (FIR_PATH_B.WOPEN p, 500), (FIR_PATH_B.WLEN p, 400), (FIR_PATH_C.GAP p, 10), (FIR_PATH_C.GOLD p, 2 + p)])
  ++ [(FIR_PATH_A.EN 10, 1), (FIR_PATH_A.PORTA 10, 8), (FIR_PATH_A.PORTB 10, 9), (FIR_PATH_A.BURST 10, 1), (FIR_PATH_A.PAIRS 10, 4),
      (FIR_PATH_B.WOPEN 10, 55), (FIR_PATH_B.WLEN 10, 30), (FIR_PATH_C.GAP 10, 2)])

/-- Chapter 08, a grouped spool and a solo path share an engine. -/
theorem test_schedule : (buildSchedule false spool.rd 8).1.map (fun e => (e.unit.headD 99, e.fwd, e.rev, e.free))
    = [(0, 31250, 32250, 33170), (10, 33220, 33325, 33430), (0, 93750, 94750, 95670), (10, 95720, 95825, 95930),
       (0, 156250, 157250, 158170), (10, 158220, 158325, 158430), (0, 218750, 219750, 220670), (10, 220720, 220825, 220930)] := by decide +kernel

theorem test_engine_load : engineShots false spool.rd 0 = 40 ∧ engineShots false spool.rd 1 = 32 ∧ engineWork false spool.rd 0 = 16 * 2015 := by
  decide +kernel

def blend : List (Fd × Nat) := [(MED_CFG.HYST, 4), (FLO_PATHS.MASK 0, 1), (FIR_PATH_A.EN 0, 1), (ARV_PATH_L.PLEN 0, 120000), (ARV_PATH_T.TDLY 0, 3500000),
  (MED_TAB0.KIND 4, 2), (MED_TAB0.KIND 5, 3), (MED_TAB0.TOL 4, 150), (MED_TAB0.TOL 5, 150), (MED_TAB1.C0 4, 43000000), (MED_TAB1.C0 5, 43000000),
  (MED_TAB2.TREF 4, 2000), (MED_TAB2.TREF 5, 2000), (MED_TAB2.TC1 4, 1706), (MED_TAB2.TC1 5, 1706), (MED_TAB3.TC2 4, 253), (MED_TAB3.TC2 5, 253),
  (MED_TAB3.HA 5, 84), (MED_TAB3.HB 5, 70), (MED_TAB0.CURVE 5, 5), (MED_TAB3.H2ALARM 5, 20), (MED_MP1.CLASS 0, 5), (MED_MP1.UNKNOWN 0, 0), (MED_MP1.CURVE 0, 5)]

/-- Chapter 09, a pod on a hydrogen blend: the speed of sound. -/
theorem test_speed : (State.pathSpeed (pod blend) { anEpoch (pod blend).regs [] with pairs := [⟨0, 267198400000, 267282600000, false⟩] } 0).get (ARV_SOS.SOS 0) = 45499269 := by
  decide +kernel

/-- The same: entry 4 does not match, entry 5 does, and the estimate is 15.4 %. -/
theorem test_hydrogen : let s := ((pod ((ARV_SOS.SOS 0, 45499269) :: blend)).setPoint 0 { MpHistory.empty 0 with fresh := false, band := 1 }).classify (pod blend).rd 0 (some 1200000)
    s.get (MED_MP1.CLASS 0) = 5 ∧ s.get (MED_MP1.CURVE 0) = 5 ∧ s.get (MED_MP1.H2 0) = 154 ∧ s.get (MED_MP1.RUN 0) = 0 ∧ s.on (MED_MP1.H2HIGH 0) = false := by
  decide +kernel

def heatMeter : State := hub ([(FLO_CFG.EN 0, 1), (FLO_CFG.KIND 0, 2), (FLO_CFG.MINPAIRS 0, 4), (FLO_PATHS.MASK 0, 3), (FLO_DIAM.DIAM 0, 20000), (FLO_LIM.CUTOFF 0, 1000),
    (NGE_CFG.DTMIN 0, 50000), (NGE_CH.TA 0, 0), (NGE_CH.TB 0, 1), (NGE_PNOM.PNOM 0, 1000000), (NGE_CH.PCH 0, 15), (TMP_REF.RREF, 1000000), (TMP_RNOM.RNOM 0, 500000),
    (TMP_CFG.EN 0, 1)] ++ [0, 1].flatMap (fun p => [(FIR_PATH_A.EN p, 1), (ARV_PATH_L.PLEN p, 100000), (FLO_PATH_AX.AXIAL p, 50000), (ARV_PATH_T.TDLY p, 2000000),
    (FLO_PATH_WG.WGT p, 32768)]) ++ [(FIR_PATH_D.ZFO 0, 20000), (FIR_PATH_D.ZFO 1, 4294957296)] ++ (List.range 8).map (fun j => (FLO_CURVE_K.K 0 j, 4294964296)))

def heatPairs : List PairRec := List.replicate 4 ⟨0, 66495300000, 66536920000, false⟩ ++ List.replicate 4 ⟨1, 66497100000, 66535120000, false⟩

/-- Chapter 10, a DN20 heat meter: rate, velocity and the velocities of the two paths. -/
theorem test_flow : let e := { anEpoch heatMeter.regs [] with len := 256, pairs := heatPairs }
    let fs := (heatMeter.pathFlows e [0, 1]).1
    let r := (heatMeter.computePoint e fs 0).1
    fs = [⟨0, 4, 41600000, 999441, false⟩, ⟨1, 4, 38030000, 913671, false⟩]
    ∧ [(FLO_Q.Q 0, 1078594), (FLO_VEL.VEL 0, 953686), (FLO_STAT.NPAIRS 0, 8)].all (fun x => r.puts.contains x) = true
    ∧ r.gains.headD 0 / 4294967296 = 74 := by decide +kernel

/-- The same: r 0.635375625 reads 70.000 °C. -/
theorem test_temperature : (rtdTemp (mkRat 2728917530 (2 ^ 32) * mkRat (heatMeter.get TMP_REF.RREF) (heatMeter.get (TMP_RNOM.RNOM 0)))).map
    (fun x => roundQ (100000 * x)) = some 7000000 := by decide +kernel

def weekday_morning : State := hub [(BIL_TOFS.TOFS, 60), (BIL_TOFS.DSTOFS, 60), (BIL_CFG.DSTEN, 1), (BIL_SEASON.EN 0, 1), (BIL_SEASON.EN 1, 1), (BIL_SEASON.MONTH 0, 1),
  (BIL_SEASON.DAY 0, 1), (BIL_SEASON.MONTH 1, 4), (BIL_SEASON.DAY 1, 1), (BIL_SEASON.WEEK 1, 1), (BIL_DAY_SP.EN 0 0, 1), (BIL_DAY_SP.MIN 0 0, 360), (BIL_DAY_SP.TARIFF 0 0, 1),
  (BIL_DAY_SP.EN 0 1, 1), (BIL_DAY_SP.MIN 0 1, 1320), (BIL_MP_CFG.EN 0, 1), (BIL_MP_CFG.QTY 0, 1), (BIL_MP_CFG.DLEN 0, 5), (BIL_MP_MD.MD 0 1, 11902000)]

/-- Chapter 11, tariff and demand on a weekday morning. -/
theorem test_tariff : civil 11395 = (31, 3, 14) ∧ weekday 11395 = 4
    ∧ calendarAt weekday_morning.rd 0x00EABC3FDE00 = ⟨0, 0, 0, false, false, 1, 450⟩
    ∧ (calendarAt weekday_morning.rd (984603600 * 1024 - 1)).tariff = 1 ∧ (calendarAt weekday_morning.rd (984603600 * 1024)).tariff = 0 := by decide +kernel

theorem test_demand : let s := ((weekday_morning.setBill 0 { BillPoint.empty 0 with cur := some ⟨984552300 * 1024, 31214376 * 2 ^ 32 / 10, 900 * 1024, 1, false, false, false⟩ }).endSub weekday_morning.rd 0)
    s.get (BIL_MP_DLAST.DLAST 0) = 12485750 ∧ s.get (BIL_MP_MD.MD 0 1) = 12485750 ∧ s.get2 (BIL_MP_MDT.addr 0 1) = 0x00EABC4DB000 := by decide +kernel

/-- Chapter 26: the first schedule instant after B0 is 2031-03-31 22:00:00 UTC. -/
theorem test_schedule_instant : scheduleIn (hub [(BIL_TOFS.TOFS, 60), (BIL_TOFS.DSTOFS, 60), (BIL_CFG.DSTEN, 1), (BIL_BCFG.MODE, 1), (BIL_BCFG.DOM, 1), (BIL_BCFG.PMON, 1)]).rd
    (984564000 * 1024) (987000000 * 1024) = [986076000 * 1024] := by decide +kernel

/-- Chapter 12, the last sealed change: H_SEAL_STAT, and the lock-outs. -/
theorem test_seal : (hub [(SEA_CTR.CTR, 998), (SEA_STAT.VSW, 1), (SEA_STAT.SESSION, 1)]).hostMirror 47 = 0xF983
    ∧ (List.range 12).map (fun l => lockTicks l / 61440) = [1, 2, 4, 8, 16, 32, 64, 128, 256, 512, 1024, 1440] := by decide +kernel

/-- Chapter 13, a verification read-out: the resume. -/
theorem test_resume : let s := { hub [] with time := { State.reset.time with rtc := 0x00EABC3FDE5A, presc := 17 }, umb := { State.reset.umb with frozen := true, span := 409612 } }.resume 1 true
    s.time.rtc = 0x00EABC40105A ∧ s.time.presc = 29 := by decide +kernel

/-- Chapter 15, one frame to a neighbour at ×4: the train, the interleaver, and the neighbour's figures. -/
theorem test_train : trainLength 4 4 326 = 1656 ∧ trainLength 4 4 214 = 1208 ∧ [400, 401, 402, 403].map (lineIndex 4) = [400, 433, 466, 499] := by decide
theorem test_neighbour : let s := ((plsHub [(PLS_NBR_B.F 0, 40), (PLS_NBR_B.D 0, 200), (PLS_NBR_B.R 0, 2)]).updateF 9 4 856).trainOutcome 9 true
    s.get (PLS_NBR_B.F 0) = 35 ∧ s.get (PLS_NBR_B.D 0) = 207 ∧ s.get (PLS_NBR_B.LC 0) = 331 ∧ s.get (PLS_NBR_B.R 0) = 2
    ∧ ((plsHub [(PLS_NBR_B.F 0, 40)]).updateF 9 51 1304).get (PLS_NBR_B.F 0) = 36 := by decide +kernel

/-- Chapter 16, a hub wakes and reads a pod: the window. -/
theorem test_window : let s := (radHub []).setMeshNbr 0 0xFFF0 1 0
    s.seqTest 9 3 = .ahead 19 ∧ ((s.moveWindow 9 3 0 false (.ahead 19)).radNbr 0).window = 0x00080001
    ∧ (s.moveWindow 9 3 0 false (.ahead 19)).get (MSH_NBR_B.H 0) = 3 ∧ gauzeAir 31 = 6240 ∧ ackAir = 2720 := by decide +kernel

/-- Chapter 17, a protected Gauze report: the nonce. -/
theorem test_nonce : secNonce 0x00512A07 76805 3 1 0x3C1D 0x0C = [0x07, 0x2A, 0x51, 0x00, 0x05, 0x2C, 0x01, 0x00, 0x03, 0x02, 0x1D, 0x3C, 0x0C] := by decide

/-- Chapter 18, one poll round a ring: a down message with DTOG new is taken, and STATUS gets DOWNOK. -/
theorem test_poll : ({ ringSlave [] with lop := { State.reset.lop with dtog := some false } }.slaveDown 4
    (withCrc ([0, 77, 0, 9, 0, 0, 0, 7, 0, 0, 0, 3, 0, 0, 0, 0, 0])) false none).1 = 2 := by decide +kernel

def heatItem : State := { lcd [(LOC_ITEM_A.SRC 0, 2), (LOC_ITEM_A.SCALE 0, 6), (LOC_ITEM_A.DEC 0, 3), (LOC_ITEM_A.DIGITS 0, 8), (LOC_ITEM_A.UNIT 0, 3), (LOC_ITEM_B.ID 0, 0x315448),
  (NGE_HEAT.HEAT_LO 0, 123456789), (FLO_CFG.KIND 0, 2)] with loc := { State.reset.loc with values := [.number 123456789 1] } }

/-- Chapter 21, a heat total on the display and the read-out. -/
theorem test_item : heatItem.itemValue 0 = .number 123456789 1 ∧ heatItem.dataLine 0 = ascii "HT1(00123.456*MWh)" ++ CRLF
    ∧ heatItem.valueCells 0 (.number 123456789 1) = ([32, 32, 32, 32, 32, 32, 49, 50, 51, 52, 53, 54], [8]) := by decide +kernel

/-- The same, on PO0: the residue is 366, and the output closes. -/
theorem test_pulse : let s := ((hub [(LOC_PO_CFG.MODE 0, 1), (LOC_PO_CFG.SRC 0, 2), (LOC_PO_W.W 0, 10000), (LOC_PO_CFG.WIDTH 0, 50), (NGE_HEAT.HEAT_LO 0, 10366)]).setPulseOut 0
      ⟨8, some 7775, 7775, .idle, 0⟩).countPulses 0
    (s.pulseOut 0).residue = 366 ∧ s.outputClosed 0 = true := by decide +kernel

/-! ### Well-formedness: for each check a command that it refuses -/

theorem test_ill_formed : ([.rcReadComplete (.host 48 true) 0 0, .twillRequest 3 0 .fetch, .twillRequest 3 0 (.inner 10 none), .leaseAcquire 3 0 [], .leaseRenew 12 0 [],
    .leaseRelease 5 0 [], .leaseAcquire 1 0 [⟨1, .renew⟩], .leaseRenew 1 0 [⟨3, .acquire⟩], .leaseRevoke 0 [⟨1, .renew⟩, ⟨1, .release⟩],
    .zeroCrossing 0 (-1), .serialFrame 0 31 0 false 0 true 0 0 0, .captureClose 0 ⟨List.replicate 256001 0, []⟩, .stoStore 3 0, .stoRead 4 0, .stoWrite 6 0,
    .stoSetPwr 7 0, .stoSetPww 8 0, .transferClose 9, .pdataAccess 10 none, .plsTrainLoad [⟨1, [], none, false, false, false, false⟩],
    .plsTrainLoad [⟨1, List.replicate 256 0, none, false, false, false, false⟩], .plsFrameReceived [] none, .plsFrameReceived (List.replicate 1025 0) none,
    .radioFrameLoad (some ⟨1, [], none, false, false, false, false⟩), .gauzeFrameReceived [] 0 none, .radioAckReceived [], .wmbTelegram 0, .wmbRx [] true,
    .loopMessageLoad (some ⟨1, [], none, false, false, false, false⟩), .loopFrameRepeat [] false none, .loopReturn [] 0 false false none, .optRequest [],
    .optVsReq [] false, .plsHalfCycle [], .plsHalfCycle (List.replicate 3 ⟨[0, 0, 0], 0, 0, 0⟩)] : List Instr).all (fun c => !c.wellFormed) = true := by decide +kernel

theorem test_well_formed : ([.rcReadComplete (.host 47 true) 0 0, .twillRequest 2 0 .fetch, .twillRequest 2 0 (.inner 11 none), .leaseAcquire 13 0 [⟨1, .renew⟩], .zeroCrossing 0 0,
    .serialFrame 0 32 0 false 0 true 0 0 0, .captureClose 0 goodCap, .stoStore 2 0, .plsTrainLoad [⟨1, [0], none, false, false, false, false⟩],
    .plsFrameReceived [0] none, .wmbTelegram 1, .optRequest [0x2F], .plsHalfCycle (List.replicate 3 ⟨[0, 0, 0, 0], 0, 0, 0⟩)] : List Instr).all Instr.wellFormed = true := by
  decide +kernel

theorem test_no_word_spells_a_command : decodeTableWord 8 0 = none := by decide

/-! ### States and operands that meet the hypotheses of each clause of each statement -/

theorem test_hyps_StepRunsFront : ∃ (s : State) (c : Instr) (q : List Instr), s.pending = c :: q :=
  ⟨{ hub [] with pending := [.lpoBack, .rtcEnd] }, .lpoBack, [.rtcEnd], rfl⟩

theorem test_hyps_SoundKept : ∃ s t : State, s.Sound ∧ step s = .next t :=
  ⟨{ hub [] with pending := [.lpoBack] }, _, by unfold State.Sound; decide +kernel, rfl⟩

theorem test_hyps_QueueKept : ∃ (c : Instr) (s t : State), exec c s = .next t :=
  ⟨.lpoBack, hub [], _, rfl⟩

theorem test_hyps_IdleCycle :
    (∀ x ∈ ([{ hub [] with time := ⟨5, 31, 7, 31, 99, 88⟩ }, { hub [] with time := ⟨5, 31, 7, 31, 99, 88⟩, umb.frozen := true }] : List (State)), x.pending = [] ∧ x.aoDown = false ∧ x.pwr.dozeEntry = false ∧ x.pwr.request = none)
    ∧ (∃ (s : State), s.pending = [] ∧ s.aoDown = true) :=
  ⟨by decide +kernel,
   ⟨{ hub [] with mode := .reset, pwr.vaultLost := true, pwr.aoReset := true }, by decide +kernel⟩⟩

theorem test_hyps_RenewAndRelease :
    (∀ x ∈ ([({ hub [] with fab.leases := [(0, ⟨some 1, 100, []⟩)] }, 1, 0), ({ hub [] with fab.leases := [(0, ⟨some 1, 100, [2]⟩)] }, 1, 0)] : List (State × (Fin 14) × (Fin 4))), x.1.leaseReady x.2.1 x.2.2 ∧ (x.1.lease x.2.2).holder = some x.2.1.val)
    ∧ (∀ x ∈ ([({ hub [(TWL_LEASE.HELD 0,1),(TWL_LEASE.HOLDER 0,1)] with fab.leases := [(0, ⟨some 1, 100, [2]⟩)] }, 1, 0), ({ hub [(TWL_LEASE.HELD 3,1),(TWL_LEASE.HOLDER 3,1)] with fab.leases := [(3, ⟨some 1, 100, []⟩)] }, 1, 3)] : List (State × (Fin 14) × (Fin 4))), x.1.leaseReady x.2.1 x.2.2 ∧ (x.1.lease x.2.2).holder = some x.2.1.val)
    ∧ (∃ (s : State) (i : Fin 14) (k : Fin 4), s.leaseReady i k ∧ (s.lease k).holder = some i.val ∧ (s.lease k).queue = [])
    ∧ (∀ x ∈ ([({ hub [(TWL_LEASE.HELD 3,1),(TWL_LEASE.HOLDER 3,1)] with fab.leases := [(3, ⟨some 1, 100, []⟩)] }, 13, 3, .leaseRenew 13 3 []), (hub [], 13, 3, .leaseRelease 13 3 [])] : List (State × (Fin 14) × (Fin 4) × Instr)), x.2.2.2 ∈ [Instr.leaseRenew x.2.1 x.2.2.1 [], .leaseRelease x.2.1 x.2.2.1 []] ∧ x.1.leaseReady x.2.1 x.2.2.1 ∧ (x.1.lease x.2.2.1).holder ≠ some x.2.1.val) :=
  ⟨by unfold State.leaseReady; decide +kernel,
   by unfold State.leaseReady; decide +kernel,
   ⟨{ hub [(TWL_LEASE.HELD 3,1),(TWL_LEASE.HOLDER 3,1)] with fab.leases := [(3, ⟨some 1, 100, []⟩)] }, 1, 3, by unfold State.leaseReady; decide +kernel⟩,
   by unfold State.leaseReady; decide +kernel⟩

theorem test_hyps_RingSilence :
    (∃ (s : State), s.isSlave = true ∧ s.lop.silent = false ∧ s.lop.heard + 102 ≤ s.time.aoTick)
    ∧ (∃ (s : State), s.lop.silent = true)
    ∧ (∃ (s : State) (bytes : List Byte) (stalled : Bool) (refused : Option Denial), s.isSlave = true ∧ 9 ≤ bytes.length ∧ crc8 (bytes.take 6) = byteAt bytes 6) :=
  ⟨⟨{ ringSlave [] with time.aoTick := 102 }, by decide +kernel⟩,
   ⟨{ hub [] with lop.silent := true }, by decide +kernel⟩,
   ⟨ringSlave [(LOP_STAT.RING, 0)], lopFrame 4 3 3 [] (List.replicate 6 0), false, none, by decide +kernel⟩⟩

theorem test_hyps_ReceptionGaps :
    (∃ (s : State) (ws : List PhaseWave) (r : TrainRx), s.plsRunning = true ∧ s.pls.train = none ∧ s.pls.rx = some r ∧ s.plsLocked = false)
    ∧ (∃ (s : State) (r : TrainRx), s.pls.rx = some r ∧ s.get PLS_MAC.GAPMAX < r.erased) :=
  ⟨⟨{ plsHub [(CLK_ZC.LOCK 0, 0)] with pls.rx := some (plsRx 5) }, [], plsRx 5, by decide +kernel⟩,
   ⟨{ plsHub [(PLS_STAT.RXACT,1)] with pls.rx := some ({ plsRx 300 with erased := 500 }) }, { plsRx 300 with erased := 500 }, by decide +kernel⟩⟩

theorem test_hyps_ResetSources :
    (∀ x ∈ ([({ hub [] with mode := .vault, pwr.pfVault := true }, ⟨true, false, true⟩), ({ hub [] with calico := [(3,3)], vault := [(16,2)] }, ⟨true, false, true⟩)] : List (State × Supplies)), x.1.pwr.pf ≠ .storing ∧ x.1.on SEA_STAT.SESSION = false)
    ∧ (∃ (s : State) (x : BitVec 3), s.mode = .reset ∧ s.pwr.sources.testBit 0 = true ∧ s.pwr.aoReset = false)
    ∧ (∃ (s : State), (s.mode = .vault ∨ s.mode = .listen) ∧ s.pwr.pf ≠ .storing ∧ s.on SEA_STAT.SESSION = false)
    ∧ (∃ (s : State), s.pwr.pf = .resetStore ∧ s.storesOn = true) :=
  ⟨by decide +kernel,
   ⟨{ hub [] with mode := .reset, pwr.sources := 1 }, 6, by decide +kernel⟩,
   ⟨{ hub [] with mode := .vault }, by decide +kernel⟩,
   ⟨{ hub [] with pwr.pf := .resetStore, sto.run := some ⟨16, [3], 0, false⟩ }, by decide +kernel⟩⟩

theorem test_hyps_ResetAndRelease :
    (∀ x ∈ ([hub [], { hub [] with sto.dirty := [4] }] : List (State)), x.mode = .run ∧ x.pwr.pf = .none ∧ x.umb.frozen = false)
    ∧ (∀ x ∈ ([hub [], { hub [] with sto.dirty := [4] }] : List (State)), x.twillRuns = true ∧ x.pwr.pf = .none)
    ∧ (∃ (s : State) (sup : Supplies) (a : BitVec 4) (b : BitVec 4) (c : BitVec 4), s.mode = .reset ∧ s.pwr.sources = 8 ∧ suppliesGood sup s.pod = true ∧ s.holdReady s.pod = true)
    ∧ (∃ (s : State) (sup : Supplies) (a : BitVec 4), s.regsWf = true ∧ s.mode = .reset ∧ s.pwr.sources = 1 ∧ s.pwr.presample = some (a.getLsbD 0) ∧ suppliesGood sup (a.getLsbD 0) = true ∧ s.holdReady (a.getLsbD 0) = true) :=
  ⟨by decide +kernel,
   by decide +kernel,
   ⟨{ hub [] with mode := .reset, pwr.sources := 8 }, ⟨true, true, true⟩, 1, 2, 3, by decide +kernel⟩,
   ⟨{ hub [] with mode := .reset, pwr.sources := 1, pwr.presample := some true }, ⟨true, true, true⟩, 15, by decide +kernel⟩⟩

theorem test_hyps_StartSteps_1 :
    (∀ x ∈ ([(sreset, false), (sreset, true)] : List (State × Bool)), x.1.awaitsStep2 = true ∧ x.1.sto.remapCrc ≠ 0)
    ∧ (∃ (s : State) (lfxo : Bool), s.awaitsStep2 = true ∧ s.sto.remapCrc = 0)
    ∧ (∃ (s : State) (high : Bool), s.mode = .run ∧ s.umb.frozen = false ∧ s.shed = false ∧ s.boot.steps.testBit 2 = true ∧ s.boot.steps.testBit 3 = false ∧ s.pins.vioHBad = false ∧ s.pins.resetLow = false)
    ∧ (∃ (s : State), s.started = true ∧ s.boot.steps.testBit 5 = false)
    ∧ (∃ (s : State), s.started = true ∧ s.boot.steps.testBit 5 = true ∧ s.boot.steps.testBit 6 = false)
    ∧ (∃ (s : State) (p : Nat) (ps : List Nat), s.boot.unrecalled = p :: ps ∧ s.started = true ∧ s.sto.work = [])
    ∧ (∃ (s : State), s.started = true ∧ s.boot.unrecalled = [] ∧ s.boot.steps.testBit 9 = false) :=
  ⟨by decide +kernel,
   ⟨{ sreset with sto := { sreset.sto with remapCrc := 0, remap := [(200, 528)], openUsed := 1, pageMeta := [(528, ⟨true, 200, 1, 0⟩)] } }, false, by decide +kernel⟩,
   ⟨{ sreset with boot.steps := 6 }, true, by decide +kernel⟩,
   ⟨{ sreset with boot.steps := 30, boot.legalLoaded := true }, by decide +kernel⟩,
   ⟨{ sreset with boot.steps := 62, boot.legalLoaded := true }, by decide +kernel⟩,
   ⟨{ hub [] with boot.unrecalled := [1, 5, 7] }, 1, [5, 7], by decide +kernel⟩,
   ⟨{ hub [] with boot.steps := 510 }, by decide +kernel⟩⟩

theorem test_hyps_StartSteps_2 :
    (∃ (s : State), s.mode = .run ∧ s.umb.frozen = false ∧ s.shed = false ∧ s.coreUp 0 = true ∧ s.boot.steps.testBit 3 = true ∧ s.boot.legalLoaded = false)
    ∧ (∃ (s : State) (lfxo : Bool), s.awaitsStep2 = true ∧ 2000 ≤ cycUs (s.time.cyc - s.boot.released)) :=
  ⟨⟨{ sreset with boot.steps := 14 }, by decide +kernel⟩,
   ⟨{ sreset with time := { State.reset.time with cyc := 100000 } }, true, by decide +kernel⟩⟩

theorem test_hyps_CrystalFailures :
    (∃ (s : State), s.clk.lfxoFailed = false ∧ (s.on CLK_STAT.LFXOOK = true ∨ 1500000 ≤ cycUs (s.time.cyc - s.boot.released)))
    ∧ (∃ (s : State), s.on CLK_STAT.RTCSRC = true ∧ s.time.presc = 0 ∧ s.clk.lfxoFailed = true)
    ∧ (∀ x ∈ ([hub [(LOP_STAT.RING,1)], pod []] : List (State)), x.oscOn = true ∧ x.umb.frozen = false ∧ x.on CLK_STAT.HFXOOK = true)
    ∧ (∃ (s : State), s.oscOn = true ∧ s.umb.frozen = false ∧ s.on CLK_STAT.HFXOOK = true ∧ s.on CLK_STAT.SPLLOK = true)
    ∧ (∀ x ∈ ([(hub [(CLK_STAT.SYSSRC,1)], 37463), (hub [(CLK_STAT.SYSSRC,1)], 37462)] : List (State × Nat)), x.1.oscOn = true ∧ x.1.on CLK_STAT.SYSSRC = true ∧ x.1.on CLK_STAT.RTCSRC = false)
    ∧ (∃ (s : State), s.oscOn = true ∧ s.on CLK_STAT.SYSSRC = true ∧ 4 ≤ s.clk.hfxoGood) :=
  ⟨⟨hub [], by decide +kernel⟩,
   ⟨{ hub [(CLK_STAT.RTCSRC,1),(CLK_STAT.LFXOOK,0)] with clk.lfxoFailed := true }, by decide +kernel⟩,
   by decide +kernel,
   ⟨hub [], by decide +kernel⟩,
   by decide +kernel,
   ⟨{ hub [(CLK_STAT.SYSSRC,1)] with clk.hfxoGood := 4 }, by decide +kernel⟩⟩

theorem test_hyps_EngineAndLpoClocks_1 :
    (∃ (s : State) (k : Fin 4), s.oscOn = true ∧ s.umb.frozen = false ∧ (s.get CLK_STAT.EPLLOK).testBit k = true)
    ∧ (∀ x ∈ ([(hub [(CLK_STAT.EPLLOK,0)], 3), (pod [(CLK_STAT.EPLLOK,0)], 0)] : List (State × (Fin 4))), x.1.oscOn = true ∧ x.1.umb.frozen = false ∧ (x.2 = 0 ∨ x.1.pod = false) ∧ x.1.on CLK_STAT.HFXOOK = true)
    ∧ (∃ (s : State), s.on CLK_STAT.LPOOK = true ∧ s.on CLK_STAT.LFXOOK = true ∧ s.clocksOn.contains 1 = true)
    ∧ (∃ (s : State), s.on CLK_STAT.LFXOOK = true ∧ s.clocksOn.contains 1 = true ∧ 16000000 ≤ cycUs (s.time.cyc - s.clk.lpoSince))
    ∧ (∃ (s : State) (f : BitVec 22), s.oscOn = true ∧ s.umb.frozen = false ∧ s.on CLK_STAT.RTCSRC = true ∧ s.on CLK_STAT.HFXOOK = true)
    ∧ (∀ x ∈ ([(hub [], 37462), (hub [], 37538)] : List (State × Nat)), x.1.oscOn = true ∧ x.1.umb.frozen = false ∧ x.1.on CLK_STAT.LFXOOK = true ∧ x.1.on CLK_STAT.HFXOOK = true ∧ x.1.on CLK_STAT.SPLLOK = true ∧ x.1.on CLK_STAT.MISMATCH = false ∧ (x.2 < 37463 ∨ 37537 < x.2))
    ∧ (∀ x ∈ ([({ hub [(CLK_STAT.MISMATCH,1)] with clk.mismatchGood := 3 }, 37463), ({ hub [(CLK_STAT.MISMATCH,1)] with clk.mismatchGood := 3 }, 37537)] : List (State × Nat)), x.1.oscOn = true ∧ x.1.umb.frozen = false ∧ x.1.on CLK_STAT.LFXOOK = true ∧ x.1.on CLK_STAT.HFXOOK = true ∧ x.1.on CLK_STAT.SPLLOK = true ∧ x.1.on CLK_STAT.MISMATCH = true ∧ 37463 ≤ x.2 ∧ x.2 ≤ 37537 ∧ 3 ≤ x.1.clk.mismatchGood) :=
  ⟨⟨hub [], 3, by decide +kernel⟩,
   by decide +kernel,
   ⟨hub [], by decide +kernel⟩,
   ⟨{ hub [(CLK_STAT.LPOOK,0)] with clk.lpoSince := 0, time.cyc := 600000 }, by decide +kernel⟩,
   ⟨hub [(CLK_STAT.RTCSRC,1)], 0x3FFFFF, by decide +kernel⟩,
   by decide +kernel,
   by decide +kernel⟩

theorem test_hyps_EngineAndLpoClocks_2 :
    (∀ x ∈ ([(hub [], 0xFFFF), ({ hub [] with mode := .doze }, 0xFFFF)] : List (State × (BitVec 16))), ((x.1.mode = .run ∧ x.1.umb.frozen = false) ∨ x.1.mode = .doze) ∧ x.1.shed = false)
    ∧ (∃ (s : State), s.time.rtc = 0xFFFFFFFFFFFF ∧ s.clk.rtcEnded = false) :=
  ⟨by decide +kernel,
   ⟨{ hub [] with time.rtc := 0xFFFFFFFFFFFF }, by decide +kernel⟩⟩

theorem test_hyps_ZeroCrossingTracker :
    (∀ x ∈ ([({ hub [(LOP_CFG.EN,1),(PLS_CFG.EN,1),(CLK_ZC.LOCK 2,1)] with clk.trackers := [(2, ⟨192000, 1000, some 5, 0, false, .locked⟩)] }, 2, 5760), ({ hub [(LOP_CFG.EN,1),(PLS_CFG.EN,1),(CLK_ZC.LOCK 2,1)] with clk.trackers := [(2, ⟨192000, 1000, some 5, 3, false, .locked⟩)] }, 2, -5760)] : List (State × (Fin 3) × Int)), x.1.trackersRun = true ∧ (x.1.tracker x.2.1).stage = .locked ∧ x.2.2.natAbs ≤ 5760)
    ∧ (∃ (s : State) (k : Fin 3) (e : Int), s.trackersRun = true ∧ (s.tracker k).stage = .settle 31 ∧ e.natAbs ≤ 5760)
    ∧ (∃ (s : State) (k : Fin 3) (x : Int), s.trackersRun = true ∧ (s.tracker k).stage = .locked ∧ (s.tracker k).missed = false ∧ 5760 < (x - ((s.tracker k).r + (s.tracker k).p)).natAbs ∧ (s.tracker k).hold < 16)
    ∧ (∃ (s : State) (k : Fin 3), s.trackersRun = true ∧ (s.tracker k).stage = .locked ∧ (s.tracker k).hold < 16)
    ∧ (∃ (s : State) (k : Fin 3), s.trackersRun = true ∧ (s.tracker k).stage = .locked ∧ 16 ≤ (s.tracker k).hold) :=
  ⟨by decide +kernel,
   ⟨{ hub [(PLS_CFG.EN,1)] with clk.trackers := [(2, ⟨192000, 1000, some 1000, 0, false, .settle 31⟩)] }, 2, 5760, by decide +kernel⟩,
   ⟨{ hub [(PLS_CFG.EN,1),(CLK_ZC.LOCK 0,1)] with clk.trackers := [(0, ⟨192000, 1000, some 1000, 15, false, .locked⟩)] }, 0, 1000 + 192000 + 5761, by decide +kernel⟩,
   ⟨{ hub [(PLS_CFG.EN,1),(CLK_ZC.LOCK 0,1)] with clk.trackers := [(0, ⟨192000, 1000, some 1000, 15, false, .locked⟩)] }, 0, by decide +kernel⟩,
   ⟨{ hub [(PLS_CFG.EN,1),(CLK_ZC.LOCK 0,1)] with clk.trackers := [(0, ⟨192000, 1000, some 1000, 16, false, .locked⟩)] }, 0, by decide +kernel⟩⟩

theorem test_hyps_SupplyMonitors :
    (∃ (s : State), s.pins.vioHBad = false ∧ s.mode ≠ .reset)
    ∧ (∃ (s : State), s.pod = false ∧ s.on PWR_STAT.BATEND = false)
    ∧ (∀ x ∈ ([({ hub [(PWR_CFG.BATLOW,50)] with pwr.lowSamples := 2 }, 2499), ({ hub [(PWR_CFG.BATLOW,50),(PWR_STAT.BATLOW,1)] with pwr.lowSamples := 3 }, 2500), ({ pod [(PWR_CFG.BATLOW,50)] with pwr.lowSamples := 0 }, 0)] : List (State × (BitVec 12))), x.1.mode = .run ∧ x.1.umb.frozen = false ∧ x.1.shed = false ∧ x.1.boot.steps.testBit 3 = true)
    ∧ (∃ (s : State), s.pwr.dip = false)
    ∧ (∃ (s : State), s.pod = false ∧ s.mode = .reset ∧ s.on PWR_STAT.HOLDOK = false ∧ s.pwr.holdWarm = false)
    ∧ (∃ (s : State), s.pins.vioHBad = false ∧ s.mode = .reset) :=
  ⟨⟨hub [], by decide +kernel⟩,
   ⟨hub [], by decide +kernel⟩,
   by decide +kernel,
   ⟨hub [], by decide +kernel⟩,
   ⟨{ hub [(PWR_STAT.HOLDOK,0)] with mode := .reset }, by decide +kernel⟩,
   ⟨{ hub [] with mode := .reset, pwr.presample := some true }, by decide +kernel⟩⟩

theorem test_hyps_PowerFailure_1 :
    (∃ (s : State) (vmain : Bool), s.pod = false ∧ s.mode = .run ∧ s.pwr.pf = .none ∧ s.on PWR_STAT.HOLDOK = true)
    ∧ (∃ (s : State) (vmain : Bool), s.pod = true ∧ s.mode = .run ∧ s.pwr.pf = .none ∧ s.on PWR_STAT.BATEND = false)
    ∧ (∃ (s : State) (hold : Bool) (vmain : Bool), s.pod = false ∧ s.pwr.pf = .deglitch)
    ∧ (∃ (s : State), s.pwr.pf = .resetStore ∧ s.pwr.dip = true ∧ s.umb.frozen = false)
    ∧ (∃ (s : State), s.pwr.pf = .storing ∧ s.storesOn = true)
    ∧ (∃ (s : State) (r : StoreRun), s.pwr.pf = .storing ∧ s.sto.run = some r ∧ r.todo = [] ∧ r.count < 1024)
    ∧ (∃ (s : State), s.pwr.pf = .deglitch ∧ s.umb.frozen = false) :=
  ⟨⟨hub [], true, by decide +kernel⟩,
   ⟨pod [], true, by decide +kernel⟩,
   ⟨{ hub [(PWR_PF.RIDES,255),(PWR_STAT.PFLOW,1)] with pwr.pf := .deglitch, pwr.dip := true }, true, false, by decide +kernel⟩,
   ⟨{ hub [] with pwr.pf := .resetStore, pwr.dip := true }, by decide +kernel⟩,
   ⟨{ hub [] with pwr.pf := .storing, sto.run := some ⟨16, [3], 0, false⟩ }, by decide +kernel⟩,
   ⟨{ hub [] with pwr.pf := .storing, sto.run := some ⟨16, [], 5, false⟩ }, ⟨16, [], 5, false⟩, by decide +kernel⟩,
   ⟨{ hub [(PWR_STAT.PFLOW,1)] with pwr.pf := .deglitch, pwr.dip := true, sto.dirty := [0, 16] }, by decide +kernel⟩⟩

theorem test_hyps_PowerFailure_2 : ∃ (s : State), s.on PWR_STAT.VIOLOK = true :=
  ⟨hub [], by decide +kernel⟩

theorem test_hyps_ModeRequests :
    (∀ x ∈ ([hub [], hub [(PWR_CFG.FLOOR,1)]] : List (State)), x.twillRuns = true ∧ x.pwr.pf ≠ .storing)
    ∧ (∃ (s : State), s.twillRuns = true ∧ s.pwr.pf ≠ .storing ∧ s.pod = true ∧ s.on (FLO_CFG.EN 0) = false)
    ∧ (∃ (s : State), s.twillRuns = true ∧ s.pwr.pf ≠ .storing ∧ s.pod = false)
    ∧ (∃ (s : State), s.twillRuns = true ∧ s.pwr.pf ≠ .storing ∧ ((∀ i, i < 4 → s.on (FLO_CFG.EN i) = false)))
    ∧ (∀ x ∈ ([({ hub [] with pwr.request := some .vault, pwr.dozeEntry := true }, .vault), ({ pod [] with pwr.request := some .listen, pwr.dozeEntry := true }, .listen)] : List (State × Mode)), x.1.pwr.request = some x.2 ∧ x.1.pwr.dozeEntry = true ∧ x.1.sto.run = none ∧ x.1.get STO_STAT.PENDING = 0 ∧ x.1.mode = .run ∧ x.1.shed = false ∧ x.1.umb.frozen = false)
    ∧ (∃ (s : State) (other : Bool), s.on PWR_CFG.FLOOR = true ∧ s.idleNow = true ∧ s.workWithin 2000 other = false ∧ s.pwr.request = none) :=
  ⟨by decide +kernel,
   ⟨pod [], by decide +kernel⟩,
   ⟨hub [], by decide +kernel⟩,
   ⟨hub [], by decide +kernel⟩,
   by decide +kernel,
   ⟨{ pod [(PWR_CFG.FLOOR,1)] with time.rtc := 5 }, false, by decide +kernel⟩⟩

theorem test_hyps_WakingAndWarmStarts :
    (∃ (s : State) (other : Bool), s.mode = .doze ∧ s.pwr.dozeEntry = false ∧ s.workWithin 450 other = true)
    ∧ (∃ (s : State), s.mode = .doze ∧ (s.rd PWR_WAKE.addr).getLsbD 0 = true ∧ s.alarm ≠ 0 ∧ s.time.rtc.toNat = s.alarm ∧ s.time.presc = 0 ∧ s.pwr.enteredAt < s.alarm)
    ∧ (∃ (s : State), s.mode = .doze ∧ (s.rd PWR_WAKE.addr).getLsbD 2 = true ∧ s.pins.vioHBad = false)
    ∧ (∃ (s : State), s.regsWf = true ∧ s.pod = false ∧ s.mode = .vault ∧ s.pwr.pfVault = true ∧ s.on SEA_STAT.SESSION = false)
    ∧ (∃ (s : State), s.regsWf = true ∧ s.pod = true ∧ s.mode = .vault ∧ s.pwr.pfVault = true ∧ s.pwr.pfVbat = true ∧ s.on SEA_STAT.SESSION = false)
    ∧ (∀ x ∈ ([({ hub [(PWR_WAKE.BTN,1)] with mode := .vault }, 1), ({ pod [(PWR_WAKE.BTN,1)] with mode := .listen }, 9)] : List (State × (Fin 10))), (x.1.mode = .vault ∨ x.1.mode = .listen) ∧ x.1.pwr.pfVault = false ∧ ([0, 1, 2, 4].contains x.2.val && (x.1.rd PWR_WAKE.addr).getLsbD x.2.val || [8, 9].contains x.2.val) = true ∧ ((x.2 = 0 → x.1.alarm ≠ 0 ∧ x.1.time.rtc.toNat = x.1.alarm ∧ x.1.time.presc = 0 ∧ x.1.pwr.enteredAt < x.1.alarm)) ∧ ((x.2 = 2 ∨ x.2 = 8 → x.1.pins.vioHBad = false)) ∧ x.1.on SEA_STAT.SESSION = false)
    ∧ (∃ (s : State) (other : Bool), s.mode = .run ∧ s.pwr.dozeEntry = true ∧ s.pwr.request = none ∧ s.warmStarting = false ∧ s.workWithin 450 other = true) :=
  ⟨⟨{ hub [] with mode := .doze, calico := [(5, 1), (0x80001, 7)] }, true, by decide +kernel⟩,
   ⟨{ (hub [(PWR_WAKE.ALARM,1),(PWR_ALARM.ALARM_LO,5),(PWR_ALARM_H.ALARM_HI,1)]) with mode := .doze, time.rtc := 0x100000005 }, by decide +kernel⟩,
   ⟨{ hub [(PWR_WAKE.HOST,1)] with mode := .doze }, by decide +kernel⟩,
   ⟨{ hub [(PWR_STAT.PFLOW,1)] with mode := .vault, pwr.pfVault := true }, by decide +kernel⟩,
   ⟨{ pod [(PWR_STAT.BATEND,1)] with mode := .vault, pwr.pfVault := true, pwr.pfVbat := true }, by decide +kernel⟩,
   by decide +kernel,
   ⟨{ hub [] with pwr.dozeEntry := true }, true, by decide +kernel⟩⟩

theorem test_hyps_LoopBypass :
    (∃ (s : State), s.bypassMayOpen = true ∧ s.bypass.rejoin = false ∧ s.relayType = false ∧ s.on SYS_BYPASS.CLOSED = true)
    ∧ (∃ (s : State), s.bypassMayOpen = false ∧ s.on SYS_BYPASS.CLOSED = false)
    ∧ (∃ (s : State), s.bypass.settling = true ∧ 1000 * s.get SYS_BYPASS.SETTLE ≤ cycUs (s.time.cyc - s.bypass.since))
    ∧ (∃ (s : State), s.relayType = true ∧ s.bypass.joined = true ∧ s.on SYS_BYPASS.CLOSED = false ∧ 1000 ≤ cycUs (s.time.cyc - s.bypass.since))
    ∧ (∃ (s : State) (w : Nat), s.bypass.waiting = some w ∧ w ≤ s.time.aoTick) :=
  ⟨⟨hub [(LOP_CFG.EN,1),(SYS_BYPASS.CLOSED,1)], by decide +kernel⟩,
   ⟨hub [(SYS_BYPASS.CLOSED,0)], by decide +kernel⟩,
   ⟨{ hub [(SYS_STRAP.BYPTYPE,1)] with bypass.settling := true, time := { State.reset.time with cyc := 100000 } }, by decide +kernel⟩,
   ⟨{ hub [(LOP_CFG.EN,1),(SYS_BYPASS.CLOSED,0),(SYS_STRAP.BYPTYPE,1)] with bypass.joined := true, bypass.faults := 6, time := { State.reset.time with cyc := 100000 } }, by decide +kernel⟩,
   ⟨{ hub [(LOP_CFG.EN,1),(SYS_BYPASS.CLOSED,1)] with bypass.waiting := some 0 }, 0, by decide +kernel⟩⟩

theorem test_hyps_FreezePort_1 :
    (∃ (s : State), s.mode = .run ∧ s.pins.vioHBad = false ∧ s.shed = false ∧ s.umb.frozen = false ∧ s.warmStarting = false ∧ s.pwr.dozeEntry = false)
    ∧ (∃ (s : State) (high : Bool), s.pins.vioHBad = false ∧ s.shed = true)
    ∧ (∃ (s : State), s.umb.frozen = true ∧ s.umb.ready = false ∧ s.umb.programming = false)
    ∧ (∃ (s : State) (falls : Bool), s.umb.frozen = true ∧ s.pins.vioHBad = false ∧ s.pins.resetLow = false ∧ s.shed = false)
    ∧ (∃ (s : State) (fell : Bool) (rises : Bool), s.readOutRuns = true ∧ s.umb.pos < 98303 ∧ ((s.pins.awaitFall = true → fell = true)))
    ∧ (∃ (s : State) (fell : Bool), s.readOutRuns = true ∧ s.umb.pos = 98303 ∧ s.pins.awaitFall = false)
    ∧ (∃ (s : State) (rises : Bool), s.readOutRuns = true) :=
  ⟨⟨hub [], by decide +kernel⟩,
   ⟨{ hub [] with pwr.pf := .storing }, false, by decide +kernel⟩,
   ⟨{ hub [] with umb.frozen := true }, by decide +kernel⟩,
   ⟨{ hub [] with umb.frozen := true }, false, by decide +kernel⟩,
   ⟨{ hub [] with umb.frozen := true, umb.ready := true, umb.port := true, umb.pos := 98302 }, true, false, by decide +kernel⟩,
   ⟨{ hub [] with umb.frozen := true, umb.ready := true, umb.port := true, umb.pos := 98303 }, false, by decide +kernel⟩,
   ⟨{ hub [] with umb.frozen := true, umb.ready := true, umb.port := true, umb.pos := 98303 }, false, by decide +kernel⟩⟩

theorem test_hyps_FreezePort_2 :
    (∃ (s : State), s.pins.vioHBad = false ∧ s.umb.frozen = true)
    ∧ (∃ (s : State) (fell : Bool), s.readOutServes = true ∧ s.pins.frzRising = true)
    ∧ (∃ (s : State), s.pins.vioHBad = false ∧ s.umb.frozen = false) :=
  ⟨⟨{ hub [] with umb.frozen := true }, by decide +kernel⟩,
   ⟨{ hub [] with umb.frozen := true, umb.ready := true, umb.port := true, umb.pos := 9, pins.frzRising := true }, false, by decide +kernel⟩,
   ⟨{ hub [] with umb.dozeWake := true, pins.frzFalling := true }, by decide +kernel⟩⟩

theorem test_hyps_FreezeAndResume :
    (∀ x ∈ ([({ hub [] with pins.frzFalling := true }, true, true, true, some 3, true), ({ hub [] with pins.frzFalling := true }, false, false, false, none, true)] : List (State × Bool × Bool × Bool × (Option (BitVec 6)) × Bool)), x.1.pins.frzFalling = true ∧ x.1.mode = .run ∧ x.1.umb.frozen = false ∧ x.1.shed = false ∧ x.1.pins.vioHBad = false ∧ x.1.umb.due = none)
    ∧ (∀ x ∈ ([({ hub [] with umb.frozen := true, pins.frzRising := true, umb.span := 5, time.rtc := 0xFFFFFFFFFFFF, time.presc := 31 }, true), ({ hub [] with umb.frozen := true, pins.frzRising := true, umb.span := 5, time.rtc := 7, time.presc := 31, fab.waiting := [⟨13, 1, 0x400000, .read, 5, 5⟩] }, true)] : List (State × Bool)), x.1.umb.frozen = true ∧ x.1.pins.frzRising = true)
    ∧ (∃ (s : State) (high : Bool), s.umb.frozen = true ∧ 0xFFFFFFFF ≤ s.umb.span) :=
  ⟨by decide +kernel,
   by decide +kernel,
   ⟨{ hub [] with umb.frozen := true, umb.span := 0xFFFFFFFF }, true, by decide +kernel⟩⟩

theorem test_hyps_TwillAccesses :
    (∀ x ∈ ([(hub [], 1, 0x460000, .fetch), (hub [], 13, 0x43FFFF, .write 3)] : List (State × (Fin 14) × (BitVec 24) × BusOp)), x.1.presents x.2.1 = true ∧ ((x.2.2.2 = .fetch → x.2.1.val ≤ 2)) ∧ x.1.refusalAt x.2.1 x.2.2.1.toNat x.2.2.2 = 0)
    ∧ (∃ (s : State) (i : Fin 14) (a : BitVec 24), s.presents i = true ∧ s.refusalAt i a.toNat .read ≠ 0)
    ∧ (∃ (s : State) (t0 : Fin 20) (waited : Nat) (p : Nat) (r : Req) (ctx : Bool), s.twillRuns = true ∧ s.nextGrant t0 = some (r, p) ∧ s.targetBusy t0 = false ∧ ((∀ x ∈ s.hst.slots, x.2.req ≠ r)) ∧ r.op = .read ∧ busTarget r.addr ≤ 7 ∧ waited ≤ r.soft ∧ waited ≤ r.hard ∧ s.fab.eccSingle = [] ∧ s.fab.eccDouble = [])
    ∧ (∃ (s : State) (t0 : Fin 20) (waited : Nat) (p : Nat) (r : Req) (v : Word) (ctx : Bool), s.twillRuns = true ∧ s.nextGrant t0 = some (r, p) ∧ s.targetBusy t0 = false ∧ ((∀ x ∈ s.hst.slots, x.2.req ≠ r)) ∧ r.op = .write v ∧ r.init < 14 ∧ busTarget r.addr ≤ 7 ∧ waited ≤ r.hard)
    ∧ (∃ (s : State) (i : Fin 14) (r : Req) (rest : List Req), s.twillRuns = true ∧ s.fab.waiting = r :: rest ∧ r.init = i.val ∧ ((∀ x ∈ s.hst.slots, x.2.req ≠ r)))
    ∧ (∃ (s : State) (t0 : Fin 20) (waited : Nat) (u : Upset) (ctx : Bool), s.targetBusy t0 = true) :=
  ⟨by decide +kernel,
   ⟨hub [], 13, 0xFFFFFF, by decide +kernel⟩,
   ⟨{ hub [] with calico := [(4,5)], fab.waiting := [⟨3, 0, 0x400001, .read, 5, 9⟩] }, 0, 5, 0, ⟨3, 0, 0x400001, .read, 5, 9⟩, false, by decide +kernel⟩,
   ⟨{ hub [] with calico := [(4,5)], fab.waiting := [⟨3, 0, 0x400001, .write 0x01020304, 5, 9⟩] }, 0, 9, 0, ⟨3, 0, 0x400001, .write 0x01020304, 5, 9⟩, 0x01020304, false, by decide +kernel⟩,
   ⟨{ hub [] with fab.waiting := [⟨3, 0, 0x400001, .read, 5, 9⟩] }, 3, ⟨3, 0, 0x400001, .read, 5, 9⟩, [], by decide +kernel⟩,
   ⟨{ hub [] with sto.run := some ⟨16, [3], 0, false⟩, sto.atBoundary := false }, 10, 5, .clean, false, by decide +kernel⟩⟩

theorem test_hyps_LeaseGrants :
    (∃ (s : State) (i : Fin 14) (k : Fin 4), s.leaseReady i k ∧ (s.lease k).holder = none)
    ∧ (∃ (s : State) (i : Fin 14) (k : Fin 4) (h : Nat), s.leaseReady i k ∧ (s.lease k).holder = some h ∧ h ≠ i.val ∧ (s.lease k).queue.contains i.val = false)
    ∧ (∃ (s : State) (i : Fin 14) (j : Fin 14) (k : Fin 4), i < j ∧ s.leaseReady i k ∧ s.leaseReady j k ∧ (s.lease k).holder = none ∧ (s.lease k).queue = [])
    ∧ (∃ (s : State) (i : Fin 14) (k : Fin 4), s.leaseReady i k ∧ (s.lease k).holder = some i.val ∧ (s.lease k).queue = [] ∧ 0 < s.leaseDur k) :=
  ⟨⟨hub [], 13, 0, by unfold State.leaseReady; decide +kernel⟩,
   ⟨{ hub [] with fab.leases := [(1, ⟨some 1, 100, [13, 12]⟩)] }, 2, 1, 1, by unfold State.leaseReady; decide +kernel⟩,
   ⟨hub [], 1, 2, 3, by unfold State.leaseReady; decide +kernel⟩,
   ⟨{ hub [] with fab.leases := [(0, ⟨some 1, 100, []⟩)] }, 1, 0, by unfold State.leaseReady; decide +kernel⟩⟩

theorem test_hyps_FencesAndRestarts :
    (∀ x ∈ ([({ hub [(TWL_LEASE.HELD 3,1),(TWL_LEASE.HOLDER 3,5)] with fab.leases := [(3, ⟨some 5, 0, []⟩)], fab.waiting := [⟨5, 0, 0x400001, .read, 5, 9⟩] }, 5, 3), ({ hub [(TWL_LEASE.HELD 0,1),(TWL_LEASE.HOLDER 0,2)] with fab.leases := [(0, ⟨some 2, 0, []⟩)] }, 2, 0)] : List (State × (Fin 14) × (Fin 4))), x.1.twillRuns = true ∧ (x.1.lease x.2.2).holder = some x.2.1.val ∧ (x.1.lease x.2.2).expiry ≤ x.1.runUs ∧ (x.1.lease x.2.2).queue = [])
    ∧ (∀ x ∈ ([({ hub [(TWL_INIT13.FENCED,1)] with fab.resets := [13] }, 13), ({ hub [(TWL_INIT.FENCED 12,1)] with fab.resets := [12] }, 12), ({ hub [(TWL_INIT.FENCED 0,1)] with fab.resets := [0] }, 0)] : List (State × (Fin 14))), x.1.twillRuns = true ∧ x.1.fab.resets = [x.2.val])
    ∧ ((∃ (s : State) (k : Fin 4) (x : Nat) (rest : List Nat), s.twillRuns = true ∧ s.fab.flushes = x :: rest ∧ x % 4 = k.val) ∧ (∃ (s : State) (k : Fin 4) (x : Nat) (rest : List Nat), s.twillRuns = true ∧ s.fab.flushes = x :: rest ∧ x % 4 = k.val))
    ∧ (∀ x ∈ ([(hub [], 2), ({ hub [(STO_PSTAT.OPEN, 1)] with fab.restartTicks := [(0,[0,0,0,0,0,0,0])] }, 0)] : List (State × (Fin 3))), x.1.twillRuns = true ∧ x.1.coreUp x.2 = true ∧ x.1.coreStarted x.2 = true)
    ∧ (∀ x ∈ ([({ hub [] with fab.restarting := [2] }, 2), ({ hub [] with fab.restarting := [0] }, 0), ({ hub [] with fab.restarting := [1] }, 1)] : List (State × (Fin 3))), x.1.twillRuns = true ∧ x.1.fab.restarting = [x.2.val] ∧ x.1.fenced x.2 = false) :=
  ⟨by decide +kernel,
   by decide +kernel,
   ⟨⟨{ hub [] with fab.flushes := [1, 2] }, 1, 1, [2], by decide +kernel⟩, ⟨{ hub [] with fab.flushes := [0, 2] }, 0, 0, [2], by decide +kernel⟩⟩,
   by decide +kernel,
   by decide +kernel⟩

theorem test_hyps_RegisterAccess :
    (∀ x ∈ ([(hub [], 13, 0x000041, 0, 0xFFFFFFFF), ({ hub [] with regs := [(0x30340, 0xFFFFFFFF)] }, 0, 0x030340, 0, 0x0000FFFF)] : List (State × (Fin 14) × (BitVec 24) × Nat × Word)), x.1.granted x.2.1 x.2.2.1.toNat (.write x.2.2.2.2) ∧ plainWord x.2.2.1.toNat = true)
    ∧ (∀ x ∈ ([(hub [(TWL_CNT.REFUSED 3, 7)], 2, BitVec.ofNat 24 (TWL_CNT.REFUSED 3).addr, 5, 0), (hub [(TWL_CNT.REFUSED 3, 7)], 2, BitVec.ofNat 24 (TWL_CNT.REFUSED 3).addr, 7, 0)] : List (State × (Fin 14) × (BitVec 24) × Word × Word)), x.1.presents x.2.1 = true ∧ x.1.refusalAt x.2.1 x.2.2.1.toNat .read = 0 ∧ rcMask x.2.2.1.toNat ≠ 0 ∧ x.2.2.1.toNat ≠ SYS_RSTCNT.addr ∧ x.2.2.1.toNat ≠ PWR_PF.addr)
    ∧ (∃ (s : State) (i : Fin 14), s.granted i PWR_ALARM.addr .read)
    ∧ (∃ (s : State) (i : Fin 14) (low : Word) (v : Word), s.granted i PWR_ALARM_H.addr (.write v) ∧ Sparse.find s.fab.held (latchKey i PWR_ALARM.addr) = some low)
    ∧ (∃ (s : State) (i : Fin 14) (a : BitVec 24) (waited : Nat) (v : Word), s.presents i = true ∧ s.refusalAt i a.toNat (.write v) = 0 ∧ s.mustWait (busTarget a.toNat) = true) :=
  ⟨by unfold State.granted; decide +kernel,
   by decide +kernel,
   ⟨hub [(PWR_ALARM.ALARM_LO, 4), (PWR_ALARM_H.ALARM_HI, 3)], 13, by unfold State.granted; decide +kernel⟩,
   ⟨{ hub [] with fab.held := [(latchKey 13 PWR_ALARM.addr, 0xFFFFFFFF)] }, 13, 0xFFFFFFFF, 0xFFFFFFFF, by unfold State.granted; decide +kernel⟩,
   ⟨{ hub [] with sto.run := some ⟨16, [3], 0, false⟩, sto.atBoundary := false, fab.leases := [(0, ⟨some 5, 100, []⟩)] }, 5, BitVec.ofNat 24 (STO_PCMD.addr), 0, 5, by decide +kernel⟩⟩

theorem test_hyps_HostKey :
    (∀ x ∈ ([(hub [], 0x5AC3), (hub [(H_STAT.ARMED,1)], 0x5AC2)] : List (State × (BitVec 16))), x.1.hostReady)
    ∧ (∃ (s : State), s.on H_STAT.ARMED = true ∧ s.twillRuns = true ∧ 1000 ≤ cycUs (s.time.runCyc - s.hst.armedAt))
    ∧ (∃ (s : State), s.hostReady ∧ s.on H_STAT.ARMED = true)
    ∧ (∃ (s : State), s.hostReady ∧ s.on H_STAT.ARMED = true)
    ∧ (∀ x ∈ ([(hub [], .winrst), (hub [], .mboxrst)] : List (State × Instr)), x.2 ∈ [Instr.winrst, .mboxrst] ∧ x.1.hostReady ∧ x.1.on H_STAT.ARMED = false)
    ∧ (∃ (s : State) (waited : Nat), s.hostReady ∧ s.on H_STAT.ARMED = true ∧ waited ≤ 5 ∧ s.mustWait (busTarget CLK_STAT.addr) = false) :=
  ⟨by unfold State.hostReady; decide +kernel,
   ⟨{ hub [(H_STAT.ARMED,1)] with time.runCyc := 33 }, by decide +kernel⟩,
   ⟨{ hub [(H_STAT.ARMED,1),(W_ADDR.ADDR 2, 65535),(W_STAT.RDY 1,1)] with hst.windows := [(1, ⟨5, 6, 7, true, false⟩)] }, by unfold State.hostReady; decide +kernel⟩,
   ⟨{ hub [(H_STAT.ARMED,1),(H_MBOX_STAT.RXCNT,3)] with mbx := ⟨[1], [2,3,4], 0, [⟨[5], none⟩]⟩ }, by unfold State.hostReady; decide +kernel⟩,
   by unfold State.hostReady; decide +kernel,
   ⟨{ hub [(H_STAT.ARMED,1),(H_TIME_CTL.DONE,1)] with hst.timeHeld := 5 }, 5, by unfold State.hostReady; decide +kernel⟩⟩

theorem test_hyps_HostWindows_1 :
    (∃ (s : State) (n : Fin 3) (v : BitVec 16), s.hostReady ∧ s.winPrefetches n = false)
    ∧ (∃ (s : State) (n : Fin 3) (v : BitVec 16), s.hostReady ∧ s.winPrefetches n = true ∧ s.get (W_SEL.SPACE n) ≠ 3)
    ∧ (∀ x ∈ ([(hub [], 2, 0xFF0F), (hub [], 0, 0x0001)] : List (State × (Fin 3) × (BitVec 16))), x.1.hostReady)
    ∧ (∃ (s : State) (n : Fin 3) (waited : Nat), s.twillRuns = true ∧ s.on (W_STAT.BUSY n) = true ∧ (s.win n).stale = false ∧ s.get (W_SEL.SPACE n) = 0 ∧ busTarget (s.winAddr n) ≤ 7 ∧ s.refusalAt 13 (s.winAddr n) .read = 0 ∧ s.targetBusy (busTarget (s.winAddr n)) = false ∧ waited ≤ 5 ∧ s.fab.eccSingle = [] ∧ s.fab.eccDouble = [])
    ∧ (∃ (s : State) (n : Fin 3) (waited : Nat) (posted : Nat) (since : Word), s.hostReady ∧ s.winPrefetches n = false ∧ s.get (W_SEL.SPACE n) = 0 ∧ busTarget (s.winAddr n) ≤ 7 ∧ s.granted 13 (s.winAddr n) .read ∧ waited ≤ 5 ∧ s.fab.eccSingle = [] ∧ s.fab.eccDouble = [])
    ∧ (∃ (s : State) (n : Fin 3) (waited : Nat) (posted : Nat) (u : Upset) (since : Word), s.hostReady ∧ s.winPrefetches n = true ∧ s.on (W_STAT.RDY n) = true ∧ s.get (W_SEL.SPACE n) = 0 ∧ busTarget (s.winAddr n) ≤ 7)
    ∧ (∃ (s : State) (n : Fin 3) (waited : Nat) (posted : Nat) (u : Upset) (since : Word), s.hostReady ∧ s.winPrefetches n = true ∧ s.on (W_STAT.RDY n) = false) :=
  ⟨⟨hub [], 2, 0xFFFF, by unfold State.hostReady; decide +kernel⟩,
   ⟨hub [(W_SEL.PRE 1,1),(W_SEL.INC 1,1)], 1, 0x1234, by unfold State.hostReady; decide +kernel⟩,
   by unfold State.hostReady; decide +kernel,
   ⟨{ hub [(W_STAT.BUSY 1,1),(W_SEL.ADDRHI 1, 0x40)] with calico := [(0, 3)] }, 1, 5, by decide +kernel⟩,
   ⟨{ hub [(W_SEL.ADDRHI 1, 0x40),(W_SEL.INC 1,1),(W_ADDR.ADDR 1,0xFFFF)] with calico := [(4*0xFFFF, 3), (4*0xFFFF+3,9)] }, 1, 5, 0, 0, by unfold State.granted State.hostReady; decide +kernel⟩,
   ⟨{ hub [(W_SEL.ADDRHI 1, 0x40),(W_SEL.INC 1,1),(W_SEL.PRE 1,1),(W_STAT.RDY 1,1)] with hst.windows := [(1, ⟨5, 6, 7, false, false⟩)] }, 1, 5, 0, .double, 0, by unfold State.hostReady; decide +kernel⟩,
   ⟨hub [(W_SEL.ADDRHI 1, 0x40),(W_SEL.INC 1,1),(W_SEL.PRE 1,1)], 1, 5, 0, .clean, 0, by unfold State.hostReady; decide +kernel⟩⟩

theorem test_hyps_HostWindows_2 :
    (∃ (s : State) (n : Fin 3) (v : BitVec 16), s.hostReady)
    ∧ (∃ (s : State) (n : Fin 3) (waited : Nat) (v : BitVec 16), s.hostReady ∧ s.winPrefetches n = false ∧ s.get (W_SEL.SPACE n) = 0 ∧ busTarget (s.winAddr n) ≤ 7 ∧ s.granted 13 (s.winAddr n) (.write (v ++ (s.win n).low)) ∧ waited ≤ 5)
    ∧ (∃ (s : State) (n : Fin 3), s.hostReady ∧ s.winPrefetches n = false ∧ ((∀ x ∈ s.hst.slots, x.2.off ≠ winOff n 2)))
    ∧ (∃ (s : State) (n : Fin 3) (waited : Nat) (posted : Nat) (u : Upset) (since : Word), s.hostReady ∧ s.on SYS_STRAP.HOSTMODE = false ∧ s.winPrefetches n = false ∧ s.get (W_SEL.SPACE n) = 0 ∧ s.refusalAt 13 (s.winAddr n) .read = 0 ∧ s.mustWait (busTarget (s.winAddr n)) = true) :=
  ⟨⟨hub [], 2, 0xFFFF, by unfold State.hostReady; decide +kernel⟩,
   ⟨{ hub [(W_SEL.ADDRHI 1, 0x43),(W_SEL.INC 1,1),(W_ADDR.ADDR 1,0xFFFF),(W_STAT.LOHELD 1,1)] with hst.windows := [(1, ⟨5, 6, 7, false, false⟩)] }, 1, 5, 0x0102, by unfold State.granted State.hostReady; decide +kernel⟩,
   ⟨hub [], 1, by unfold State.hostReady; decide +kernel⟩,
   ⟨{ hub [(W_SEL.ADDRHI 1, STO_PCMD.addr / 65536), (W_ADDR.ADDR 1, STO_PDATA.addr % 65536)] with sto.run := some ⟨16, [3], 0, false⟩, sto.atBoundary := false, fab.leases := [(0, ⟨some 13, 100, []⟩)] }, 1, 0, 0, .clean, 0, by unfold State.hostReady; decide +kernel⟩⟩

theorem test_hyps_SerialFrames :
    (∃ (s : State) (bits : BitVec 32) (waited : Nat) (posted : Nat) (occ : Bool) (since : Word) (high : Bool) (driven : BitVec 12) (level : BitVec 12), s.hostServes = true ∧ s.on SYS_STRAP.HOSTMODE = true ∧ s.pins.selArmed = true ∧ bits.getLsbD 31 = false ∧ frameGood bits ∧ (s.writeNeedsSlot (bits.extractLsb' 25 6).toNat && s.slotTaken (bits.extractLsb' 25 6).toNat occ) = false)
    ∧ (∃ (s : State) (bits : BitVec 32) (waited : Nat) (posted : Nat) (occ : Bool) (since : Word) (high : Bool) (driven : BitVec 12) (level : BitVec 12), s.hostServes = true ∧ s.on SYS_STRAP.HOSTMODE = true ∧ s.pins.selArmed = true ∧ bits.getLsbD 31 = false ∧ ¬ frameGood bits)
    ∧ (∃ (s : State) (high : Bool) (driven : BitVec 12) (level : BitVec 12), s.hostServes = true ∧ s.on SYS_STRAP.HOSTMODE = true ∧ s.pins.selArmed = true)
    ∧ (∃ (s : State) (bits : BitVec 32) (waited : Nat) (posted : Nat) (occ : Bool) (since : Word) (high : Bool) (driven : BitVec 12) (level : BitVec 12), s.hostReady ∧ s.on SYS_STRAP.HOSTMODE = true ∧ s.pins.selArmed = true ∧ bits.getLsbD 31 = false ∧ frameGood bits ∧ keyed (bits.extractLsb' 25 6).toNat = false ∧ (s.writeNeedsSlot (bits.extractLsb' 25 6).toNat && s.slotTaken (bits.extractLsb' 25 6).toNat occ) = true)
    ∧ (∃ (s : State) (bits : BitVec 32) (waited : Nat) (posted : Nat) (occ : Bool) (since : Word) (high : Bool) (driven : BitVec 12) (level : BitVec 12) (off : Nat), s.hostReady ∧ s.on SYS_STRAP.HOSTMODE = true ∧ s.pins.selArmed = true ∧ bits.getLsbD 31 = true ∧ bits.getLsbD 24 = false ∧ off = (bits.extractLsb' 25 6).toNat ∧ off ∈ [0, 1, 2, 3, 5, 6, 7, 8, 41, 44, 46, 47] ∧ crc8 [bits.extractLsb' 24 8, (BitVec.ofNat 16 (s.hostPeek off)).extractLsb' 8 8, (BitVec.ofNat 16 (s.hostPeek off)).extractLsb' 0 8] = bits.toNat % 256) :=
  ⟨⟨{ hub [(SYS_STRAP.HOSTMODE,1)] with pins.selArmed := true, pins.dRole := .serial }, (BitVec.ofNat 32 (0x02123400 + crc8 [2, 0x12, 0x34])), 0, 0, false, 0, true, 0, 0, by unfold frameGood; decide +kernel⟩,
   ⟨{ hub [(SYS_STRAP.HOSTMODE,1)] with pins.selArmed := true, pins.dRole := .serial }, (BitVec.ofNat 32 (0x02123400 + (crc8 [2, 0x12, 0x34] + 1) % 256)), 0, 0, false, 0, true, 0, 0, by unfold frameGood; decide +kernel⟩,
   ⟨{ hub [(SYS_STRAP.HOSTMODE,1)] with pins.selArmed := true, pins.dRole := .serial }, true, 0, 0, by decide +kernel⟩,
   ⟨{ hub [(SYS_STRAP.HOSTMODE,1)] with pins.selArmed := true, pins.dRole := .serial }, (BitVec.ofNat 32 (0x32123400 + crc8 [0x32, 0x12, 0x34])), 0, 0, true, 0, true, 0, 0, by unfold State.hostReady frameGood; decide +kernel⟩,
   ⟨{ hub [(SYS_STRAP.HOSTMODE,1)] with pins.selArmed := true, pins.dRole := .serial }, 0x8046329B, 0, 0, false, 0, true, 0, 0, 0, by unfold State.hostReady; decide +kernel⟩⟩

theorem test_hyps_HostReadsAndTime_1 :
    (∃ (s : State), s.hostReady)
    ∧ (∃ (s : State), s.hostReady ∧ s.get H_EVT_BANK.BANK < 36)
    ∧ (∃ (s : State), s.hostReady ∧ s.nextConflict ≠ 0)
    ∧ (∀ x ∈ ([(((hub [(H_EVT_BANK.BANK, 35)]).wr (EVT_HPEND.addr 35) 0xFFFFFFFF).wr (EVT_HPEND.addr 0) 0xFFFFFFFF, 0xFFDF, 5), (((hub [(H_EVT_BANK.BANK, 35)]).wr (EVT_HPEND.addr 35) 0x80000000), 0xFFDF, 5)] : List (State × (BitVec 16) × Nat)), x.1.hostReady ∧ x.1.get H_EVT_BANK.BANK < 36 ∧ x.2.1.getLsbD 5 = false ∧ x.2.2 ≤ 5 ∧ x.1.mustWait (busTarget (EVT_HPEND.addr 0)) = false)
    ∧ (∀ x ∈ ([({ hub [] with hst.setPending := some 0xFFFFFFFFFFFF }, 0xFFFFFFFFFFFF), ({ hub [] with hst.setPending := some 7, time.rtc := 99999 }, 7)] : List (State × Nat)), x.1.hst.setPending = some x.2 ∧ x.1.umb.frozen = false ∧ x.1.time.presc = 0)
    ∧ (∃ (s : State), s.hostReady ∧ s.on CON_CFG.EN = false)
    ∧ (∃ (s : State) (p : BitVec 8), s.hostReady ∧ s.on CON_CFG.EN = false) :=
  ⟨⟨{ hub [] with time.rtc := 0x123456789ABC }, by unfold State.hostReady; decide +kernel⟩,
   ⟨(hub [(H_EVT_BANK.BANK, 35)]).wr (EVT_HPEND.addr 35) 0xFFFF0001, by unfold State.hostReady; decide +kernel⟩,
   ⟨(hub [(STG_STAT.NCONF, 1)]).wr (STG_CONF.addr 0) 0x05000001, by unfold State.hostReady; decide +kernel⟩,
   by unfold State.hostReady; decide +kernel,
   by decide +kernel,
   ⟨hub [(H_STAT.HOSTLOST,1)], by unfold State.hostReady; decide +kernel⟩,
   ⟨hub [(H_STAT.HOSTLOST,1)], 255, by unfold State.hostReady; decide +kernel⟩⟩

theorem test_hyps_HostReadsAndTime_2 : ∃ (s : State), s.twillRuns = true ∧ s.get H_WDG.PERIOD ≠ 0 ∧ s.on H_STAT.HOSTLOST = false ∧ s.get H_WDG.PERIOD * 100000 ≤ cycUs (s.time.runCyc - s.hst.wdgFrom) ∧ ((∀ m ∈ s.mbx.queue, m.con = none)) :=
  ⟨{ hub [(H_WDG.PERIOD,1)] with time.runCyc := 3277, mbx.queue := [⟨[5], none⟩] }, by decide +kernel⟩

theorem test_hyps_Mailbox :
    (∃ (s : State) (v : BitVec 16), s.hostReady ∧ s.mbx.tx.length < 64)
    ∧ (∃ (s : State) (v : BitVec 16), s.hostReady ∧ s.mbx.tx.length = 64)
    ∧ (∀ x ∈ ([({ hub [(CON_CFG.EN,1),(CON_HEAD.ADDR 0, 77)] with mbx.tx := [0x1202, 3, 0x0405, 6] }, 0x1202, [3, 0x0405, 6]), ({ hub [] with mbx.tx := [0x1402] ++ [3, 4] }, 0x1402, [3, 4]), ({ pod [] with mbx.tx := [0x1402] ++ [3, 4] }, 0x1402, [3, 4]), ({ hub [] with mbx.tx := [0x0002] ++ [3, 4] }, 0x0002, [3, 4])] : List (State × (BitVec 16) × (List (BitVec 16)))), x.1.twillRuns = true ∧ x.1.mbx.tx = x.2.1 :: x.2.2 ∧ x.2.1.toNat % 64 ≤ x.2.2.length)
    ∧ (∀ x ∈ ([({ hub [] with mbx.rx := [0x1202, 3] }, 0x1202, [3]), ({ hub [] with mbx.rx := [0x1202], mbx.part := 1 }, 0x1202, [])] : List (State × (BitVec 16) × (List (BitVec 16)))), x.1.hostReady ∧ x.1.mbx.rx = x.2.1 :: x.2.2)
    ∧ (∃ (s : State) (m : MailOut) (rest : List MailOut), s.twillRuns = true ∧ s.mbx.queue = m :: rest ∧ s.mbx.rx.length + m.words.length ≤ 64 ∧ m.con = none) :=
  ⟨⟨{ hub [] with mbx.tx := List.replicate 63 1 }, 5, by unfold State.hostReady; decide +kernel⟩,
   ⟨{ hub [] with mbx.tx := List.replicate 64 1 }, 5, by unfold State.hostReady; decide +kernel⟩,
   by decide +kernel,
   by unfold State.hostReady; decide +kernel,
   ⟨{ hub [] with mbx.rx := List.replicate 62 3, mbx.queue := [⟨[1, 5], none⟩] }, ⟨[1, 5], none⟩, [], by decide +kernel⟩⟩

theorem test_hyps_StagingCommands_1 :
    (∀ x ∈ ([(hub [], 13, true, BitVec.ofNat 24 PLS_CFG.addr, 0xFFFFFFFF), ({ hub [(STG_SET.STATE 0, 1)] with stg.imm.entries := [(PLS_CFG.addr, 0), (PLS_CFG.addr + 1, 3)] }, 13, false, BitVec.ofNat 24 FIR_EPOCH.addr, 0xFFFFFFFF)] : List (State × (Fin 14) × Bool × (BitVec 24) × Word)), x.1.granted x.2.1 x.2.2.2.1.toNat (.stage x.2.2.1 x.2.2.2.2) ∧ stagedMask x.2.2.2.1.toNat ≠ 0 ∧ x.1.stageClosed x.2.2.1 = false ∧ ((Sparse.find (x.1.stage x.2.2.1).entries x.2.2.2.1.toNat).isSome = true ∨ (x.1.stage x.2.2.1).entries.length < stageCapacity x.2.2.1))
    ∧ (∃ (s : State) (i : Fin 14) (dated : Bool) (a : BitVec 24) (v : Word), s.granted i a.toNat (.stage dated v) ∧ stagedMask a.toNat ≠ 0 ∧ s.stageClosed dated = false ∧ Sparse.find (s.stage dated).entries a.toNat = none ∧ stageCapacity dated ≤ (s.stage dated).entries.length)
    ∧ (∃ (s : State) (i : Fin 14) (dated : Bool) (a : BitVec 24) (v : Word), s.granted i a.toNat (.stage dated v) ∧ stagedMask a.toNat ≠ 0 ∧ s.stageClosed dated = true)
    ∧ (∀ x ∈ ([(hub [(STG_SET.STALE 1,1)], true), ({ hub [(STG_SET.STATE 1,2)] with stg.dated.applyAt := 77 }, true)] : List (State × Bool)), x.1.twillRuns = true ∧ x.1.on STG_STAT.BUSY = false ∧ x.1.meterReady = true)
    ∧ (∀ x ∈ ([(hub [], false), ({ hub [] with stg.imm.entries := [(FIR_EPOCH.addr, 1)] }, true)] : List (State × Bool)), x.1.twillRuns = true ∧ x.1.on STG_STAT.BUSY = false ∧ x.1.meterReady = true ∧ x.1.stageState x.2 < 2)
    ∧ (∀ x ∈ ([(hub [(STG_STAT.BUSY, 1)], false, .stgCheck false), (hub [(STG_STAT.BUSY, 1)], true, .stgDiscard true), (hub [(STG_STAT.BUSY, 1)], true, .stgApply true)] : List (State × Bool × Instr)), x.2.2 ∈ [Instr.stgCheck x.2.1, .stgApply x.2.1, .stgDiscard x.2.1] ∧ x.1.twillRuns = true ∧ x.1.on STG_STAT.BUSY = true)
    ∧ (∀ x ∈ ([({ hub [(STG_SET.STATE 0, 1),(STG_SET.OVF 0,1),(STG_SET.ENTRIES 0,1)] with stg.imm.entries := [(FIR_EPOCH.addr, 1)] }, false), (hub [], true)] : List (State × Bool)), x.1.twillRuns = true ∧ x.1.on STG_STAT.BUSY = false ∧ x.1.meterReady = true ∧ x.1.stageState x.2 < 2) :=
  ⟨by unfold State.granted; decide +kernel,
   ⟨{ hub [] with stg.imm.entries := (List.range 1024).map (fun i => (0x20000 + i, 0)) }, 13, false, BitVec.ofNat 24 FIR_EPOCH.addr, 1, by unfold State.granted; decide +kernel⟩,
   ⟨hub [(STG_SET.STATE 1, 2)], 13, true, BitVec.ofNat 24 FIR_EPOCH.addr, 1, by unfold State.granted; decide +kernel⟩,
   by decide +kernel,
   by decide +kernel,
   by decide +kernel,
   by decide +kernel⟩

theorem test_hyps_StagingCommands_2 :
    (∀ x ∈ ([({ hub [(STG_STAT.BUSY,1)] with stg.check := some ⟨true, false, 0, false, [(5, 0x20000)]⟩ }, ⟨true, false, 0, false, [(5, 0x20000)]⟩), ({ hub [(STG_STAT.BUSY,1)] with stg.check := some ⟨false, false, 0, false, []⟩ }, ⟨false, false, 0, false, []⟩)] : List (State × StageCheck)), x.1.stg.check = some x.2 ∧ x.2.apply = false ∧ x.1.lgcRuns = true)
    ∧ (∃ (s : State) (c : StageCheck), s.stg.check = some c ∧ c.apply = true ∧ c.found = [] ∧ c.dated = false ∧ s.lgcRuns = true)
    ∧ (∃ (s : State) (c : StageCheck), s.stg.check = some c ∧ c.apply = true ∧ c.found ≠ [] ∧ s.lgcRuns = true) :=
  ⟨by decide +kernel,
   ⟨{ hub [(STG_STAT.BUSY,1)] with stg.check := some ⟨false, true, 0, false, []⟩, stg.imm.entries := [(FIR_EPOCH.addr, 1)] }, ⟨false, true, 0, false, []⟩, by decide +kernel⟩,
   ⟨{ hub [(STG_STAT.BUSY,1)] with stg.check := some ⟨true, true, 0, false, [(5, 0x20000)]⟩ }, ⟨true, true, 0, false, [(5, 0x20000)]⟩, by decide +kernel⟩⟩

theorem test_hyps_CommitPoint :
    (∀ x ∈ ([{ commissioned [(STG_SET.STATE 0, 2)] with stg.imm.entries := [(FIR_EPOCH.addr, 10)], stg.imm.boundary := 1025, time.rtc := 1024 }, { commissioned [(STG_SET.STATE 0, 2),(SEA_STAT.SESSION,1)] with stg.imm.entries := [(BIL_MP_CFG.addr 0, 0)], stg.imm.boundary := 1025, time.rtc := 1024 }] : List (State)), x.commitDue ∧ x.commitConflicts false = [])
    ∧ (∃ (s : State), s.commitDue ∧ s.commitConflicts false ≠ [])
    ∧ (∃ (s : State), s.applying = true ∧ s.time.presc = 0 ∧ s.stageState false = 3 ∧ s.stg.imm.boundary = s.time.rtc.toNat ∧ s.stageState true ≠ 3 ∧ s.stg.imm.isSealed = false ∧ s.boot.unrecalled = [] ∧ ((s.stg.imm.entries.map (fun e => e.1)).Nodup)) :=
  ⟨by unfold State.commitDue; decide +kernel,
   ⟨{ commissioned [(STG_SET.STATE 0, 2)] with stg.imm.entries := [(FLO_CFG.addr 0, 31)], stg.imm.boundary := 1025, time.rtc := 1024 }, by unfold State.commitDue; decide +kernel⟩,
   ⟨{ hub [(STG_SET.STATE 0, 3)] with stg.imm.entries := [(PLS_ADDR.addr, 10)], stg.imm.boundary := 1025, time.rtc := 1025 }, by decide +kernel⟩⟩

theorem test_hyps_EpochsAndShots_1 :
    (∃ (s : State), s.measuring = true ∧ s.boot.legalLoaded = true ∧ s.meterReady = true ∧ s.atBoundary = true ∧ s.fir.cur = none)
    ∧ ((∃ (s : State) (e : Epoch), s.measuring = true ∧ s.boot.legalLoaded = true ∧ s.meterReady = true ∧ s.atBoundary = true ∧ s.fir.cur = some e ∧ ((∀ v ∈ e.events, ∀ m ∈ v.members, m.fwd ≠ .waiting ∧ m.rev ≠ .waiting))) ∧ (∃ (s : State) (e : Epoch), s.measuring = true ∧ s.boot.legalLoaded = true ∧ s.meterReady = true ∧ s.atBoundary = true ∧ s.fir.cur = some e ∧ ((∀ v ∈ e.events, ∀ m ∈ v.members, m.fwd ≠ .waiting ∧ m.rev ≠ .waiting))))
    ∧ (∃ (s : State) (n : Nat) (rings : List (Fin 4 × Nat)) (cals : List CalPulse) (e : Epoch) (v : FireEvent), s.fires n e v ∧ v.prepared = false ∧ v.released = false ∧ v.members ≠ [] ∧ inCycle (s.epochCycles e) (v.fwd - 50) = true ∧ s.ringsGood rings)
    ∧ (∃ (s : State) (n : Nat) (vdrv : Nat) (e : Epoch) (v : FireEvent), s.fires n e v ∧ inCycle (s.epochCycles e) v.fwd = true ∧ ((v.members.map (fun m => m.path)).Nodup))
    ∧ (∃ (s : State) (n : Nat) (vdrv : Nat) (e : Epoch) (v : FireEvent) (m : Member), s.fires n e v ∧ inCycle (s.epochCycles e) v.fwd = true ∧ v.members = [m] ∧ m.fwd = .waiting ∧ (m.armed && s.engineReady m.engine) = false)
    ∧ (∃ (s : State) (n : Nat) (vdrv : Nat) (rings : List (Fin 4 × Nat)) (cals : List CalPulse) (e : Epoch) (v : FireEvent), s.fires n e v ∧ inCycle (s.epochCycles e) v.rev = true ∧ ((∀ m ∈ v.members, m.fwd ≠ .waiting ∧ m.fwd ≠ .flying)) ∧ s.ringsGood rings ∧ ((v.members.map (fun m => m.path)).Nodup))
    ∧ (∃ (s : State) (n : Nat) (e : Epoch) (v : FireEvent), s.measuring = true ∧ s.fir.cur = some e ∧ e.events[n]? = some v ∧ v.prepared = true ∧ v.released = false ∧ hasCome (s.epochCycles e) v.free = true ∧ ((∀ m ∈ v.members, m.fwd ≠ .flying ∧ m.rev ≠ .flying ∧ m.fwd ≠ .waiting ∧ m.rev ≠ .waiting)) ∧ ((∀ j, j < e.events.length → j ≠ n → ∀ w ∈ e.events[j]?, w.prepared = false ∨ w.released = true))) :=
  ⟨⟨hub [(FIR_EPOCH.EPLOG, 10)], by decide +kernel⟩,
   ⟨⟨{ hub [(FIR_EPOCH.EPLOG, 10)] with time.rtc := 5120, time.cyc := 40000, fir.cur := some (anEpoch [] []) }, anEpoch [] [], by decide +kernel⟩, ⟨{ hub [(FIR_EPOCH.EPLOG, 10), (ECH_STAT.ACTIVE 0, 1)] with time.rtc := 5120, time.cyc := 40000, fir.cur := some (fireEp [mb 1 0 0 .lost .queued true] true) }, fireEp [mb 1 0 0 .lost .queued true] true, by decide +kernel⟩⟩,
   ⟨fireHub 1 [mb 1 3 0 .waiting .waiting false] false, 0, [(3, 4000)], [⟨0, some 3⟩], fireEp [mb 1 3 0 .waiting .waiting false] false, fev [mb 1 3 0 .waiting .waiting false] false, by unfold State.ringsGood State.fires; decide +kernel⟩,
   ⟨fireHub 3 [mb 1 3 0 .waiting .waiting true, mb 2 1 0 .waiting .waiting false] true, 0, 20000, fireEp [mb 1 3 0 .waiting .waiting true, mb 2 1 0 .waiting .waiting false] true, fev [mb 1 3 0 .waiting .waiting true, mb 2 1 0 .waiting .waiting false] true, by unfold State.fires; decide +kernel⟩,
   ⟨fireHub 3 [mb 1 3 0 .waiting .waiting false] true, 0, 5, fireEp [mb 1 3 0 .waiting .waiting false] true, fev [mb 1 3 0 .waiting .waiting false] true, mb 1 3 0 .waiting .waiting false, by unfold State.fires; decide +kernel⟩,
   ⟨fireHub 6 [mb 1 3 0 .queued .waiting true, mb 2 1 0 .lost .waiting false] true, 0, 5, [(3, 4000)], [⟨0, some 3⟩], fireEp [mb 1 3 0 .queued .waiting true, mb 2 1 0 .lost .waiting false] true, fev [mb 1 3 0 .queued .waiting true, mb 2 1 0 .lost .waiting false] true, by unfold State.ringsGood State.fires; decide +kernel⟩,
   ⟨{ fireHub 99999 [mb 1 3 13 .queued .lost true] true with regs := (hub [(ECH_STAT.ACTIVE 3,1)]).regs }, 0, fireEp [mb 1 3 13 .queued .lost true] true, fev [mb 1 3 13 .queued .lost true] true, by decide +kernel⟩⟩

theorem test_hyps_EpochsAndShots_2 :
    (∀ x ∈ ([(fireHub 3 [mb 1 0 0 .waiting .waiting true] true, 0, 3000, 0, 0, fireEp [mb 1 0 0 .waiting .waiting true] true, fev [mb 1 0 0 .waiting .waiting true] true, mb 1 0 0 .waiting .waiting true), (fireHub 3 [mb 1 0 0 .waiting .waiting true] true, 0, 60000, 0, 0, fireEp [mb 1 0 0 .waiting .waiting true] true, fev [mb 1 0 0 .waiting .waiting true] true, mb 1 0 0 .waiting .waiting true)] : List (State × Nat × Nat × Nat × Nat × Epoch × FireEvent × Member)), x.1.fires x.2.1 x.2.2.2.2.2.1 x.2.2.2.2.2.2.1 ∧ inCycle (x.1.epochCycles x.2.2.2.2.2.1) x.2.2.2.2.2.2.1.fwd = true ∧ x.2.2.2.2.2.2.1.members = [x.2.2.2.2.2.2.2] ∧ x.2.2.2.2.2.2.2.fwd = .waiting ∧ x.2.2.2.2.2.2.2.armed = true ∧ x.1.engineReady x.2.2.2.2.2.2.2.engine = true ∧ x.2.2.2.2.2.2.2.path < 32 ∧ pathBurst x.2.2.2.2.2.1.view x.2.2.2.2.2.2.2.path = (x.2.2.2.1, x.2.2.2.2.1))
    ∧ (∃ (s : State) (n : Nat) (vdrv : Nat) (e : Epoch) (v : FireEvent) (m : Member), s.fires n e v ∧ wentBy (s.epochCycles e) v.fwd = true ∧ v.members = [m] ∧ m.fwd = .waiting)
    ∧ (∃ (s : State) (n : Nat) (vdrv : Nat) (e : Epoch) (v : FireEvent), s.fires n e v ∧ cycUs (s.epochCycles e + 1) ≤ v.fwd)
    ∧ (∃ (s : State) (n : Nat) (vdrv : Nat) (rings : List (Fin 4 × Nat)) (cals : List CalPulse) (e : Epoch) (v : FireEvent), s.fires n e v ∧ cycUs (s.epochCycles e + 1) ≤ v.rev) :=
  ⟨by unfold State.fires; decide +kernel,
   ⟨fireHub 4 [mb 1 0 0 .waiting .waiting true] true, 0, 3000, fireEp [mb 1 0 0 .waiting .waiting true] true, fev [mb 1 0 0 .waiting .waiting true] true, mb 1 0 0 .waiting .waiting true, by unfold State.fires; decide +kernel⟩,
   ⟨fireHub 2 [mb 1 0 0 .waiting .waiting true] true, 0, 3000, fireEp [mb 1 0 0 .waiting .waiting true] true, fev [mb 1 0 0 .waiting .waiting true] true, by unfold State.fires; decide +kernel⟩,
   ⟨fireHub 5 [mb 1 3 0 .queued .waiting true, mb 2 1 0 .lost .waiting false] true, 0, 5, [(3, 4000)], [⟨0, some 3⟩], fireEp [mb 1 3 0 .queued .waiting true, mb 2 1 0 .lost .waiting false] true, fev [mb 1 3 0 .queued .waiting true, mb 2 1 0 .lost .waiting false] true, by unfold State.fires; decide +kernel⟩⟩

theorem test_hyps_ShotRecords :
    (∃ (s : State) (port : Fin 64) (e : Epoch) (n : Nat) (m : Member) (rev : Bool), s.fir.cur = some e ∧ (findFlying e (fun m rev => sendPort e.view m.path rev == port.val) = some (n, m, rev)) ∧ m.path < 32 ∧ m.engine < 4 ∧ s.bursting e n m rev = true)
    ∧ (∀ x ∈ ([(fireHub 99999 [mb 1 3 13 .queued .flying true] true, 1, capOf 50, fireEp [mb 1 3 13 .queued .flying true] true, 0, mb 1 3 13 .queued .flying true, true), (fireHub 99999 [mb 1 3 13 .flying .waiting true] true, 1, capOf 50, fireEp [mb 1 3 13 .flying .waiting true] true, 0, mb 1 3 13 .flying .waiting true, false)] : List (State × (Fin 32) × Capture × Epoch × Nat × Member × Bool)), x.1.captureEnds x.2.1 x.2.2.2.1 x.2.2.2.2.1 x.2.2.2.2.2.1 x.2.2.2.2.2.2 ∧ x.2.2.2.2.2.1.engine < 4 ∧ (x.1.shotQueue x.2.2.2.2.2.1.engine).length < 16)
    ∧ (∀ x ∈ ([({ fireHub 99999 [mb 1 3 13 .queued .flying true] true with fir.queues := [(3, List.replicate 16 ⟨1, 1, 1, false, none, capOf 3⟩)] }, 1, capOf 50, fireEp [mb 1 3 13 .queued .flying true] true, 0, mb 1 3 13 .queued .flying true, true), ({ fireHub 99999 [mb 1 3 13 .flying .waiting true] true with fir.queues := [(3, List.replicate 16 ⟨1, 1, 1, false, none, capOf 3⟩)] }, 1, capOf 50, fireEp [mb 1 3 13 .flying .waiting true] true, 0, mb 1 3 13 .flying .waiting true, false)] : List (State × (Fin 32) × Capture × Epoch × Nat × Member × Bool)), x.1.captureEnds x.2.1 x.2.2.2.1 x.2.2.2.2.1 x.2.2.2.2.2.1 x.2.2.2.2.2.2 ∧ x.2.2.2.2.2.1.path < 32 ∧ x.2.2.2.2.2.1.engine < 4 ∧ 16 ≤ (x.1.shotQueue x.2.2.2.2.2.1.engine).length)
    ∧ (∃ (s : State) (k : Fin 4) (x : Shot) (rest : List Shot) (ep : Epoch), s.shotReady k x rest ep ∧ x.rev = false ∧ (measureShot ep.view [] (s.pathHistory x.path false) x).code = 0)
    ∧ (∃ (s : State) (k : Fin 4) (x : Shot) (rest : List Shot) (ep : Epoch) (m : Measured), s.shotReady k x rest ep ∧ x.rev = false ∧ x.path < 32 ∧ m = measureShot ep.view [] (s.pathHistory x.path false) x ∧ m.code ≠ 0 ∧ m.ampTest = false)
    ∧ (∃ (s : State) (k : Fin 4) (x : Shot) (rest : List Shot) (ep : Epoch) (h : HalfPair) (m : Measured), s.shotReady k x rest ep ∧ x.rev = true ∧ x.path < 32 ∧ s.mirrorOf x = some h ∧ h.shot.rev = false ∧ m = measureShot ep.view [] (s.pathHistory x.path true) x ∧ m.code = 0 ∧ m.amp ≤ 2 * h.amp ∧ h.amp ≤ 2 * m.amp ∧ (s.pathHistory x.path false).ref = none ∧ (s.pathHistory x.path true).ref = none)
    ∧ (∃ (s : State) (k : Fin 4) (x : Shot) (rest : List Shot) (ep : Epoch) (d : Denial), s.shotReady k x rest ep ∧ s.mirrorOf x = none ∧ x.path < 32) :=
  ⟨⟨fireHub 3 [mb 1 3 13 .flying .waiting true] true, 0, fireEp [mb 1 3 13 .flying .waiting true] true, 0, mb 1 3 13 .flying .waiting true, false, by decide +kernel⟩,
   by unfold State.captureEnds; decide +kernel,
   by unfold State.captureEnds; decide +kernel,
   ⟨tailHub [mb 1 3 13 .queued .lost true] [⟨5, 0, 1, false, some 1, goodCap⟩], 3, ⟨5, 0, 1, false, some 1, goodCap⟩, [], tailEp [mb 1 3 13 .queued .lost true], by unfold State.shotReady; decide +kernel⟩,
   ⟨tailHub [mb 1 3 13 .queued .lost true] [⟨5, 0, 1, false, none, capOf 50⟩], 3, ⟨5, 0, 1, false, none, capOf 50⟩, [], tailEp [mb 1 3 13 .queued .lost true], ⟨1, false, 50, none⟩, by unfold State.shotReady; decide +kernel⟩,
   ⟨{ tailHub [mb 1 3 13 .processed .queued true] [⟨5, 0, 1, true, some 1, goodCap⟩] with arv.waiting := [⟨⟨5, 0, 1, false, some 1, goodCap⟩, 500, 77⟩] }, 3, ⟨5, 0, 1, true, some 1, goodCap⟩, [], tailEp [mb 1 3 13 .processed .queued true], ⟨⟨5, 0, 1, false, some 1, goodCap⟩, 500, 77⟩, ⟨0, false, 1000, some 31249000⟩, by unfold State.shotReady; decide +kernel⟩,
   ⟨tailHub [mb 1 3 13 .queued .lost true] [⟨5, 0, 1, false, some 1, goodCap⟩], 3, ⟨5, 0, 1, false, some 1, goodCap⟩, [], tailEp [mb 1 3 13 .queued .lost true], ⟨1, false⟩, by unfold State.shotReady; decide +kernel⟩⟩

theorem test_hyps_Conversions :
    (∃ (s : State) (c : Fin 16) (ratio : Int) (e : Epoch) (tt : Rat) (x : Int), s.chanConverts c e ∧ mkRat 2 100 ≤ mkRat ratio (2 ^ 32) ∧ mkRat ratio (2 ^ 32) ≤ mkRat 98 100 ∧ rtdTemp (mkRat ratio (2 ^ 32) * mkRat (vget e.view TMP_REF.RREF) (vget e.view (TMP_RNOM.RNOM c))) = some tt ∧ x = roundQ (100000 * tt) + vgetI e.view (TMP_CFG.OFS c) ∧ -2147483648 ≤ x ∧ x ≤ 2147483647)
    ∧ (∀ x ∈ ([({ hub [] with fir.cur := some (anEpoch [(TMP_CFG.addr 15, 1)] []), flo.channels := [(15, ⟨some 4, 3⟩)] , time := { State.reset.time with cyc := 100000 } }, 15, 0, anEpoch [(TMP_CFG.addr 15, 1)] []), ({ hub [] with fir.cur := some (anEpoch [(TMP_CFG.addr 15, 1)] []), flo.channels := [(15, ⟨some 4, 2⟩)] , time := { State.reset.time with cyc := 100000 } }, 15, 0, anEpoch [(TMP_CFG.addr 15, 1)] [])] : List (State × (Fin 16) × Int × Epoch)), x.1.chanConverts x.2.1 x.2.2.2)
    ∧ (∃ (s : State) (k : Fin 4) (ratio : Int) (ref : Bool) (e : Epoch) (x : Int) (r : Rat), s.chanConverts (16 + k) e ∧ r = mkRat (ratio * 1000000) (2 ^ 32) ∧ absQ r < 400000 ∧ x = roundQ (mkRat (vgetI e.view (BRG_P0.P k)) 1 + mkRat (vgetI e.view (BRG_P1.P k)) 1 * (r / 1000000) + mkRat (vgetI e.view (BRG_P2.P k)) 1 * (r / 1000000) * (r / 1000000)) ∧ -2147483648 ≤ x ∧ x ≤ 2147483647)
    ∧ (∃ (s : State) (c : Fin 16) (conv : Conversion) (e : Epoch), s.chanConverts c e ∧ conv.stalled = true)
    ∧ (∃ (s : State) (c : Fin 16) (conv : Conversion) (e : Epoch), s.fir.cur = some e ∧ s.mayConvert e c = true ∧ ((∀ x ∈ s.fir.tails, x.id ≠ e.id)) ∧ (s.convQueue (4 + c / 4)).length = 4 ∧ conv.stalled = true ∧ conv.refOut = false) :=
  ⟨⟨{ hub [] with fir.cur := some (anEpoch [(TMP_CFG.addr 15, 1)] []), flo.channels := [(15, ⟨some 4, 3⟩)] , time := { State.reset.time with cyc := 100000 } }, 15, 0x40000000, anEpoch [(TMP_CFG.addr 15, 1)] [], ((rtdTemp (mkRat (0x40000000) (2 ^ 32) * mkRat (vget (anEpoch [(TMP_CFG.addr 15, 1)] []).view TMP_REF.RREF) (vget (anEpoch [(TMP_CFG.addr 15, 1)] []).view (TMP_RNOM.RNOM (15))))).getD 0), roundQ (100000 * (((rtdTemp (mkRat (0x40000000) (2 ^ 32) * mkRat (vget (anEpoch [(TMP_CFG.addr 15, 1)] []).view TMP_REF.RREF) (vget (anEpoch [(TMP_CFG.addr 15, 1)] []).view (TMP_RNOM.RNOM (15))))).getD 0))) + vgetI (anEpoch [(TMP_CFG.addr 15, 1)] []).view (TMP_CFG.OFS (15)), by unfold State.chanConverts; decide +kernel⟩,
   by unfold State.chanConverts; decide +kernel,
   ⟨{ hub [] with fir.cur := some (anEpoch [(BRG_CFG.addr 3, 1), (BRG_P1.addr 3, 0xFFFFFFFF)] []) , time := { State.reset.time with cyc := 100000 } }, 3, -1000, false, anEpoch [(BRG_CFG.addr 3, 1), (BRG_P1.addr 3, 0xFFFFFFFF)] [], roundQ (mkRat (vgetI (anEpoch [(BRG_CFG.addr 3, 1), (BRG_P1.addr 3, 0xFFFFFFFF)] []).view (BRG_P0.P (3))) 1 + mkRat (vgetI (anEpoch [(BRG_CFG.addr 3, 1), (BRG_P1.addr 3, 0xFFFFFFFF)] []).view (BRG_P1.P (3))) 1 * ((mkRat (-1000 * 1000000) (2 ^ 32)) / 1000000) + mkRat (vgetI (anEpoch [(BRG_CFG.addr 3, 1), (BRG_P1.addr 3, 0xFFFFFFFF)] []).view (BRG_P2.P (3))) 1 * ((mkRat (-1000 * 1000000) (2 ^ 32)) / 1000000) * ((mkRat (-1000 * 1000000) (2 ^ 32)) / 1000000)), mkRat ((-1000) * 1000000) (2 ^ 32), by unfold State.chanConverts; decide +kernel⟩,
   ⟨{ hub [(TMP_CFG.EN 0, 1)] with fir.cur := some (anEpoch [(TMP_CFG.addr 0, 1)] []) , time := { State.reset.time with cyc := 100000 } }, 0, ⟨false, false, true, 5⟩, anEpoch [(TMP_CFG.addr 0, 1)] [], by unfold State.chanConverts; decide +kernel⟩,
   ⟨{ hub [(TMP_CFG.EN 0, 1)] with fir.cur := some (anEpoch [(TMP_CFG.addr 0, 1)] []), flo.queues := [(4, (List.replicate 4 ⟨5, 1, ⟨false, false, true, 5⟩⟩))] , time := { State.reset.time with cyc := 100000 } }, 0, ⟨false, false, true, 5⟩, anEpoch [(TMP_CFG.addr 0, 1)] [], by decide +kernel⟩⟩

theorem test_hyps_PublicationAndBilling :
    (∃ (s : State) (nge : Bool) (refused : Option Denial) (e : Epoch), s.measuring = true ∧ (s.fir.tails.find? (fun e => !e.cut) = some e) ∧ s.tailReached e 38 = true)
    ∧ (∃ (s : State) (e : Epoch) (rest : List Epoch), s.tailOnly e rest [FIR_PUB.addr, FIR_PUBLEN.addr])
    ∧ (∃ (s : State) (e : Epoch) (rest : List Epoch) (r : MpResult), (s.tailOnly e rest ((totalAddrs r.mp).flatMap (fun a => [a, a + 1]))) ∧ e.cut = true ∧ e.results = [r] ∧ r.mp < 4 ∧ r.gains.length = 5 ∧ s.fab.restarting = [])
    ∧ (∀ x ∈ ([(hub [(BIL_MP_CFG.EN 0,1),(BIL_MP_CFG.EN 3,1)], 9), (hub [], 0)] : List (State × (BitVec 4))), x.1.twillRuns = true ∧ x.1.billable x.2 ∧ ((∀ i ∈ maskPoints x.2, (x.1.bill i).command = none ∧ (x.1.bill i).reset = false)))
    ∧ (∃ (s : State) (mask : BitVec 4), s.twillRuns = true ∧ s.billable mask ∧ ((∀ i ∈ maskPoints mask, (s.bill i).command = none ∧ (s.bill i).reset = false)))
    ∧ (∀ x ∈ ([({ hub [(BIL_MP_CFG.EN 0,1),(BIL_MP_CFG.EN 3,1)] with bil.points := [(3, { (hub []).bill 3 with reset := true })] }, 9, .bilCmdClose 9), ({ hub [(BIL_MP_CFG.EN 0,1),(BIL_MP_CFG.EN 3,0)] with bil.points := [(3, { (hub []).bill 3 with command := some 4 })] }, 9, .resettr 9)] : List (State × (BitVec 4) × Instr)), x.2.2 ∈ [Instr.bilCmdClose x.2.1, .resettr x.2.1] ∧ x.1.twillRuns = true ∧ ((∃ i ∈ maskPoints x.2.1, (x.1.bill i).command ≠ none ∨ (x.1.bill i).reset = true))) :=
  ⟨⟨{ hub [] with fir.tails := [anEpoch [] []] , time := { State.reset.time with runCyc := 100000 } }, true, none, anEpoch [] [], by decide +kernel⟩,
   ⟨{ hub [] with fir.tails := [anEpoch [] []] , time := { State.reset.time with runCyc := 100000 } }, anEpoch [] [], [], by unfold State.tailOnly; decide +kernel⟩,
   ⟨{ (hub []) with regs := (((hub []).wr (FLO_VOLF.addr 3) 0xFFFFFFFF).wr (FLO_VOLF.addr 3 + 1) 0xFFFFFFFF).regs, flo.residues := [(15, 0xFFFFFFFF)], fir.tails := [{ anEpoch [] [] with cut := true, results := [⟨3, [], [], [1, 2, 3, -4, 5], 0, 0⟩] }] , time := { State.reset.time with runCyc := 100000 } }, { anEpoch [] [] with cut := true, results := [⟨3, [], [], [1, 2, 3, -4, 5], 0, 0⟩] }, [], ⟨3, [], [], [1, 2, 3, -4, 5], 0, 0⟩, by unfold State.tailOnly; decide +kernel⟩,
   by unfold State.billable; decide +kernel,
   ⟨hub [(BIL_MP_CFG.EN 0,1),(BIL_MP_CFG.EN 3,1)], 9, by unfold State.billable; decide +kernel⟩,
   by decide +kernel⟩

theorem test_hyps_Sessions :
    (∀ x ∈ ([(hub [], true), ({ hub [(SEA_STAT.VSW,1),(SEA_STAT.SESSION,1)] with pwr.dozeEntry := true }, false)] : List (State × Bool)), x.1.mode = .run ∧ x.1.umb.frozen = false ∧ x.1.on SEA_STAT.VSW = !x.2)
    ∧ (∀ x ∈ ([hub [(SEA_STAT.VSW,1),(SEA_STAT.VIRGIN,1)], { hub [] with sea.lockEnd := some 5 }] : List (State)), x.twillRuns = true ∧ x.on SYS_VS_STAT.BUSY = false ∧ x.fab.restarting.contains 0 = false ∧ x.boot.steps.testBit 3 = true)
    ∧ (∃ (s : State), s.openDone ∧ s.sea.opening = some true ∧ s.loc.opt.stage = .idle)
    ∧ (∀ x ∈ ([{ hub [(SEA_LOCK.FAILS, 7)] with sea.opening := some false , time := { State.reset.time with runCyc := 100000 } }, { hub [(SEA_LOCK.FAILS, 8), (SEA_LOCK.LEVEL, 11)] with sea.opening := some false , time := { State.reset.time with runCyc := 100000 } }] : List (State)), x.openDone ∧ x.sea.opening = some false ∧ x.loc.opt.stage = .idle)
    ∧ (∃ (s : State), s.twillRuns = true ∧ s.on SEA_STAT.SESSION = true)
    ∧ (∃ (s : State), s.on SEA_STAT.SESSION = true ∧ s.umb.frozen = false ∧ s.sea.sessionEnd ≤ s.time.aoTick)
    ∧ (∃ (s : State) (e : Nat), s.sea.lockEnd = some e ∧ s.umb.frozen = false ∧ e ≤ s.time.aoTick) :=
  ⟨by decide +kernel,
   by decide +kernel,
   ⟨{ hub [(SEA_LOCK.FAILS, 4)] with sea.opening := some true , time := { State.reset.time with runCyc := 100000 } }, by unfold State.openDone; decide +kernel⟩,
   by unfold State.openDone; decide +kernel,
   ⟨hub [(SEA_STAT.SESSION,1)], by decide +kernel⟩,
   ⟨hub [(SEA_STAT.SESSION,1)], by decide +kernel⟩,
   ⟨{ hub [] with sea.lockEnd := some 5, time.aoTick := 5 }, 5, by decide +kernel⟩⟩

theorem test_hyps_Patches :
    (∃ (s : State), s.twillRuns = true ∧ s.on SYS_PATCH_STAT.BUSY = false)
    ∧ (∀ x ∈ ([({ hub [(SYS_PATCH_STAT.BUSY,1)] with sea.installing := some 0x420000 }, 0x420000), ({ hub [(SYS_PATCH_STAT.BUSY,1)] with sea.installing := some 0x420000, calico := [(0x80000,0x31),(0x80001,0x48),(0x80002,0x43),(0x80003,0x50),(0x80004,0x01),(0x80005,0x01),(0x80006,0x40),(0x80008,0x05)] }, 0x420000)] : List (State × Nat)), x.1.lgcRuns = true ∧ x.1.sea.installing = some x.2 ∧ x.1.boot.unrecalled = [] ∧ x.1.fab.eccSingle = [] ∧ x.1.fab.eccDouble = [])
    ∧ (∀ x ∈ ([(hub [], 2), ((hub []).wr (SEA_PATCH_FLOOR.addr 0) 0x12345678, 1)] : List (State × (BitVec 2))), x.1.twillRuns = true ∧ x.1.on SYS_PATCH_STAT.BUSY = false ∧ (x.2 = 1 ∨ x.2 = 2) ∧ x.1.boot.unrecalled = [])
    ∧ (∃ (s : State) (a : Nat) (k : Nat), s.lgcRuns = true ∧ s.sea.installing = some a ∧ 0x420000 ≤ a ∧ a + 1 < 0x460000 ∧ s.headerCode a ((List.range 64).map (s.imageWord a)) = 0 ∧ s.fab.eccSingle = [] ∧ s.fab.eccDouble = [k] ∧ a - 0x400000 + 64 ≤ k ∧ k < a - 0x400000 + patchLen ((List.range 64).map (s.imageWord a)))
    ∧ (∃ (s : State) (a : Nat) (k : Nat), s.lgcRuns = true ∧ s.sea.installing = some a ∧ 0x420000 ≤ a ∧ a + 1 < 0x460000 ∧ s.headerCode a ((List.range 64).map (s.imageWord a)) ≠ 1 ∧ s.fab.eccSingle = [] ∧ s.fab.eccDouble = [k] ∧ a - 0x400000 ≤ k ∧ k < a - 0x400000 + 64) :=
  ⟨⟨hub [(SYS_PATCH_SRC.ADDR, 0x420000)], by decide +kernel⟩,
   by decide +kernel,
   by decide +kernel,
   ⟨patchHub (Config.romVersion 1), 0x420000, 131072 + 64, by decide +kernel, rfl, by decide, by decide, patchHub_header, rfl, rfl, by decide, by decide +kernel⟩,
   ⟨{ hub [] with sea.installing := some 0x420000, fab.eccDouble := [131072 + 63] }, 0x420000, 131072 + 63, by decide +kernel⟩⟩

theorem test_hyps_Stores_1 :
    (∃ (s : State), s.twillRuns = true)
    ∧ (∀ x ∈ ([({ hub [(STO_STAT.PENDING, 0x20)] with sto.dirty := [20, 40, 60, 70] }, 5), ({ hub [(STO_STAT.PENDING, 0x8)] with sto.dirty := [20, 40, 60, 70] }, 3)] : List (State × Nat)), x.1.sto.run = none ∧ x.1.nextStore = some x.2 ∧ x.1.storeRuns = true ∧ x.1.shed = false ∧ x.1.sto.exhausted.contains x.2 = false)
    ∧ (∃ (s : State) (n : Nat), s.sto.run = none ∧ s.nextStore = some n ∧ s.storeRuns = true ∧ s.shed = false ∧ s.sto.exhausted.contains n = true)
    ∧ (∃ (s : State) (r : StoreRun) (p : Nat) (rest : List Nat), s.storing r p rest ∧ r.retried = false)
    ∧ (∃ (s : State) (r : StoreRun), s.sto.run = some r ∧ r.todo = [] ∧ r.region < 16 ∧ s.storeRuns = true)
    ∧ (∀ x ∈ ([({ hub [(PLS_ADDR.ADDR, 77)] with sto.work := [⟨0, [PLS_ADDR.addr], 1, [4]⟩] }, ⟨0, [PLS_ADDR.addr], 1, [4]⟩, [], PLS_ADDR.addr, []), ({ hub [(PLS_ADDR.ADDR, 77)] with sto.work := [⟨0, [PLS_ADDR.addr, FIR_EPOCH.addr], 1, [4]⟩] }, ⟨0, [PLS_ADDR.addr, FIR_EPOCH.addr], 1, [4]⟩, [], PLS_ADDR.addr, [FIR_EPOCH.addr])] : List (State × FabricWork × (List FabricWork) × Nat × (List Nat))), x.1.twillRuns = true ∧ x.1.sto.work = x.2.1 :: x.2.2.1 ∧ x.2.1.kind = 0 ∧ x.2.1.words = x.2.2.2.1 :: x.2.2.2.2 ∧ x.1.boot.unrecalled = [])
    ∧ (∃ (s : State) (w : FabricWork) (rest : List FabricWork) (d : Denial), s.twillRuns = true ∧ s.sto.work = w :: rest) :=
  ⟨⟨hub [], by decide +kernel⟩,
   by decide +kernel,
   ⟨{ hub [(STO_STAT.PENDING, 0x20)] with sto.exhausted := [5] }, 5, by decide +kernel⟩,
   ⟨{ hub [] with vault := [(16,1),(4*0xB0, 9)], sto.run := some ⟨4, [40], 3, false⟩ }, ⟨4, [40], 3, false⟩, 40, [], by unfold State.storing; decide +kernel⟩,
   ⟨{ hub [] with sto.run := some ⟨12, [], 3, false⟩ }, ⟨12, [], 3, false⟩, by decide +kernel⟩,
   by decide +kernel,
   ⟨{ hub [] with sto.work := [⟨0, [1], 1, [4]⟩] }, ⟨0, [1], 1, [4]⟩, [], ⟨0, false⟩, by decide +kernel⟩⟩

theorem test_hyps_Stores_2 : ∃ (s : State) (good : Bool), s.storeEnds = true :=
  ⟨{ hub [] with pwr.pf := .storing, pwr.storeCut := true, sto.run := some ⟨16, [3], 0, false⟩, sto.atBoundary := true }, true, by decide +kernel⟩

theorem test_hyps_StoredPages :
    (∀ x ∈ ([({ hub [] with vault := [(16,1),(4*0xB0, 9)], sto.run := some ⟨4, [40, 41], 3, false⟩, sto.array := [(40*256+1, 5),(42*256+1,6)] }, ⟨4, [40, 41], 3, false⟩, 40, [41]), ({ hub [] with vault := [(16,1),(4*0xB0, 9)], sto.run := some ⟨4, [40], 3, true⟩, sto.dirty := [40], sto.sram := [(40*256, 9)] }, ⟨4, [40], 3, true⟩, 40, []), ({ hub [] with vault := [(16,1),(4*0xB0, 9)], sto.run := some ⟨4, [40], 3, true⟩, sto.dirty := [40], sto.copyStale := true, sto.sram := [(40*256, 9)] }, ⟨4, [40], 3, true⟩, 40, [])] : List (State × StoreRun × Nat × (List Nat))), x.1.storing x.2.1 x.2.2.1 x.2.2.2)
    ∧ (∃ (s : State) (r : StoreRun) (p : Nat) (rest : List Nat), s.storing r p rest ∧ r.retried = true ∧ regionSealed (pageRegion p) = false ∧ s.sto.openUsed < 16) :=
  ⟨by unfold State.storing; decide +kernel,
   ⟨{ hub [] with vault := [(16,1),(4*0xB0, 9)], sto.run := some ⟨12, [510], 3, true⟩ }, ⟨12, [510], 3, true⟩, 510, [], by unfold State.storing; decide +kernel⟩⟩

theorem test_hyps_StorePort :
    (∀ x ∈ ([({ hub [] with fab.leases := [(0, ⟨some 13, 100, []⟩)] }, 13, 0x8001), ({ hub [] with fab.leases := [(0, ⟨some 13, 100, []⟩)], sto.exhausted := [15] }, 13, 0x8001)] : List (State × (Fin 14) × (BitVec 16))), x.1.portReady x.2.1)
    ∧ (∀ x ∈ ([({ hub [(STO_PLEN.LEN, 8)] with fab.leases := [(0, ⟨some 0, 100, []⟩)] }, 0, 3, true), ({ hub [(STO_PLEN.LEN, 8)] with fab.leases := [(0, ⟨some 2, 100, []⟩)] }, 2, 7, false)] : List (State × (Fin 14) × (Fin 32) × Bool)), x.1.portReady x.2.1 ∧ x.2.2.1.val < 16 ∧ regionOwner x.2.2.1 = x.2.1.val ∧ portForbidden (if x.2.2.2 then 3 else 2) x.2.2.1 (x.1.get STO_PADDR.OFFSET) (x.1.get STO_PLEN.LEN) = false ∧ portInside (if x.2.2.2 then 3 else 2) x.2.2.1 (x.1.get STO_PADDR.OFFSET) (x.1.get STO_PLEN.LEN) = true)
    ∧ (∀ x ∈ ([({ hub [(STO_PLEN.LEN, 8)] with fab.leases := [(0, ⟨some 2, 100, []⟩)] }, 2, 15, 2, .stoRead 2 15), ({ hub [(STO_PLEN.LEN, 8)] with fab.leases := [(0, ⟨some 2, 100, []⟩)] }, 2, 12, 3, .stoWrite 2 12), ({ hub [] with fab.leases := [(0, ⟨some 2, 100, []⟩)] }, 2, 12, 4, .stoSetPwr 2 12), ({ hub [] with fab.leases := [(0, ⟨some 2, 100, []⟩)] }, 2, 12, 5, .stoSetPww 2 12)] : List (State × (Fin 14) × (Fin 32) × Nat × Instr)), (x.2.2.2.1, x.2.2.2.2) ∈ [(2, Instr.stoRead x.2.1 x.2.2.1), (3, .stoWrite x.2.1 x.2.2.1), (4, .stoSetPwr x.2.1 x.2.2.1), (5, .stoSetPww x.2.1 x.2.2.1)] ∧ x.1.portReady x.2.1 ∧ 12 ≤ x.2.2.1.val ∧ x.2.2.1.val < 16 ∧ x.2.1.val < 14 ∧ x.1.portLocked x.2.2.1 = false)
    ∧ (∃ (s : State) (who : Fin 14) (x : Transfer), s.granted who STO_PCMD.addr (.write 0) ∧ s.sto.transfer = some x)
    ∧ (∃ (s : State) (who : Fin 14) (x : Transfer), s.granted who STO_PDATA.addr .read ∧ s.sto.transfer = some x ∧ x.write = false ∧ 1 < x.left ∧ x.left < 8192 ∧ s.boot.unrecalled = [])
    ∧ (∃ (s : State) (who : Fin 14) (v : Word) (x : Transfer), s.granted who STO_PDATA.addr (.write v) ∧ s.sto.transfer = some x ∧ x.write = true ∧ 1 < x.left ∧ x.left < 8192 ∧ s.boot.unrecalled = []) :=
  ⟨by unfold State.portReady State.granted; decide +kernel,
   by unfold State.portReady State.granted; decide +kernel,
   by unfold State.portReady State.granted; decide +kernel,
   ⟨{ hub [(STO_PSTAT.OPEN,1)] with fab.leases := [(0, ⟨some 2, 100, []⟩)], sto.transfer := some ⟨true, 12, 0, 4, 2⟩ }, 2, ⟨true, 12, 0, 4, 2⟩, by unfold State.granted; decide +kernel⟩,
   ⟨{ hub [] with fab.leases := [(0, ⟨some 2, 100, []⟩)], sto.sram := [(256 * regionFirst 12 + 8, 7)], sto.transfer := some ⟨false, 12, 8, 2, 2⟩ }, 2, ⟨false, 12, 8, 2, 2⟩, by unfold State.granted; decide +kernel⟩,
   ⟨{ hub [] with fab.leases := [(0, ⟨some 2, 100, []⟩)], sto.sram := [(256 * regionFirst 12 + 8, 7)], sto.transfer := some ⟨true, 12, 8, 8191, 2⟩ }, 2, 0x01020304, ⟨true, 12, 8, 8191, 2⟩, by unfold State.granted; decide +kernel⟩⟩

theorem test_hyps_AccessChecks :
    (∀ x ∈ ([({ hub [(STO_PSTAT.BUSY,1),(STO_LOCK.FAILS 12, 8)] with sto.check := some ⟨2, 12, 0, 4, 2, [], false, false, false, 0⟩ , time := { State.reset.time with runCyc := 100000 } }, ⟨2, 12, 0, 4, 2, [], false, false, false, 0⟩), ({ hub [(STO_PSTAT.BUSY,1),(STO_LOCK.FAILS 16, 7)] with sto.check := some ⟨2, 31, 0, 4, 2, [], false, false, false, 0⟩ , time := { State.reset.time with runCyc := 100000 } }, ⟨2, 31, 0, 4, 2, [], false, false, false, 0⟩)] : List (State × PortCheck)), x.1.checkDone x.2 ∧ x.2.good = false ∧ x.2.region < 32 ∧ x.2.owner = false ∧ x.2.locked = false)
    ∧ (∃ (s : State) (k : PortCheck), s.checkDone k ∧ k.good = true ∧ k.cmd ≤ 3 ∧ (s.lease 0).holder = some k.who)
    ∧ (∀ x ∈ ([({ hub [(STO_PSTAT.BUSY,1),(STO_LOCK.FAILS 12, 8)] with fab.leases := [(0, ⟨some 2, 100, []⟩)], sto.check := some ⟨4, 12, 0, 4, 2, [1, 2], false, false, true, 0⟩ , time := { State.reset.time with runCyc := 100000 } }, ⟨4, 12, 0, 4, 2, [1, 2], false, false, true, 0⟩, 1, 2), ({ hub [(STO_PSTAT.BUSY,1),(STO_LOCK.FAILS 15, 8)] with sto.check := some ⟨5, 15, 0, 4, 2, [0, 2], false, false, true, 0⟩ , time := { State.reset.time with runCyc := 100000 } }, ⟨5, 15, 0, 4, 2, [0, 2], false, false, true, 0⟩, 0, 2)] : List (State × PortCheck × Word × Word)), x.1.checkDone x.2.1 ∧ x.2.1.good = true ∧ 3 < x.2.1.cmd ∧ x.2.1.new = [x.2.2.1, x.2.2.2] ∧ x.1.boot.unrecalled = [])
    ∧ (∃ (s : State) (c : Fin 17) (e : Nat), Sparse.find s.sto.lockEnd c = some e ∧ e ≤ s.time.aoTick) :=
  ⟨by unfold State.checkDone; decide +kernel,
   ⟨{ hub [(STO_PSTAT.BUSY,1),(STO_LOCK.FAILS 12, 8)] with fab.leases := [(0, ⟨some 2, 100, []⟩)], sto.check := some ⟨2, 12, 0, 4, 2, [], false, false, true, 0⟩ , time := { State.reset.time with runCyc := 100000 } }, ⟨2, 12, 0, 4, 2, [], false, false, true, 0⟩, by unfold State.checkDone; decide +kernel⟩,
   by unfold State.checkDone; decide +kernel,
   ⟨{ hub [] with sto.lockEnd := [(12, 7), (16, 3)], time.aoTick := 3 }, 16, 3, by decide +kernel⟩⟩

theorem test_hyps_Keys :
    (∀ x ∈ ([((hub [(SEC_KS_CFG.GEN 31, 255)]).wr (SEC_KEYW.addr 3) 0x01020304, 31, false, 8), ({ (hub []).wr (SEC_KEYW.addr 7) 0x01020304 with sec.rx := [⟨4, 31, 7⟩] }, 31, true, 7)] : List (State × (Fin 32) × Bool × (BitVec 4))), x.1.twillRuns = true ∧ (x.2.2.2.toNat < 8 ∨ (x.2.2.2.toNat = 8 ∧ x.2.2.1 = false)) ∧ x.1.framesIdle ∧ x.1.sto.exhausted = [] ∧ x.1.boot.unrecalled = [])
    ∧ (∀ x ∈ ([(hub [], 3, true, 8), (hub [], 3, false, 9)] : List (State × (Fin 32) × Bool × (BitVec 4))), x.1.twillRuns = true ∧ 8 ≤ x.2.2.2.toNat ∧ (x.2.2.2.toNat ≠ 8 ∨ x.2.2.1 = true))
    ∧ (∃ (s : State) (slot : Fin 32), s.twillRuns = true ∧ s.boot.unrecalled = [])
    ∧ (∃ (s : State) (n : Fin 32) (lim : Nat), s.twillRuns = true ∧ s.reservationOver = true ∧ s.sto.exhausted = [] ∧ s.sec.pending = [(n.val, lim)] ∧ lim < 2 ^ 32 ∧ s.framesIdle) :=
  ⟨by unfold State.framesIdle; decide +kernel,
   by decide +kernel,
   ⟨hub [(SEC_KS_CFG.STATE 3, 1)], 3, by decide +kernel⟩,
   ⟨{ hub [] with sto.resvPending := true, sec.pending := [(31, 1024)] }, 31, 1024, by unfold State.framesIdle; decide +kernel⟩⟩

theorem test_hyps_TrainsSent_1 :
    (∃ (s : State) (f : OutFrame), s.plsLoads ∧ s.pls.train = none ∧ s.pls.own = [f] ∧ f.slot = none ∧ f.relay = false)
    ∧ (∀ x ∈ ([({ plsHub [] with fab.leases := [(3, ⟨some 2, 9, []⟩)], pls.train := some (trOf [fr [1] 9] .backoff 0) }, ⟨0x01020304, [1,2], none, true, false, false, false⟩, trOf [fr [1] 9] .backoff 0, (((plsHub []).routeFor 0x01020304).getD (0,[],0)).1, (((plsHub []).routeFor 0x01020304).getD (0,[],0)).2.2, (((plsHub []).routeFor 0x01020304).getD (0,[],0)).2.1), ({ plsHub [] with fab.leases := [(3, ⟨some 2, 9, []⟩)], pls.train := some (trOf [fr [1] 9] .backoff 0) }, ⟨0xFFFFFFFF, [1,2], none, true, false, false, false⟩, trOf [fr [1] 9] .backoff 0, (((plsHub []).routeFor 0xFFFFFFFF).getD (0,[],0)).1, (((plsHub []).routeFor 0xFFFFFFFF).getD (0,[],0)).2.2, (((plsHub []).routeFor 0xFFFFFFFF).getD (0,[],0)).2.1)] : List (State × NetMessage × Train × Nat × Nat × (List Byte))), x.1.plsLoads ∧ x.1.pls.train = some x.2.2.1 ∧ x.2.1.slot = none ∧ x.1.routeFor x.2.1.dst.toNat = some (x.2.2.2.1, x.2.2.2.2.2, x.2.2.2.2.1) ∧ x.1.on PLS_CFG.ROLE = false ∧ 25 + x.2.2.2.2.2.length + x.2.1.payload.length ≤ 192 ∧ (x.1.get SEC_CFG.REQUIRE).testBit 0 = false)
    ∧ (∃ (s : State) (r : Nat) (t : Train), s.pls.train = some t ∧ t.stage = .backoff ∧ s.plsRunning = true ∧ s.mediumBusy = false ∧ s.plsLocked = true ∧ s.pls.ackDue = none ∧ r < 2 ^ s.cwExp ∧ 16 ≤ s.pls.idle ∧ 8 * r ≤ s.pls.counted)
    ∧ (∀ x ∈ ([({ plsHub [(PLS_CNT0.TRAINS,65535)] with pls.train := some ({ trOf [frA [1] 9] .sending 0 with pos := 500 }) }, { trOf [frA [1] 9] .sending 0 with pos := 500 }), ({ plsHub [] with pls.train := some ({ trOf [fr [1] 9] .sending 0 with pos := 500 }) }, { trOf [fr [1] 9] .sending 0 with pos := 500 }), ({ plsHub [] with pls.train := some ({ trOf [fr [1] 9] .sending 0 with pos := 500, ack := true }), pls.held := some (trOf [frA [1] 9] .ackWait 3), pls.counted := 5 }, { trOf [fr [1] 9] .sending 0 with pos := 500, ack := true })] : List (State × Train)), x.1.pls.train = some x.2 ∧ x.2.stage = .sending ∧ x.2.length ≤ x.2.pos)
    ∧ (∃ (s : State) (phase : Fin 3) (t : Train), 8 ≤ (Sparse.find s.pls.weak phase.val).getD 0 ∧ s.pls.train = some t ∧ t.stage = .sending ∧ t.ack = false ∧ ((∀ f ∈ t.frames, f.tries < s.get PLS_MAC.RETRY)))
    ∧ ((∃ (s : State) (t : Train), s.on PLS_STAT.PAUSED = true ∧ s.get PLS_MAC.GAPMAX ≤ s.pls.gap ∧ s.pls.train = some t ∧ t.stage = .sending ∧ t.ack = false ∧ ((∀ f ∈ t.frames, f.tries < s.get PLS_MAC.RETRY))) ∧ (∃ (s : State) (t : Train), s.on PLS_STAT.PAUSED = true ∧ s.get PLS_MAC.GAPMAX ≤ s.pls.gap ∧ s.pls.train = some t ∧ t.stage = .sending ∧ t.ack = false ∧ ((∀ f ∈ t.frames, f.tries < s.get PLS_MAC.RETRY))))
    ∧ (∀ x ∈ ([({ plsHub [] with pls.ackDue := some ⟨9, 1, 3, 0⟩ }, ⟨9, 1, 3, 0⟩), ({ plsHub [] with pls.ackDue := some ⟨9, 1, 3, 0⟩, pls.train := some (trOf [frA [1] 9] .ackWait 3) }, ⟨9, 1, 3, 0⟩)] : List (State × AckDue)), x.1.pls.ackDue = some x.2 ∧ x.2.left = 0 ∧ x.1.plsRunning = true ∧ x.1.plsLocked = true ∧ ((∀ t, x.1.pls.train = some t → t.stage ≠ .sending))) :=
  ⟨⟨{ plsHub [] with fab.leases := [(3, ⟨some 2, 9, []⟩)], pls.own := [{ fr [] 9 with plain := (plsHub []).plsPlain 0 0 false false 7 9 [] [1,2] }], pls.relays := [fr [1,2] 5] }, { fr [] 9 with plain := (plsHub []).plsPlain 0 0 false false 7 9 [] [1,2] }, by unfold State.plsLoads; decide +kernel⟩,
   by unfold State.plsLoads; decide +kernel,
   ⟨{ plsHub [] with pls.train := some (trOf [fr [1] 9] .backoff 0), pls.idle := 16, pls.counted := 8 }, 1, trOf [fr [1] 9] .backoff 0, by decide +kernel⟩,
   by decide +kernel,
   ⟨{ plsHub [] with pls.train := some (trOf [fr [1] 9, { fr [2] 9 with relay := true }] .sending 0), pls.weak := [(2, 8)], pls.own := [fr [3] 9] }, 2, trOf [fr [1] 9, { fr [2] 9 with relay := true }] .sending 0, by decide +kernel⟩,
   ⟨⟨{ plsHub [(PLS_STAT.PAUSED,1)] with pls.train := some (trOf [fr [1] 9, { fr [2] 9 with relay := true }] .sending 0), pls.gap := 500, pls.own := [fr [3] 9] }, trOf [fr [1] 9, { fr [2] 9 with relay := true }] .sending 0, by decide +kernel⟩, ⟨{ plsHub [(PLS_STAT.PAUSED,1)] with pls.train := some (trOf [fr [1] 9, { fr [2] 9 with relay := true }] .sending 0), pls.gap := 64, pls.own := [fr [3] 9] }, trOf [fr [1] 9, { fr [2] 9 with relay := true }] .sending 0, by decide +kernel⟩⟩,
   by decide +kernel⟩

theorem test_hyps_TrainsSent_2 : ∃ (s : State) (t : Train), s.pls.train = some t ∧ t.stage = .ackWait ∧ t.left = 0 ∧ s.nbrFind t.next = none ∧ ((∀ f ∈ t.frames, f.tries < s.get PLS_MAC.RETRY)) :=
  ⟨{ plsHub [] with pls.train := some (trOf [frA [1] 77, fr [2] 77] .ackWait 0 |> fun (t : Train) => { t with next := 77 }) }, (trOf [frA [1] 77, fr [2] 77] .ackWait 0 |> fun (t : Train) => { t with next := 77 }), by decide +kernel⟩

theorem test_hyps_LineReceived_1 :
    (∀ x ∈ ([({ plsHub [(PLS_STAT.PAUSED, 1)] with pls.train := some (trOf [fr [1] 9] .sending 0) }, [⟨[1,2,3,4], 0, 0, 5⟩], trOf [fr [1] 9] .sending 0), ({ plsHub [(PLS_CFG.PHASE, 1), (CLK_ZC.LOCK 1,1)] with pls.train := some ({ trOf [fr [1] 9] .sending 0 with pos := 500 }) }, [], { trOf [fr [1] 9] .sending 0 with pos := 500 })] : List (State × (List PhaseWave) × Train)), x.1.plsRunning = true ∧ x.1.pls.train = some x.2.2 ∧ x.2.2.stage = .sending ∧ x.1.plsLocked = true)
    ∧ (∀ x ∈ ([({ plsHub [(CLK_ZC.LOCK 0, 0)] with pls.train := some (trOf [fr [1] 9] .sending 0) }, [⟨[1,2,3,4], 0, 0, 5⟩], trOf [fr [1] 9] .sending 0), ({ plsHub [(CLK_ZC.LOCK 0, 0), (PLS_STAT.PAUSED, 1)] with pls.train := some (trOf [fr [1] 9] .sending 0) }, [⟨[1,2,3,4], 0, 0, 5⟩], trOf [fr [1] 9] .sending 0)] : List (State × (List PhaseWave) × Train)), x.1.plsRunning = true ∧ x.1.pls.train = some x.2.2 ∧ x.2.2.stage = .sending ∧ x.1.plsLocked = false)
    ∧ (∀ x ∈ ([({ plsHub [(CLK_ZC.LOCK 2, 1)] with pls.rx := some (plsRx 5) }, [⟨[1,2,3,4], 0, 0, 5⟩, ⟨[9,2,3,4], 0, 0, 5⟩]), ({ plsHub [(CLK_ZC.LOCK 0, 0)] with pls.rx := some (plsRx 5), pls.train := none }, []), (plsHub [], [⟨[100000,0,0,0], 0, 0, 5⟩])] : List (State × (List PhaseWave))), x.1.plsRunning = true ∧ x.1.pls.train = none)
    ∧ (∀ x ∈ ([(plsHub [], 2), ({ plsHub [] with pls.train := some (trOf [fr [1] 9] .backoff 0) }, 0)] : List (State × (Fin 3))), x.1.plsRunning = true ∧ x.1.pls.rx = none ∧ ((∀ t, x.1.pls.train = some t → t.stage ≠ .sending)))
    ∧ (∃ (s : State) (bytes : List Byte) (refused : Option Denial) (r : TrainRx), s.pls.rx = some r ∧ 3 ≤ bytes.length ∧ (crc8 (bytes.take 2) ≠ byteAt bytes 2 ∨ byteAt bytes 1 < 25 ∨ 192 < byteAt bytes 1) ∧ (r.symbols + 24) * r.r + 56 * r.span ≤ r.line.length)
    ∧ (∃ (s : State) (bytes : List Byte) (r : TrainRx) (n : Nat), s.plsArrived r bytes ∧ s.pod = false ∧ s.boot.unrecalled = [] ∧ (plsHeader bytes).type = 0 ∧ (plsHeader bytes).sec = false ∧ (plsHeader bytes).more = false ∧ (plsHeader bytes).routing = 0 ∧ (plsHeader bytes).net = s.get PLS_CFG.NETID ∧ (plsHeader bytes).next = s.get PLS_ADDR.ADDR ∧ (plsHeader bytes).dst = s.get PLS_ADDR.ADDR ∧ s.nbrFind (plsHeader bytes).prev = some n ∧ s.on PLS_CFG.ROLE = false ∧ (s.get SEC_CFG.REQUIRE).testBit 0 = false ∧ Sparse.find s.pls.taken (plsHeader bytes).prev ≠ some (plsHeader bytes).seq ∧ 6 ≤ bytes.length - 2 - (plsHeader bytes).body ∧ conTypes.contains (msgType ((bytes.take (bytes.length - 2)).drop (plsHeader bytes).body)) = true)
    ∧ (∃ (s : State), s.plsEnabled = true ∧ s.on PLS_CFG.NETMODE = true ∧ s.routesReady = true ∧ s.advertDue = true ∧ ((∀ n, n < 128 → s.on (PLS_RT_C.VALID n) = false))) :=
  ⟨by decide +kernel,
   by decide +kernel,
   by decide +kernel,
   by decide +kernel,
   ⟨{ plsHub [(PLS_STAT.RXACT,1)] with pls.rx := some (plsRx 24) }, [1,2,3], none, plsRx 24, by decide +kernel⟩,
   ⟨{ plsHub [(PLS_STAT.RXACT,1)] with pls.rx := some (plsRx 254) }, plsBytes, plsRx 254, 0, plsBytes_arrived, by decide +kernel⟩,
   ⟨plsHub [(PLS_CFG.NETMODE, 1)], by decide +kernel⟩⟩

theorem test_hyps_LineReceived_2 : ∃ (s : State) (n : Fin 32), s.plsEnabled = true ∧ s.on PLS_CFG.NETMODE = true ∧ s.boot.unrecalled = [] ∧ s.get (PLS_NBR_A.ADDR n) ≠ 0 ∧ (s.plsNbr n).heard + 3 * s.get PLS_MAC.ADV * 61440 ≤ s.time.aoTick :=
  ⟨{ plsHub [(PLS_CFG.NETMODE, 1),(PLS_RT_C.VALID 127,1),(PLS_RT_B.NEXT 127,9),(PLS_RT_C.VALID 0,1),(PLS_RT_B.NEXT 0,9)] with time.aoTick := 61440 * 10000 }, 0, by decide +kernel⟩

theorem test_hyps_RadioSending_1 :
    (∀ x ∈ ([({ radHub [] with fab.leases := [(2, ⟨some 2, 9, []⟩)], rad.rsd := 3, rad.nextId := 9 }, ⟨0x01020304, [1,2], none, true, true, false, false⟩), ({ radHub [(CON_POD_ST.STATE 3,1),(CON_POD_ADDR.ADDR 3,77)] with fab.leases := [(2, ⟨some 2, 9, []⟩)] }, ⟨77, [1,2], none, true, false, false, false⟩), ({ radHub [] with fab.leases := [(2, ⟨some 2, 9, []⟩)] }, ⟨0xFFFFFFFF, List.replicate 228 5, none, true, false, true, false⟩)] : List (State × NetMessage)), x.1.netRunning = true ∧ x.1.on RAD_CFG.EN = true ∧ x.1.coreUp 2 = true ∧ (x.1.lease 2).holder = some 2 ∧ (x.1.lease 2).queue = [] ∧ x.2.slot = none ∧ x.1.rad.own.length < 8 ∧ 27 + x.2.payload.length ≤ 255 ∧ (x.1.get SEC_CFG.REQUIRE).testBit 1 = false)
    ∧ (∀ x ∈ ([({ radHub [] with rad.own := [rf 4 (fr [1] 9)] }, 3, rf 4 (fr [1] 9), []), ({ radHub [(RAD_DUTY.BUDGET, 1)] with rad.own := [{ rf 4 (fr [1] 9) with air := 100001, reply := true }] }, 3, { rf 4 (fr [1] 9) with air := 100001, reply := true }, [])] : List (State × Nat × RadFrame × (List RadFrame))), x.1.radioIdle ∧ x.1.radCandidates = x.2.2.1 :: x.2.2.2 ∧ x.2.1 < 2 ^ x.2.2.1.be ∧ (x.2.2.1.reply = true ∨ x.1.dutyFits x.2.2.1.air = true))
    ∧ (∃ (s : State) (r : Nat) (f : RadFrame) (rest : List RadFrame), s.radioIdle ∧ s.radCandidates = f :: rest ∧ r < 2 ^ f.be ∧ f.reply = false ∧ s.dutyFits f.air = false ∧ f.dutyCounted = false)
    ∧ (∀ x ∈ ([({ radHub [] with rad.own := [{ rf 4 (fr [1] 9) with wake := true }], rad.relays := [rf 6 { fr [1] 9 with relay := true }], rad.active := some (4, .cca), rad.duty := [(0, 5)], time.aoTick := 3686400 }, 4, { rf 4 (fr [1] 9) with wake := true }), ({ radHub [] with rad.own := [rf 4 (fr [1] 9)], rad.relays := [rf 6 { fr [1] 9 with relay := true }], rad.active := some (6, .cca) }, 6, rf 6 { fr [1] 9 with relay := true })] : List (State × Nat × RadFrame)), x.1.rad.active = some (x.2.1, .cca) ∧ x.1.rad.ack = none ∧ x.1.radFrame x.2.1 = some x.2.2 ∧ x.1.passed x.1.rad.stageAt 160 = true)
    ∧ (∃ (s : State) (id : Nat) (f : RadFrame), s.rad.active = some (id, .cca) ∧ s.rad.ack = none ∧ s.radFrame id = some f ∧ s.passed s.rad.stageAt 160 = true ∧ f.busy + 1 < s.get RAD_CCA.CCAMAX)
    ∧ (∃ (s : State) (id : Nat) (f : RadFrame), s.rad.active = some (id, .cca) ∧ s.rad.ack = none ∧ s.radFrame id = some f ∧ s.passed s.rad.stageAt 160 = true ∧ s.get RAD_CCA.CCAMAX ≤ f.busy + 1 ∧ f.f.tries < s.get RAD_CCA.RETRY)
    ∧ (∃ (s : State) (id : Nat) (f : RadFrame), s.rad.active = some (id, .gwait) ∧ s.rad.ack = none ∧ s.radFrame id = some f ∧ s.passed s.rad.stageAt (1000 * s.get GLN_CFG.GWAIT) = true) :=
  ⟨by decide +kernel,
   by unfold State.radioIdle; decide +kernel,
   ⟨{ radHub [(RAD_DUTY.BUDGET, 1)] with rad.own := [{ rf 4 (fr [1] 9) with air := 100001 }] }, 3, { rf 4 (fr [1] 9) with air := 100001 }, [], by unfold State.radioIdle; decide +kernel⟩,
   by decide +kernel,
   ⟨{ radHub [] with rad.own := [rf 4 (fr [1] 9)], rad.active := some (4, .cca) }, 4, rf 4 (fr [1] 9), by decide +kernel⟩,
   ⟨{ radHub [] with rad.own := [{ rf 4 (fr [1] 9) with busy := 30 }], rad.active := some (4, .cca) }, 4, { rf 4 (fr [1] 9) with busy := 30 }, by decide +kernel⟩,
   ⟨{ radHub [] with rad.own := [{ rf 4 (fr [1] 9) with wake := true, air := 50000 }], rad.active := some (4, .gwait) }, 4, { rf 4 (fr [1] 9) with wake := true, air := 50000 }, by decide +kernel⟩⟩

theorem test_hyps_RadioSending_2 :
    (∃ (s : State) (a : RadAck), s.rad.ack = some a ∧ a.sending = true ∧ s.passed s.rad.ackAt ackAir = true)
    ∧ (∃ (s : State) (id : Nat), s.rad.ack = none ∧ s.rad.active = some (id, .glint) ∧ s.passed s.rad.stageAt glintAir = true)
    ∧ (∀ x ∈ ([({ radHub [] with rad.own := [rf 4 (frA [1] 9)], rad.active := some (4, .sending) }, 4, rf 4 (frA [1] 9)), ({ radHub [] with rad.own := [rf 4 (fr [1] 9)], rad.active := some (4, .sending) }, 4, rf 4 (fr [1] 9)), ({ radHub [] with rad.relays := [rf 4 { fr [1] 9 with relay := true }], rad.active := some (4, .sending) }, 4, rf 4 { fr [1] 9 with relay := true })] : List (State × Nat × RadFrame)), x.1.rad.ack = none ∧ x.1.rad.active = some (x.2.1, .sending) ∧ x.1.radFrame x.2.1 = some x.2.2 ∧ x.2.2.wmb = false ∧ x.1.passed x.1.rad.stageAt (if x.2.2.wake then x.2.2.air - glintAir else x.2.2.air) = true)
    ∧ (∃ (s : State) (id : Nat) (f : RadFrame), s.rad.follow = some id ∧ s.radFrame id = some f ∧ s.radioRunning = true ∧ s.rad.active = none ∧ f.f.bytes ≠ [] ∧ s.passed s.rad.followAt 2000 = true)
    ∧ (∃ (s : State) (f : RadFrame), ((s.rad.own ++ s.rad.relays).find? (fun f => match f.deferred with | some t => s.radioRunning && decide (t + 3686400 ≤ s.time.aoTick) | none => false) = some f) ∧ f.f.relay = false ∧ f.f.service = .plain)
    ∧ (∃ (s : State) (f : RadFrame), s.radioRunning = true ∧ ((s.rad.own ++ s.rad.relays).find? (fun f => f.deferred.isSome && s.dutyFits f.air) = some f))
    ∧ (∃ (s : State) (k : Nat) (f : RadFrame), s.rad.relays[k]? = some f ∧ s.radioRunning = true) :=
  ⟨⟨{ radHub [] with rad.ack := some ⟨9, 5, true, some 4, true⟩ }, ⟨9, 5, true, some 4, true⟩, by decide +kernel⟩,
   ⟨{ radHub [] with rad.active := some (4, .glint) }, 4, by decide +kernel⟩,
   by decide +kernel,
   ⟨{ radHub [] with rad.own := [{ rf 4 (fr [1] 9) with held := some 0 }], rad.follow := some 4, rad.relays := [rf 6 { fr [1] 9 with relay := true }] }, 4, { rf 4 (fr [1] 9) with held := some 0 }, by decide +kernel⟩,
   ⟨{ radHub [] with rad.own := [{ rf 4 (fr [1] 9) with deferred := some 0 }], time.aoTick := 3686400 }, { rf 4 (fr [1] 9) with deferred := some 0 }, by decide +kernel⟩,
   ⟨{ radHub [(RAD_DUTY.BUDGET, 1)] with rad.own := [{ rf 4 (fr [1] 9) with deferred := some 0 }], time.aoTick := 3686400, rad.duty := [(0, 50)] }, { rf 4 (fr [1] 9) with deferred := some 0 }, by decide +kernel⟩,
   ⟨{ radHub [] with rad.relays := [{ rf 4 (fr [1] 9) with delay := true }] }, 0, { rf 4 (fr [1] 9) with delay := true }, by decide +kernel⟩⟩

theorem test_hyps_RadioSending_3 : ∀ x ∈ ([(radHub [(RAD_WMB.MODE,1)], 7000), (pod [(RAD_CFG.EN,1),(RAD_WMB.MODE,1)], 7000)] : List (State × Nat)), x.1.netRunning = true ∧ x.1.on RAD_CFG.EN = true ∧ x.1.on RAD_CFG.BAND = false ∧ x.1.get RAD_WMB.MODE ≠ 0 ∧ x.1.rad.own.length < 8 ∧ x.1.wmbIsDue = true ∧ x.1.coreUp 1 = true ∧ ((∀ n, n < 32 → x.1.get (SEC_KS_CFG.STATE n) = 0 ∨ (x.1.get (SEC_KS_CFG.USE n)).testBit 3 = false)) :=
  by decide +kernel

theorem test_hyps_RadioReceiving_1 :
    (∃ (s : State) (a : RadAck), s.rad.ack = some a ∧ s.radioRunning = true ∧ s.radioSending = false ∧ s.passed s.rad.ackAt 500 = true)
    ∧ (∃ (s : State) (bytes : List Byte) (id : Nat) (f : RadFrame), s.radioOpen = true ∧ crcGood bytes = true ∧ bytes.length = 9 ∧ s.rad.active = some (id, .ackWait) ∧ s.radFrame id = some f ∧ byteAt bytes 0 = 1 ∧ leAt bytes 2 2 = s.get RAD_CFG.NETID ∧ leAt bytes 4 2 = leAt f.f.bytes 20 2 ∧ f.f.service = .plain ∧ f.f.relay = false)
    ∧ (∃ (s : State) (bytes : List Byte), s.radioOpen = true ∧ (crcGood bytes = false ∨ bytes.length ≠ 9))
    ∧ (∃ (s : State) (id : Nat) (f : RadFrame), s.rad.active = some (id, .ackWait) ∧ s.radFrame id = some f ∧ s.passed s.rad.stageAt 4300 = true ∧ f.f.tries < s.get RAD_CCA.RETRY)
    ∧ (∃ (s : State) (id : Nat) (f : RadFrame), s.rad.active = some (id, .ackWait) ∧ s.radFrame id = some f ∧ s.passed s.rad.stageAt 4300 = true ∧ s.get RAD_CCA.RETRY ≤ f.f.tries ∧ f.f.relay = false ∧ f.f.service = .plain)
    ∧ (∃ (s : State) (bytes : List Byte) (rssi : BitVec 8) (refused : Option Denial), s.radioOpen = true ∧ s.get RAD_CFG.RXMODE = 0 ∧ (crcGood bytes = false ∨ byteAt bytes 1 ≠ bytes.length ∨ (bytes.length < 27 ∧ bytes.length ≠ 9)))
    ∧ (∀ x ∈ ([({ radHub [(MSH_NBR_B.H 0, 99)] with rad.nbrs := [(0, ⟨5, 3⟩)] }, gzBytes true, 255, 0, 1), ({ radHub [(MSH_NBR_B.H 0, 32869)] with rad.nbrs := [(0, ⟨5, 3⟩)] }, gzBytes false, 255, 0, 32767)] : List (State × (List Byte) × (BitVec 8) × Nat × Nat)), x.1.radioOpen = true ∧ x.1.pod = false ∧ x.1.get RAD_CFG.RXMODE = 0 ∧ crcGood x.2.1 = true ∧ byteAt x.2.1 1 = x.2.1.length ∧ 33 ≤ x.2.1.length ∧ x.1.boot.unrecalled = [] ∧ (gauzeHeader x.2.1).type = 0 ∧ (gauzeHeader x.2.1).sec = false ∧ (gauzeHeader x.2.1).rsd = false ∧ (gauzeHeader x.2.1).net = x.1.get RAD_CFG.NETID ∧ (gauzeHeader x.2.1).dst = x.1.get RAD_ADDR.ADDR ∧ (gauzeHeader x.2.1).next = x.1.get RAD_ADDR.ADDR ∧ (x.1.get SEC_CFG.REQUIRE).testBit 1 = false ∧ x.1.meshFind (gauzeHeader x.2.1).prev = some x.2.2.2.1 ∧ x.1.seqTest (gauzeHeader x.2.1).prev (gauzeHeader x.2.1).seq = .ahead x.2.2.2.2 ∧ x.1.seenFind (gauzeHeader x.2.1).src (gauzeHeader x.2.1).oseq = none ∧ x.1.podFind (gauzeHeader x.2.1).src = none ∧ conTypes.contains (msgType ((x.2.1.take (x.2.1.length - 2)).drop 25)) = true ∧ x.1.seenNow.length < 128) :=
  ⟨⟨{ radHub [] with rad.ack := some ⟨9, 5, true, some 4, false⟩ }, ⟨9, 5, true, some 4, false⟩, by decide +kernel⟩,
   ⟨{ radHub [] with rad.own := [rf 4 (frA (gzBytes true) 9)], rad.active := some (4, .ackWait) }, withCrc ([1, 9] ++ leBytes 2 77 ++ leBytes 2 100 ++ [1]), 4, rf 4 (frA (gzBytes true) 9), by decide +kernel⟩,
   ⟨radHub [], [], by decide +kernel⟩,
   ⟨{ radHub [] with rad.own := [rf 4 (frA [1] 9)], rad.active := some (4, .ackWait) }, 4, rf 4 (frA [1] 9), by decide +kernel⟩,
   ⟨{ radHub [] with rad.own := [rf 4 { frA [1] 9 with tries := 30 }], rad.active := some (4, .ackWait) }, 4, rf 4 { frA [1] 9 with tries := 30 }, by decide +kernel⟩,
   ⟨radHub [], [1,2], 5, none, by decide +kernel⟩,
   by decide +kernel⟩

theorem test_hyps_RadioReceiving_2 :
    (∃ (s : State) (p : List Byte) (addr : Nat), s.glintHears ∧ s.mode = .run ∧ s.boot.steps.testBit 3 = true ∧ s.pwr.dozeEntry = false ∧ p.length = 10 ∧ byteAt p 2 = 0x9E ∧ byteAt p 3 = 0x4B ∧ crc8 ((p.drop 4).take 5) = byteAt p 9 ∧ byteAt p 4 = s.get RAD_CFG.NETID % 256 ∧ addr = byteAt p 5 * 2 ^ 24 + byteAt p 6 * 65536 + byteAt p 7 * 256 + byteAt p 8 ∧ (addr = s.get RAD_ADDR.ADDR ∨ addr = 0xFFFFFF00 + s.get GLN_CFG.GROUP ∨ (addr = 0xFFFFFFFF ∧ s.on GLN_CFG.ALLEN = true)))
    ∧ (∀ x ∈ ([(pod [(GLN_CFG.EN,1),(RAD_CFG.NETID,0x1234),(RAD_ADDR.ADDR,0x01020304)], [0x55,0x55,0x9E,0x4B,0x35,1,2,3,4,BitVec.ofNat 8 (crc8 [0x35,1,2,3,4])]), (pod [(GLN_CFG.EN,1),(RAD_CFG.NETID,0x1234),(RAD_ADDR.ADDR,0x01020304)], [0x55,0x55,0x9E,0x4B,0x34,1,2,3,4,BitVec.ofNat 8 (crc8 [0x34,1,2,3,4]+1)])] : List (State × (List Byte))), x.1.glintHears ∧ x.2.length = 10 ∧ byteAt x.2 2 = 0x9E ∧ byteAt x.2 3 = 0x4B ∧ (crc8 ((x.2.drop 4).take 5) ≠ byteAt x.2 9 ∨ byteAt x.2 4 ≠ x.1.get RAD_CFG.NETID % 256))
    ∧ (∃ (s : State), s.radioRunning = true ∧ s.passed s.rad.windowAt (1000 * s.get GLN_CFG.RXWIN) = true)
    ∧ (∃ (s : State) (telegram : List Byte), s.radioOpen = true ∧ s.rad.wmbWindow = true ∧ s.get RAD_CFG.RXMODE = 0) :=
  ⟨⟨pod [(GLN_CFG.EN,1),(RAD_CFG.NETID,0x1234),(RAD_ADDR.ADDR,0x01020304)], [0x55,0x55,0x9E,0x4B,0x34,1,2,3,4,BitVec.ofNat 8 (crc8 [0x34,1,2,3,4])], 0x01020304, by unfold State.glintHears; decide +kernel⟩,
   by unfold State.glintHears; decide +kernel,
   ⟨{ radHub [] with rad.window := true }, by decide +kernel⟩,
   ⟨{ radHub [] with rad.wmbWindow := true }, [1,2], by decide +kernel⟩⟩

theorem test_hyps_LoopSlave_1 :
    (∃ (s : State) (m : NetMessage), s.netRunning = true ∧ s.pod = false ∧ s.on LOP_CFG.EN = true ∧ s.coreUp 2 = true ∧ m.slot = none ∧ s.lop.own.length < 8 ∧ 13 + m.payload.length ≤ 128 ∧ (s.get SEC_CFG.REQUIRE).testBit 2 = false)
    ∧ (∃ (s : State) (bytes : List Byte) (stalled : Bool) (refused : Option Denial), s.isSlave = true ∧ 9 ≤ bytes.length ∧ crc8 (bytes.take 6) ≠ byteAt bytes 6)
    ∧ (∀ x ∈ ([(ringSlave [(LOP_STAT.RING,0)], ((lopFrame 0 5 0 [] [0,0,0]).set 9 7), false, none), (ringSlave [(LOP_STAT.STATION, 3)], (lopFrame 2 0 0 [] (List.replicate 13 0)).dropLast ++ [0x5A], false, none)] : List (State × (List Byte) × Bool × (Option Denial))), x.1.isSlave = true ∧ 9 ≤ x.2.1.length ∧ crc8 (x.2.1.take 6) = byteAt x.2.1 6 ∧ crcGood x.2.1 = false)
    ∧ (∀ x ∈ ([({ ringSlave [] with lop.own := [fr [1,2,3] 0] }, lopFrame 0 2 3 [] (List.replicate 6 0), false, none), (ringSlave [], lopFrame 4 2 3 [] (List.replicate 6 0), false, none)] : List (State × (List Byte) × Bool × (Option Denial))), x.1.slaveTakes x.2.1 ∧ byteAt x.2.1 0 % 4 = 0 ∧ byteAt x.2.1 3 = x.1.get LOP_STAT.STATION ∧ x.1.get LOP_STAT.STATION ≠ 0 ∧ (byteAt x.2.1 0).testBit 3 = false ∧ byteAt x.2.1 5 = 0 ∧ ((∀ f, x.1.lop.own.head? = some f → f.bytes ≠ [] ∧ f.bytes.length ≤ byteAt x.2.1 4)))
    ∧ (∃ (s : State) (bytes : List Byte) (stalled : Bool) (refused : Option Denial), s.slaveTakes bytes ∧ byteAt bytes 0 % 4 = 0 ∧ byteAt bytes 3 ≠ s.get LOP_STAT.STATION ∧ s.get LOP_STAT.STATION ≠ 0)
    ∧ (∀ x ∈ ([({ ringSlave [(LOP_STAT.STATION, 0)] with lop.dtog := some true }, lopFrame 2 0 0 [] (62 :: List.replicate 12 0), true, none), ({ ringSlave [(LOP_STAT.STATION, 0)] with lop.dtog := some true }, lopFrame 2 0 0 [] (0 :: List.replicate 12 0), true, none)] : List (State × (List Byte) × Bool × (Option Denial))), x.1.slaveTakes x.2.1 ∧ byteAt x.2.1 0 % 4 = 2 ∧ byteAt x.2.1 7 % 64 < 63)
    ∧ (∃ (s : State) (cells : Nat) (transitions : List Nat), s.isSlave = true ∧ manchesterViolation cells transitions = true) :=
  ⟨⟨ringSlave [], ⟨0x01020304, List.replicate 115 3, none, true, true, false, false⟩, by decide +kernel⟩,
   ⟨ringSlave [], List.replicate 9 1, false, none, by decide +kernel⟩,
   by decide +kernel,
   by unfold State.slaveTakes; decide +kernel,
   ⟨ringSlave [], lopFrame 4 3 3 [] (List.replicate 6 0), false, none, by unfold State.slaveTakes; decide +kernel⟩,
   by unfold State.slaveTakes; decide +kernel,
   ⟨ringSlave [], 1, [3], by decide +kernel⟩⟩

theorem test_hyps_LoopSlave_2 :
    (∃ (s : State), s.isSlave = true)
    ∧ (∃ (s : State), s.isSlave = true ∧ s.lop.heard + 1024 ≤ s.time.aoTick) :=
  ⟨⟨ringSlave [], by decide +kernel⟩,
   ⟨{ ringSlave [] with time.aoTick := 1024 }, by decide +kernel⟩⟩

theorem test_hyps_LoopMaster_1 :
    (∀ x ∈ ([({ ringMaster [(LOP_STAT.NODES, 3), (LOP_ST.ADDR 1, 5), (LOP_MAC.RSLOT, 4), (LOP_MAC.DISC, 5)] with lop := { State.reset.lop with discover := false, last := 1, own := [fr [1,2,3] 5], stations := [(2, ⟨true, true, none, true⟩)] } }, 2), (ringMaster [(LOP_STAT.NODES, 2), (LOP_MAC.DISC, 5)], 1)] : List (State × Nat)), x.1.masterFree = true ∧ x.1.discoverDue = false ∧ x.1.downFor broadcast = none ∧ 0 < x.1.stationCount ∧ x.2 = (if x.1.lop.last < x.1.stationCount then x.1.lop.last + 1 else 1))
    ∧ (∃ (s : State) (f : OutFrame), s.downFor broadcast = some f ∧ s.masterFree = true ∧ s.lop.noReturn < 3)
    ∧ (∃ (s : State), s.masterFree = true ∧ s.discoverNow = true)
    ∧ (∃ (s : State) (bytes : List Byte) (after : Nat) (broken : Bool) (stalled : Bool) (refused : Option Denial), s.isMaster = true ∧ (s.lop.frame = none ∨ 325000 < after))
    ∧ (∀ x ∈ ([({ ringMaster [] with lop := { State.reset.lop with frame := some ⟨0, 2, lopFrame 0 2 0 [] [0,0,0], false⟩, stations := [(2, ⟨true, true, none, true⟩), (1, ⟨true, true, none, true⟩)] } }, [], 30000, true, false, false, none, ⟨0, 2, lopFrame 0 2 0 [] [0,0,0], false⟩), ({ ringMaster [] with lop := { State.reset.lop with frame := some ⟨2, 0, lopFrame 2 0 0 [] [0,0,0], false⟩, stations := [(0, ⟨true, true, none, true⟩), (1, ⟨true, true, none, true⟩)] } }, [], 0, false, false, false, none, ⟨2, 0, lopFrame 2 0 0 [] [0,0,0], false⟩)] : List (State × (List Byte) × Nat × Bool × Bool × Bool × (Option Denial) × LoopFrame)), x.1.isMaster = true ∧ x.1.lop.frame = some x.2.2.2.2.2.2.2 ∧ x.2.2.2.2.2.2.2.down = false ∧ x.2.2.1 ≤ 325000 ∧ x.2.2.2.1 = decide (5000 * x.1.nodesOf x.2.2.2.2.2.2.2 x.2.1 < x.2.2.1) ∧ (x.2.2.2.1 = true ∨ x.2.2.2.2.1 = true ∨ crcGood x.2.1 = false ∨ x.2.1.length ≠ x.2.2.2.2.2.2.2.bytes.length))
    ∧ (∃ (s : State) (bytes : List Byte) (after : Nat) (stalled : Bool) (refused : Option Denial) (f : LoopFrame) (status : Nat), s.cameBack f bytes after ∧ f.kind = 0 ∧ byteAt bytes (8 + byteAt bytes 5) < 13 ∧ status = byteAt bytes (9 + byteAt bytes 5 + byteAt bytes 4) ∧ ((f.down = true → (status.testBit 1 = true ∨ status.testBit 3 = true) ∧ ∃ g, s.downFor (s.stationAddr f.station) = some g ∧ g.service = .plain)))
    ∧ (∀ x ∈ ([({ ringMaster [] with lop := { State.reset.lop with frame := some ⟨2, 0, lopFrame 2 0 0 [] (List.replicate 13 0), false⟩ } }, lopFrame 2 0 0 [] (0xBF :: List.replicate 12 5), 0, false, none, ⟨2, 0, lopFrame 2 0 0 [] (List.replicate 13 0), false⟩, 63), ({ ringMaster [] with lop := { State.reset.lop with frame := some ⟨2, 0, lopFrame 2 0 0 [] (List.replicate 13 0), false⟩ } }, lopFrame 2 0 0 [] (0x02 :: List.replicate 12 5), 0, false, none, ⟨2, 0, lopFrame 2 0 0 [] (List.replicate 13 0), false⟩, 2)] : List (State × (List Byte) × Nat × Bool × (Option Denial) × LoopFrame × Nat)), x.1.cameBack x.2.2.2.2.2.1 x.2.1 x.2.2.1 ∧ x.2.2.2.2.2.1.kind = 2 ∧ x.1.lop.own = [] ∧ x.2.2.2.2.2.2 = byteAt x.2.1 7 % 64) :=
  ⟨by decide +kernel,
   ⟨{ ringMaster [] with lop := { State.reset.lop with own := [fr [1,2,3] 5, fr [1,2] broadcast] } }, fr [1,2] broadcast, by decide +kernel⟩,
   ⟨{ ringMaster [] with lop := { State.reset.lop with discover := true } }, by decide +kernel⟩,
   ⟨ringMaster [], [], 0, false, false, none, by decide +kernel⟩,
   by decide +kernel,
   ⟨{ ringMaster [] with lop := { State.reset.lop with frame := some ⟨0, 2, lopFrame 0 2 0 [] [0,0,0], false⟩, stations := [(2, ⟨true, true, none, true⟩), (1, ⟨true, true, none, true⟩)] } }, lopFrame 0 2 0 [] [0,0,0x11], 0, false, none, ⟨0, 2, lopFrame 0 2 0 [] [0,0,0], false⟩, 0x11, by unfold State.cameBack; decide +kernel⟩,
   by unfold State.cameBack; decide +kernel⟩

theorem test_hyps_LoopMaster_2 : ∀ x ∈ ([({ ringMaster [] with lop := { State.reset.lop with noReturn := 2, frame := some ⟨0, 2, lopFrame 0 2 0 [] [0,0,0], false⟩, stations := [(2, ⟨true, true, none, true⟩)] } }, ⟨0, 2, lopFrame 0 2 0 [] [0,0,0], false⟩), ({ ringMaster [] with lop := { State.reset.lop with noReturn := 3, frame := some ⟨0, 2, lopFrame 0 2 0 [] [0,0,0], false⟩, stations := [(2, ⟨true, true, none, true⟩)] } }, ⟨0, 2, lopFrame 0 2 0 [] [0,0,0], false⟩)] : List (State × LoopFrame)), x.1.isMaster = true ∧ x.1.lop.frame = some x.2 ∧ x.2.down = false :=
  by decide +kernel

theorem test_hyps_PodReports :
    (∀ x ∈ ([({ conPod [(CON_PSTAT.JOINED, 1), (CON_PSTAT.RSEQ, 5)] with con := { State.reset.con with unacked := [(1,[1]),(2,[2]),(3,[3]),(4,[]),(5,[]),(6,[]),(7,[]),(8,[])], since := 4 } }, 6, [(1,[1]),(2,[2])]), ({ conPod [(CON_PSTAT.JOINED, 1), (CON_PSTAT.RSEQ, 0)] with con := { State.reset.con with unacked := [] } }, 1, [])] : List (State × Nat × (List (Nat × List Byte)))), x.1.podReports ∧ x.1.on CON_PSTAT.JOINED = true ∧ x.2.1 = (x.1.get CON_PSTAT.RSEQ + 1) % 65536 ∧ x.2.1 % 64 ≠ 0 ∧ x.2.2 = x.1.con.unacked.take (x.1.get CON_PCFG.NRECS - 1))
    ∧ (∃ (s : State), s.podReports ∧ s.on CON_PSTAT.JOINED = false)
    ∧ ((∃ (s : State) (d : Delivery) (rest : List Delivery), s.pod = true ∧ s.netRunning = true ∧ (s.takes (fun d => msgType d.payload == 0x02 && decide (7 ≤ d.payload.length)) d rest)) ∧ (∃ (s : State) (d : Delivery) (rest : List Delivery), s.pod = true ∧ s.netRunning = true ∧ (s.takes (fun d => msgType d.payload == 0x02 && decide (7 ≤ d.payload.length)) d rest)))
    ∧ (∃ (s : State) (d : Delivery) (rest : List Delivery) (n : Nat) (rec' : List Byte), s.conTakes [0x03] d rest ∧ s.podFind d.src = some n ∧ msgBody d.payload = rec' ∧ rec'.length = 20 ∧ s.records n = [] ∧ 1 ≤ (leAt rec' 6 2 + 65536 - s.get (CON_POD_SEQ.NEWEST n)) % 65536 ∧ (leAt rec' 6 2 + 65536 - s.get (CON_POD_SEQ.NEWEST n)) % 65536 ≤ 32767 ∧ byteAt rec' 9 = 0 ∧ s.nowhere)
    ∧ (∃ (s : State) (d : Delivery) (rest : List Delivery) (n : Nat) (rec' : List Byte), s.conTakes [0x03] d rest ∧ s.podFind d.src = some n ∧ msgBody d.payload = rec' ∧ rec'.length = 20 ∧ leAt rec' 6 2 = s.get (CON_POD_SEQ.NEWEST n) ∧ s.nowhere) :=
  ⟨by unfold State.podReports; decide +kernel,
   ⟨conPod [], by unfold State.podReports; decide +kernel⟩,
   ⟨⟨{ pod [] with inbox := [dl 5 3 7 [], dl 5 2 7 [0]] }, dl 5 2 7 [0], [dl 5 3 7 []], by unfold State.takes; decide +kernel⟩, ⟨{ pod [] with inbox := [dl 5 2 7 [2]] }, dl 5 2 7 [2], [], by unfold State.takes; decide +kernel⟩⟩,
   ⟨{ conHub [] with inbox := [dl 77 3 77 [1,2,3,4,5,6,10,0,3,0,1,2,3,4,5,6,7,8,9,1]] }, dl 77 3 77 [1,2,3,4,5,6,10,0,3,0,1,2,3,4,5,6,7,8,9,1], [], 3, [1,2,3,4,5,6,10,0,3,0,1,2,3,4,5,6,7,8,9,1], by unfold State.conTakes State.nowhere State.takes; decide +kernel⟩,
   ⟨{ conHub [(CON_POD_SEQ.NEWEST 3, 10)] with inbox := [dl 77 3 77 [1,2,3,4,5,6,10,0,3,0,1,2,3,4,5,6,7,8,9,1]] }, dl 77 3 77 [1,2,3,4,5,6,10,0,3,0,1,2,3,4,5,6,7,8,9,1], [], 3, [1,2,3,4,5,6,10,0,3,0,1,2,3,4,5,6,7,8,9,1], by unfold State.conTakes State.nowhere State.takes; decide +kernel⟩⟩

theorem test_hyps_PodTable :
    (∀ x ∈ ([({ conHub [] with inbox := [dl 77 1 77 [1, 5, 0]] }, dl 77 1 77 [1, 5, 0], [], 3), ({ conHub [(CON_POD_H.H 3, 0xFFFFFFFF)] with inbox := [dl 77 1 77 [1, 5, 0]] }, dl 77 1 77 [1, 5, 0], [], 3)] : List (State × Delivery × (List Delivery) × Nat)), x.1.conTakes [0x01] x.2.1 x.2.2.1 ∧ x.1.podFind x.2.1.src = some x.2.2.2 ∧ x.2.1.ctr < 2 ^ 32)
    ∧ (∃ (s : State) (d : Delivery) (rest : List Delivery), s.conTakes [0x01] d rest ∧ s.podFind d.src = none ∧ s.on CON_CFG.OPEN = false)
    ∧ (∃ (s : State) (d : Delivery) (rest : List Delivery), s.conTakes [0x01] d rest ∧ s.podFind d.src = none ∧ s.on CON_CFG.OPEN = true ∧ ((∀ n, n < 250 → s.get (CON_POD_ST.STATE n) ≠ 0)))
    ∧ (∃ (s : State) (d : Delivery) (rest : List Delivery) (n : Nat), s.conTakes [0x01] d rest ∧ s.podFind d.src = none ∧ s.on CON_CFG.OPEN = true ∧ ((List.range 250).find? (fun n => s.get (CON_POD_ST.STATE n) == 0) = some n) ∧ d.src < 2 ^ 32 ∧ d.ctr < 2 ^ 32 ∧ ((∀ k, d.slot = some k → k < 32)))
    ∧ (∃ (s : State) (d : Delivery) (rest : List Delivery) (n : Nat), s.conTakes [0x13] d rest ∧ s.podFind (msgPod d.payload) = some n)
    ∧ (∀ x ∈ ([({ conHub [] with con := { State.reset.con with records := [(3, [⟨5, 0, .fresh⟩]), (4, [⟨5, 0, .fresh⟩])], lastFlags := [(3, 4)] } }, 3), (conHub [], 249)] : List (State × (BitVec 8))), x.1.twillRuns = true ∧ x.1.pod = false ∧ x.2.toNat < 250 ∧ x.1.boot.unrecalled = [])
    ∧ (∃ (s : State) (n : Fin 250), s.conRuns = true ∧ s.boot.unrecalled = [] ∧ s.get (CON_POD_ST.STATE n) = 1 ∧ s.get (CON_POD_LAST.T_LO n) + 2 ^ 32 * s.get (CON_POD_LAST_H.T_HI n) + s.get CON_CFG.SILENTH * 3686400 ≤ s.time.rtc.toNat) :=
  ⟨by unfold State.conTakes State.takes; decide +kernel,
   ⟨{ conHub [(CON_CFG.OPEN, 0)] with inbox := [dl 78 1 78 [1, 5, 0]] }, dl 78 1 78 [1, 5, 0], [], by unfold State.conTakes State.takes; decide +kernel⟩,
   ⟨fullTable, dl 78 1 78 [1, 5, 0], [], by unfold State.conTakes State.takes; decide +kernel⟩,
   ⟨{ conHub [(CON_CFG.OPEN, 1),(CON_POD_ST.STATE 0, 1)] with inbox := [dl 78 1 78 [7, 5, 1]] }, dl 78 1 78 [7, 5, 1], [], 1, by unfold State.conTakes State.takes; decide +kernel⟩,
   ⟨{ conHub [] with inbox := [dl 9 0x13 77 []], con := { State.reset.con with records := [(3, [⟨5, 0, .fresh⟩]), (4, [⟨5, 0, .fresh⟩])], lastFlags := [(3, 4)] } }, dl 9 0x13 77 [], [], 3, by unfold State.conTakes State.takes; decide +kernel⟩,
   by decide +kernel,
   ⟨{ conHub [(CON_CFG.SILENTH, 1)] with time.rtc := 3686400 }, 3, by decide +kernel⟩⟩

theorem test_hyps_Forwarding :
    (∃ (s : State) (d : Delivery) (rest : List Delivery) (n : Nat), s.conTakes [0x14] d rest ∧ s.podFind (msgPod d.payload) = some n ∧ s.nowhere)
    ∧ (∃ (s : State) (d : Delivery) (rest : List Delivery), s.conTakes [0x10, 0x11, 0x15, 0x20] d rest ∧ s.nowhere ∧ ((s.con.waiting.filter (fun x => x.cls == 1)).length < 16))
    ∧ (∃ (s : State) (d : Delivery) (rest : List Delivery) (n : Nat), s.conTakes [0x12] d rest ∧ s.podFind (msgPod d.payload) = some n ∧ s.get (SEC_KS_CFG.STATE (s.get (CON_POD_ST.SLOT n))) ≠ 0 ∧ (msgBody d.payload).length ≤ 215)
    ∧ (∃ (s : State) (d : Delivery) (rest : List Delivery), s.conTakes [0x12] d rest ∧ s.podFind (msgPod d.payload) = none ∧ s.nowhere)
    ∧ (∃ (s : State), s.conRuns = true ∧ s.nowhere ∧ s.con.cycleAt + s.get CON_CFG.RETRYMIN * 61440 ≤ s.time.aoTick)
    ∧ (∃ (s : State) (f : RadFrame), (s.rad.own.find? (fun f => match f.held with | some t => s.radioRunning && decide (t + s.get CON_CFG.HOLDMAX * 61440 ≤ s.time.aoTick) | none => false) = some f)) :=
  ⟨⟨{ conHub [(CON_POD_SEQ.NEWEST 3, 10)] with inbox := [dl 9 0x14 77 [4,0]], con := { State.reset.con with records := [(3, [⟨3, 0, .forwarded⟩, ⟨4, 1, .forwarded⟩, ⟨5, 2, .failed⟩])] } }, dl 9 0x14 77 [4,0], [], 3, by unfold State.conTakes State.nowhere State.takes; decide +kernel⟩,
   ⟨{ conHub [] with inbox := [dl 9 0x10 77 [4,0]] }, dl 9 0x10 77 [4,0], [], by unfold State.conTakes State.nowhere State.takes; decide +kernel⟩,
   ⟨{ conHub [(SEC_KS_CFG.STATE 0, 1), (CON_CFG.WAKE, 1)] with inbox := [dl 9 0x12 77 [4,0]] }, dl 9 0x12 77 [4,0], [], 3, by unfold State.conTakes State.takes; decide +kernel⟩,
   ⟨{ conHub [] with inbox := [dl 9 0x12 78 [4,0]] }, dl 9 0x12 78 [4,0], [], by unfold State.conTakes State.nowhere State.takes; decide +kernel⟩,
   ⟨{ conHub [] with con := { State.reset.con with records := [(3, [⟨3, 0, .forwarded⟩, ⟨5, 2, .failed⟩])], waiting := [⟨1, [1], 0, [], 0, 4, false⟩, ⟨1, [1], 0, [], 0, 3, false⟩] } , time := { State.reset.time with aoTick := 100000000 } }, by unfold State.nowhere; decide +kernel⟩,
   ⟨{ conHub [(CON_CFG.HOLDMAX, 1), (RAD_CFG.EN, 1)] with rad := { State.reset.rad with own := [rf 3 (fr [1] 2), { rf 4 (fr [1] 2) with held := some 0 }] }, time.aoTick := 61440 }, { rf 4 (fr [1] 2) with held := some 0 }, by decide +kernel⟩⟩

theorem test_hyps_EventsAndLogs_1 :
    (∀ x ∈ ([({ (hub []).wr (routeAddr 500) 0 with evt := { State.reset.evt with raises := [⟨500, []⟩] } }, ⟨500, []⟩), ({ (hub []).wr (routeAddr 160) 0xFF0F with evt := { State.reset.evt with raises := [⟨160, []⟩] } }, ⟨160, []⟩)] : List (State × Raise)), x.1.raiseDue x.2 ∧ x.2.data = [] ∧ fixedLegal x.2.src = false ∧ routeOpen (x.1.route x.2.src) = false ∧ routeLegal (x.1.route x.2.src) = false ∧ x.1.pwr.dozeEntry = false)
    ∧ (∃ (s : State) (r : Raise), s.raiseDue r ∧ r.data = [] ∧ fixedLegal r.src = false ∧ routeOpen (s.route r.src) = true ∧ routeLegal (s.route r.src) = false ∧ s.pwr.dozeEntry = false ∧ s.evt.drops = 0 ∧ s.evt.fifo.length + fifoNeed (routePrio (s.route r.src)) ≤ 128)
    ∧ (∀ x ∈ ([({ (hub []).wr (routeAddr Ev.SESSION_OPEN) 0x06000600 with evt := { State.reset.evt with raises := [⟨Ev.SESSION_OPEN, []⟩] } }, ⟨Ev.SESSION_OPEN, []⟩), ({ ((hub []).wr (routeAddr Ev.SESSION_OPEN) 0x06BF06BF).wr (EVT_CPEND.addr 0 (Ev.SESSION_OPEN/32)) 0xFFFFFFFF with evt := { State.reset.evt with raises := [⟨Ev.SESSION_OPEN, []⟩] } }, ⟨Ev.SESSION_OPEN, []⟩)] : List (State × Raise)), x.1.raiseDue x.2 ∧ x.1.legalForms ∧ fixedLegal x.2.src = true ∧ x.2.src ∉ [Ev.STG_REFUSED, Ev.STG_APPLIED, Ev.CTR_CHARGED, Ev.TIME_SET] ∧ routeOpen (x.1.route x.2.src) = false ∧ x.1.pwr.dozeEntry = false ∧ x.1.evt.legalQ.length < 31 ∧ (999 - x.1.get SEA_CTR.CTR) + 16 < 2048 - x.1.logUsed)
    ∧ (∃ (s : State) (r : Raise), s.raiseDue r ∧ s.legalForms ∧ fixedLegal r.src = true ∧ r.src ∉ [Ev.STG_REFUSED, Ev.STG_APPLIED, Ev.CTR_CHARGED, Ev.TIME_SET] ∧ routeOpen (s.route r.src) = true ∧ s.pwr.dozeEntry = false ∧ s.evt.legalQ.length < 31 ∧ (999 - s.get SEA_CTR.CTR) + 16 < 2048 - s.logUsed ∧ s.evt.drops = 0 ∧ s.evt.fifo.length + fifoNeed (routePrio (s.route r.src)) ≤ 128)
    ∧ (∀ x ∈ ([({ (hub []) with evt := { State.reset.evt with raises := [⟨Ev.SESSION_OPEN, []⟩], legalSlots := 1003, legalQ := List.replicate 30 (4, entry 5 1) } }, ⟨Ev.SESSION_OPEN, []⟩), ({ (hub [(SEA_CTR.CTR, 999)]) with evt := { State.reset.evt with raises := [⟨Ev.SESSION_OPEN, [3]⟩], legalSlots := 2031, reserved := 1, quotaRaised := true } }, ⟨Ev.SESSION_OPEN, [3]⟩)] : List (State × Raise)), x.1.raiseDue x.2 ∧ x.1.legalForms ∧ fixedLegal x.2.src = true ∧ x.2.src ∉ [Ev.STG_REFUSED, Ev.STG_APPLIED, Ev.CTR_CHARGED, Ev.TIME_SET] ∧ x.1.pwr.dozeEntry = false ∧ x.1.evt.legalQ.length < 32 ∧ 2048 - x.1.logUsed ≤ (999 - x.1.get SEA_CTR.CTR) + 16 ∧ x.1.evt.drops = 0 ∧ x.1.evt.fifo.length + fifoNeed (routePrio (x.1.route x.2.src)) ≤ 128)
    ∧ (∃ (s : State) (n : Nat) (e : LogEntry) (rest : List (Nat × LogEntry)), s.legalHeadDue n e rest ∧ s.slotLeft e = true)
    ∧ (∃ (s : State) (n : Nat) (e : LogEntry) (rest : List (Nat × LogEntry)), s.legalHeadDue n e rest ∧ s.slotLeft e = true) :=
  ⟨by unfold State.raiseDue; decide +kernel,
   ⟨{ hub [] with evt := { State.reset.evt with raises := [⟨Ev.XO_MISMATCH, []⟩] } }, ⟨Ev.XO_MISMATCH, []⟩, by unfold State.raiseDue; decide +kernel⟩,
   by unfold State.raiseDue State.legalForms; decide +kernel,
   ⟨{ (hub []) with evt := { State.reset.evt with raises := [⟨Ev.SESSION_OPEN, []⟩], legalQ := List.replicate 30 (4, entry 5 1) } }, ⟨Ev.SESSION_OPEN, []⟩, by unfold State.raiseDue State.legalForms; decide +kernel⟩,
   by unfold State.raiseDue State.legalForms; decide +kernel,
   ⟨{ hub [] with evt := { State.reset.evt with legalQ := [(1, entry 5 1), (2, entry 6 1)], legalSlots := 5, legalLog := [(39, 4), (48, 5)] } }, 1, entry 5 1, [(2, entry 6 1)], by unfold State.legalHeadDue State.legalForms; decide +kernel⟩,
   ⟨{ hub [] with evt := { State.reset.evt with legalQ := [(1, entry 5 1), (2, entry 6 1)], legalSlots := 5, legalLog := [(39, 4), (48, 5)] } }, 1, entry 5 1, [(2, entry 6 1)], by unfold State.legalHeadDue State.legalForms; decide +kernel⟩⟩

theorem test_hyps_EventsAndLogs_2 :
    (∀ x ∈ ([({ hub [(SEA_STAT.LOGFULL, 1)] with evt := { State.reset.evt with legalQ := [(1, entry 5 0)], legalSlots := 2047, reserved := 1 } }, true, 1, entry 5 0, []), ({ hub [(SEA_STAT.LOGFULL, 1)] with evt := { State.reset.evt with legalQ := [(1, entry 1 1)], legalSlots := 2048, quotaRaised := true } }, false, 1, entry 1 1, [])] : List (State × Bool × Nat × LogEntry × (List (Nat × LogEntry)))), x.1.evt.legalQ = (x.2.2.1, x.2.2.2.1) :: x.2.2.2.2 ∧ x.1.twillRuns = true ∧ x.1.legalForms ∧ x.1.evt.legalWait = [] ∧ x.1.slotLeft x.2.2.2.1 = false ∧ x.1.on SEA_STAT.LOGFULL = true ∧ x.1.evt.drops = 0 ∧ x.1.evt.fifo.length + 33 ≤ 128)
    ∧ (∀ x ∈ ([({ hub [] with evt := { State.reset.evt with fifo := [entry 5 1, entry 6 1], openSeq := 8193, openLog := [(0, 3), (8, 5)] } }, true, entry 5 1, [entry 6 1]), ({ hub [] with evt := { State.reset.evt with fifo := [entry 5 1, entry 6 1], openSeq := 0xFFFFFFFF, openLog := [(0, 3), (8, 5)] } }, false, entry 5 1, [entry 6 1])] : List (State × Bool × LogEntry × (List LogEntry))), x.1.matrixRuns = true ∧ x.1.evt.fifo = x.2.2.1 :: x.2.2.2) :=
  ⟨by unfold State.legalForms; decide +kernel,
   by decide +kernel⟩

theorem test_hyps_OpticalReadout_1 :
    (∀ x ∈ ([(opt .idle [(LOC_OSTAT.ACTIVE, 0)], [0x2F, 0x3F, 0x21, 0x0D, 0x0A], []), ((opt .idle [(LOC_OSTAT.ACTIVE, 0)]).wr (LOC_ADDR.addr 0) 0x00004241, [0x2F, 0x3F, 0x41, 0x42, 0x21, 0x0D, 0x0A], [0x41, 0x42])] : List (State × (List Byte) × (List Byte))), x.1.optListens = true ∧ x.1.loc.opt.stage = .idle ∧ requestAddress x.2.1 = some x.2.2 ∧ (x.2.2 = [] ∨ x.2.2 = trimNul (wordBytes [x.1.rd (LOC_ADDR.addr 0), x.1.rd (LOC_ADDR.addr 1)])))
    ∧ (∀ x ∈ ([{ opt .requested [] with time.aoTick := 1024 }, { opt .requested [(LOC_OPT.MODE,0)] with time.aoTick := 1024 }] : List (State)), x.optListens = true ∧ x.loc.opt.stage = .requested ∧ x.optDue = true)
    ∧ (∀ x ∈ ([(opt .ackWait [], 0x35, 0x30), (opt .ackWait [(LOC_OPT.VSEN,1)], 0x30, 0x36)] : List (State × Byte × Byte)), x.1.optAwaits ∧ 0x30 ≤ x.2.1.toNat ∧ x.2.1.toNat - 0x30 ≤ x.1.get LOC_OPT.ZMAX ∧ (x.2.2 = 0x30 ∨ (x.2.2 = 0x36 ∧ x.1.on LOC_OPT.VSEN = true)))
    ∧ (∀ x ∈ ([(opt .ackWait [], 0x36, 0x30), (opt .ackWait [(LOC_OPT.VSEN,0)], 0x30, 0x36)] : List (State × Byte × Byte)), x.1.optAwaits ∧ (x.2.1.toNat < 0x30 ∨ x.1.get LOC_OPT.ZMAX < x.2.1.toNat - 0x30 ∨ (x.2.2 ≠ 0x30 ∧ (x.2.2 ≠ 0x36 ∨ x.1.on LOC_OPT.VSEN = false))))
    ∧ (∃ (s : State) (z : Byte) (y : Byte), s.optAwaits)
    ∧ (∃ (s : State), s.optAwaits ∧ s.loc.opt.tick + optLimit ≤ s.time.aoTick)
    ∧ (∀ x ∈ ([{ opt .readoutDue [] with time.aoTick := 1536 }, opt .readoutDue [(LOC_OPT.MODE,0)]] : List (State)), x.optListens = true ∧ x.loc.opt.stage = .readoutDue ∧ (x.optDue = true ∨ x.on LOC_OPT.MODE = false)) :=
  ⟨by decide +kernel,
   by decide +kernel,
   by unfold State.optAwaits; decide +kernel,
   by unfold State.optAwaits; decide +kernel,
   ⟨opt .ackWait [], 0x30, 0x30, by unfold State.optAwaits; decide +kernel⟩,
   ⟨{ opt .ackWait [] with time.aoTick := 1536 }, by unfold State.optAwaits; decide +kernel⟩,
   by decide +kernel⟩

theorem test_hyps_OpticalReadout_2 : ∃ (s : State), s.loc.opt.stage = .sending ∧ s.umb.frozen = false :=
  ⟨opt .sending [], by decide +kernel⟩

theorem test_hyps_OpticalVerification :
    (∃ (s : State), s.apcRuns = true ∧ s.loc.opt.stage = .w6 ∧ s.loc.opt.tick + optLimit ≤ s.time.aoTick)
    ∧ (∀ x ∈ ([(opt .w6 [], [1], true), (opt .w6 [], [1, 2, 3], false)] : List (State × (List Byte) × Bool)), x.1.optListens = true ∧ x.1.loc.opt.stage = .w6 ∧ (x.2.2 = true ∨ x.2.1.getLastD 0 ≠ bcc ((x.2.1.take (x.2.1.length - 1)).drop 1)))
    ∧ (∃ (s : State) (msg : List Byte), s.w6Message msg ∧ w6Body (msg.take (msg.length - 1)) = none)
    ∧ (∃ (s : State) (msg : List Byte), s.w6Message msg ∧ w6Body (msg.take (msg.length - 1)) = some [] ∧ s.on SEA_STAT.SESSION = true)
    ∧ (∀ x ∈ ([(opt .w6 [], w6 (List.replicate 32 0x41), List.replicate 32 0x41, List.replicate 16 0xAA), (opt .w6 [(SYS_VS_STAT.BUSY,1)], w6 (List.replicate 32 0x41), List.replicate 32 0x41, List.replicate 16 0xAA)] : List (State × (List Byte) × (List Byte) × (List Byte))), x.1.w6Message x.2.1 ∧ w6Body (x.2.1.take (x.2.1.length - 1)) = some x.2.2.1 ∧ x.2.2.1 ≠ [] ∧ hexBytes x.2.2.1 = some x.2.2.2 ∧ x.2.2.2.length = 16 ∧ x.1.fab.restarting.contains 0 = false ∧ x.1.boot.steps.testBit 3 = true)
    ∧ (∃ (s : State), s.mode = .doze ∧ s.on SYS_PINCFG.OPTDIS = false ∧ (s.rd PWR_WAKE.addr).getLsbD 4 = true)
    ∧ (∃ (s : State) (c : Byte), s.pending = [] ∧ s.aoDown = false ∧ s.pwr.dozeEntry = false ∧ s.pwr.request = none ∧ s.apcRuns = true ∧ s.loc.opt.stage = .w6Answer c ∧ s.loc.opt.tick + optDelay ≤ s.time.aoTick) :=
  ⟨⟨{ opt .w6 [] with time.aoTick := 1536 }, by decide +kernel⟩,
   by decide +kernel,
   ⟨opt .w6 [], [1, 2, 2], by unfold State.w6Message; decide +kernel⟩,
   ⟨opt .w6 [(SEA_STAT.SESSION,1)], w6 [], by unfold State.w6Message; decide +kernel⟩,
   by unfold State.w6Message; decide +kernel,
   ⟨{ hub [(PWR_WAKE.OPT, 1)] with mode := .doze }, by decide +kernel⟩,
   ⟨{ opt (.w6Answer 6) [] with time := { State.reset.time with aoTick := 195 } }, 6, by decide +kernel⟩⟩

theorem test_hyps_LocalControls_1 :
    (∀ x ∈ ([(lcd [], 0), (lcd [(LOC_DSTAT.ON, 1),(LOC_DSTAT.LIST, 0)], 0), (lcd [(LOC_DSTAT.ON, 1),(LOC_DSTAT.LIST, 1)], 1), (lcd [(LOC_DSTAT.ON, 1),(LOC_DSTAT.LIST, 1),(LOC_DSTAT.ITEM,2)], 3)] : List (State × (Fin 4))), x.1.pressable x.2)
    ∧ (∀ x ∈ ([({ lcd [(LOC_DSTAT.ON, 1),(LOC_DSTAT.LIST, 2)] with loc := { State.reset.loc with down := [(0, 0)] }, time.aoTick := 2048 }, 0, 0), ({ lcd [(LOC_DSTAT.ON, 1),(LOC_DSTAT.LIST, 2)] with loc := { State.reset.loc with down := [(1, 0)] }, time.aoTick := 2048 }, 1, 0), ({ lcd [(LOC_DSTAT.ON, 1),(LOC_DSTAT.LIST, 2)] with loc := { State.reset.loc with down := [(2, 0)] }, time.aoTick := 2048 }, 2, 0), ({ lcd [(LOC_DSTAT.ON, 1),(LOC_DSTAT.LIST, 2)] with loc := { State.reset.loc with down := [(3, 0)] }, time.aoTick := 2048 }, 3, 0)] : List (State × (Fin 4) × Nat)), Sparse.find x.1.loc.down x.2.1.val = some x.2.2 ∧ x.1.umb.frozen = false ∧ x.1.loc.long.testBit x.2.1 = false ∧ x.2.2 + 2048 ≤ x.1.time.aoTick ∧ x.1.apcRuns = true ∧ x.1.on LOC_DSTAT.ON = true)
    ∧ (∃ (s : State) (k : Fin 4), s.umb.frozen = false)
    ∧ (∃ (s : State) (t0 : Nat), s.apcRuns = true ∧ s.loc.test = some t0 ∧ t0 + 2048 ≤ s.time.aoTick)
    ∧ (∃ (s : State), s.apcRuns = true ∧ s.on LOC_DSTAT.ON = true ∧ s.get LOC_DSTAT.LIST = 0 ∧ s.get LOC_LCD.SCROLL ≠ 0 ∧ s.noPressFor (s.get LOC_LCD.TIMEOUT) = true ∧ s.returnDue = false ∧ s.loc.lastScroll + s.get LOC_LCD.SCROLL * 1024 ≤ s.time.aoTick ∧ s.on SEA_STAT.ALARM = false)
    ∧ (∃ (s : State), s.apcRuns = true ∧ s.on LOC_DSTAT.ON = true ∧ s.on LOC_LCD.MODE = true ∧ s.noPressFor (s.get LOC_LCD.ONTIME) = true)
    ∧ (∃ (s : State) (t0 : Nat), s.apcRuns = true ∧ s.on LOC_DSTAT.ON = true ∧ s.loc.lastPress = some t0 ∧ t0 + s.get LOC_LCD.TIMEOUT * 1024 ≤ s.time.aoTick ∧ s.loc.lastScroll < t0 + s.get LOC_LCD.TIMEOUT * 1024) :=
  ⟨by unfold State.pressable; decide +kernel,
   by decide +kernel,
   ⟨{ lcd [(LOC_BTN.LEVEL, 15)] with loc := { State.reset.loc with down := [(2, 0), (3, 4)], long := 15, ignored := 15 } }, 3, by decide +kernel⟩,
   ⟨{ lcd [] with loc := { State.reset.loc with test := some 0 }, time.aoTick := 2048 }, 0, by decide +kernel⟩,
   ⟨{ lcd [(LOC_DSTAT.ON, 1), (LOC_LCD.SCROLL, 1)] with time.aoTick := 1024 }, by decide +kernel⟩,
   ⟨lcd [(LOC_DSTAT.ON, 1), (LOC_LCD.MODE, 1)], by decide +kernel⟩,
   ⟨{ lcd [(LOC_DSTAT.ON, 1), (LOC_DSTAT.LIST, 2), (SEA_STAT.ALARM, 1)] with loc := { State.reset.loc with lastPress := some 5 }, time := { State.reset.time with aoTick := 1000000 } }, 5, by decide +kernel⟩⟩

theorem test_hyps_LocalControls_2 :
    (∃ (s : State) (n : Fin 4), s.pulseOver n .closed)
    ∧ (∀ x ∈ ([({ hub [(LOC_PO_CFG.WIDTH 3, 1), (LOC_PO_CFG.MODE 3, 1), (LOC_PO_ST.BACKLOG 3, 1)] with loc := { State.reset.loc with outs := [(3, ⟨1, none, 0, .gap, 0⟩)] }, time.cyc := 32 }, 3), ({ hub [(LOC_PO_CFG.WIDTH 3, 1), (LOC_PO_CFG.MODE 3, 1)] with loc := { State.reset.loc with outs := [(3, ⟨1, none, 0, .gap, 0⟩)] }, time.cyc := 32 }, 3)] : List (State × (Fin 4))), x.1.pulseOver x.2 .gap ∧ x.1.get (LOC_PO_CFG.MODE x.2) = 1)
    ∧ (∀ x ∈ ([(hub [(LOC_PI_CFG.EDGE 3, 1), (LOC_PI_CNT.CNT 3, 0xFFFFFFFF)], 3, true), ({ hub [] with pins.inputs := 15, mode := .doze }, 2, false)] : List (State × (Fin 4) × Bool)), (x.1.mode = .run ∨ x.1.mode = .doze) ∧ x.1.umb.frozen = false ∧ x.1.on PWR_STAT.VIOLOK = true ∧ (x.1.get SYS_PINCFG.PIDIS).testBit x.2.1 = false) :=
  ⟨⟨{ hub [(LOC_PO_CFG.WIDTH 3, 1)] with loc := { State.reset.loc with outs := [(3, ⟨1, none, 0, .closed, 0⟩)] }, time.cyc := 32 }, 3, by unfold State.pulseOver; decide +kernel⟩,
   by unfold State.pulseOver; decide +kernel,
   by decide +kernel⟩

end Sys2Proof.Tests
end

section
/-! PROOF. Rules that several statements share: what a frame says of a single field, one-bit fields, waiting raises. -/

namespace Sys2Proof.Machine

/-- A field apart from every field of a frame reads as before. -/
theorem State.get_of_onlyFields {s t : State} {fs : List Fd} (h : s.onlyFields t fs) (g : Fd)
    (hg : ∀ f ∈ fs, f.apart g = true) : t.get g = s.get g := by
  apply Nat.eq_of_testBit_eq
  intro j
  simp only [State.get, Fd.testBit_of]
  by_cases hj : j < g.hi + 1 - g.lo
  · rw [h]
    rintro ⟨f, hf, ha, hlo, hhi⟩
    have := hg f hf
    simp only [Fd.apart, Bool.or_eq_true, decide_eq_true_eq] at this
    omega
  · simp [hj]

theorem State.on_of_onlyFields {s t : State} {fs : List Fd} (h : s.onlyFields t fs) (g : Fd)
    (hg : ∀ f ∈ fs, f.apart g = true) : t.on g = s.on g := by
  simp only [State.on, State.get_of_onlyFields h g hg]

theorem State.get_of_regs {s t : State} (h : t.regs = s.regs) (f : Fd) : t.get f = s.get f := by
  simp only [State.get, State.rd, h]

theorem State.on_of_regs {s t : State} (h : t.regs = s.regs) (f : Fd) : t.on f = s.on f := by
  simp only [State.on, State.get_of_regs h]

theorem State.onlyFields_put_self (s : State) (f : Fd) (hok : f.ok = true) (v : Nat) : s.onlyFields (s.put f v) [f] :=
  State.onlyFields_put (s.onlyFields_refl _) f (by simp) hok v

theorem State.on_put_one (s : State) (f : Fd) (hok : f.ok = true) : (s.put f 1).on f = true := s.on_putB f hok true

theorem State.on_put_zero (s : State) (f : Fd) (hok : f.ok = true) : (s.put f 0).on f = false := s.on_putB f hok false

theorem State.raised_raise_self (s : State) (n : Nat) : (s.raise n).raised n := ⟨⟨n, []⟩, by simp [State.raise, State.raiseWith], rfl⟩

/-- A further raise takes no other source off its handshake (R128). -/
theorem State.raised_raise {s : State} {m : Nat} (h : s.raised m) (n : Nat) : (s.raise n).raised m := by
  obtain ⟨r, hr, hsrc⟩ := h
  by_cases hmn : m = n
  · subst hmn; exact s.raised_raise_self m
  · exact ⟨r, by simp [State.raise, State.raiseWith, hr, hsrc, hmn], hsrc⟩

/-- The registers keep the frame of an event that is raised or not. -/
theorem State.onlyFields_raiseIf {s t : State} {fs : List Fd} (h : s.onlyFields t fs) (b : Bool) (n : Nat) :
    s.onlyFields (t.raiseIf b n) fs := State.onlyFields_regs h (t.raiseIf_regs b n)

end Sys2Proof.Machine
end

section
/-! PROOF. The loop by-pass (R71, R526 to R528, R79): what its opening, its closing and a join do, and what every switching leaves alone. -/

namespace Sys2Proof.Machine

/-- The fields that a switching of the by-pass can move. -/
def bypassFields : List Fd := [SYS_BYPASS.CLOSED, LOP_STAT.REPEAT, LOP_STAT.RING, LOP_STAT.STATION]

/-- `t` differs from `s` at most by a switching of the by-pass. -/
def State.bypassFrame (s t : State) : Prop :=
  s.onlyFields t bypassFields ∧ t = { s with regs := t.regs, evt := t.evt, bypass := t.bypass, lop := t.lop }

theorem State.bypassFrame_refl (s : State) : s.bypassFrame s := ⟨s.onlyFields_refl _, rfl⟩

theorem State.bypassFrame_trans {s t u : State} (h : s.bypassFrame t) (h2 : t.bypassFrame u) : s.bypassFrame u :=
  ⟨State.onlyFields_trans h.1 h2.1,
    h2.2.trans (congrArg (fun x : State => { x with regs := u.regs, evt := u.evt, bypass := u.bypass, lop := u.lop }) h.2)⟩

/-! ### A node joins -/

theorem State.join_onlyFields (s : State) : s.onlyFields s.join [LOP_STAT.REPEAT] :=
  s.onlyFields_put_self LOP_STAT.REPEAT rfl 1

theorem State.join_repeat (s : State) : s.join.on LOP_STAT.REPEAT = true := State.on_put_one _ LOP_STAT.REPEAT rfl

theorem State.join_evt (s : State) : s.join.evt = (s.raise Ev.JOINED).evt := rfl

theorem State.join_bypass (s : State) :
    s.join.bypass = { s.bypass with settling := false, joined := true, since := s.time.cyc } := rfl

theorem State.join_rest (s : State) :
    s.join = { s with regs := s.join.regs, evt := s.join.evt, bypass := s.join.bypass, lop := s.join.lop } := rfl

theorem State.join_bypassFrame (s : State) : s.bypassFrame s.join :=
  ⟨State.onlyFields_mono s.join_onlyFields (by simp [bypassFields]), s.join_rest⟩

/-! ### The by-pass closes -/

theorem State.closeBypass_of_closed {s : State} (h : s.on SYS_BYPASS.CLOSED = true) : s.closeBypass = s := if_pos h

/-- The register words of a by-pass that closes. -/
def State.closedWords (s : State) : State :=
  (((s.put SYS_BYPASS.CLOSED 1).put LOP_STAT.REPEAT 0).put LOP_STAT.RING 0).put LOP_STAT.STATION 0

/-- The by-pass was open: the register words, the frame on the ring, the station and the join are dropped, then LEFT is raised. -/
theorem State.closeBypass_of_open {s : State} (h : s.on SYS_BYPASS.CLOSED = false) :
    s.closeBypass = State.raise
      { s.closedWords with
        bypass := { s.bypass with repeating := false, settling := false, joined := false, since := 0, rejoin := false }
        lop := { s.lop with frame := none, line := [], aborted := false, dtog := none } } Ev.LEFT := by
  unfold State.closeBypass
  rw [if_neg (by simp [h])]
  rfl

theorem State.closeBypass_regs {s : State} (h : s.on SYS_BYPASS.CLOSED = false) : s.closeBypass.regs = s.closedWords.regs := by
  rw [State.closeBypass_of_open h, State.raise_regs]

theorem State.closedWords_onlyFields (s : State) : s.onlyFields s.closedWords bypassFields := by
  have h1 := State.onlyFields_put (s.onlyFields_refl bypassFields) SYS_BYPASS.CLOSED (by simp [bypassFields]) rfl 1
  have h2 := State.onlyFields_put h1 LOP_STAT.REPEAT (by simp [bypassFields]) rfl 0
  have h3 := State.onlyFields_put h2 LOP_STAT.RING (by simp [bypassFields]) rfl 0
  exact State.onlyFields_put h3 LOP_STAT.STATION (by simp [bypassFields]) rfl 0

theorem State.closedWords_closed (s : State) : s.closedWords.on SYS_BYPASS.CLOSED = true :=
  calc s.closedWords.on SYS_BYPASS.CLOSED
    _ = (((s.put SYS_BYPASS.CLOSED 1).put LOP_STAT.REPEAT 0).put LOP_STAT.RING 0).on SYS_BYPASS.CLOSED := State.on_put_apart _ _ _ rfl rfl 0
    _ = ((s.put SYS_BYPASS.CLOSED 1).put LOP_STAT.REPEAT 0).on SYS_BYPASS.CLOSED := State.on_put_apart _ _ _ rfl rfl 0
    _ = (s.put SYS_BYPASS.CLOSED 1).on SYS_BYPASS.CLOSED := State.on_put_apart _ _ _ rfl rfl 0
    _ = true := s.on_put_one _ rfl

theorem State.closedWords_repeat (s : State) : s.closedWords.on LOP_STAT.REPEAT = false :=
  calc s.closedWords.on LOP_STAT.REPEAT
    _ = (((s.put SYS_BYPASS.CLOSED 1).put LOP_STAT.REPEAT 0).put LOP_STAT.RING 0).on LOP_STAT.REPEAT := State.on_put_apart _ _ _ rfl rfl 0
    _ = ((s.put SYS_BYPASS.CLOSED 1).put LOP_STAT.REPEAT 0).on LOP_STAT.REPEAT := State.on_put_apart _ _ _ rfl rfl 0
    _ = false := State.on_put_zero _ _ rfl

theorem State.closedWords_ring (s : State) : s.closedWords.on LOP_STAT.RING = false :=
  (State.on_put_apart _ LOP_STAT.STATION LOP_STAT.RING rfl rfl 0).trans (State.on_put_zero _ LOP_STAT.RING rfl)

theorem State.closedWords_station (s : State) : s.closedWords.get LOP_STAT.STATION = 0 :=
  State.get_put_le _ LOP_STAT.STATION rfl 0 (Nat.zero_le _)

theorem State.closeBypass_bypassFrame (s : State) : s.bypassFrame s.closeBypass := by
  cases h : s.on SYS_BYPASS.CLOSED
  case true => rw [State.closeBypass_of_closed h]; exact s.bypassFrame_refl
  case false =>
    refine ⟨State.onlyFields_regs s.closedWords_onlyFields (State.closeBypass_regs h), ?_⟩
    rw [State.closeBypass_of_open h]
    rfl

theorem State.closeBypass_closed (s : State) : s.closeBypass.on SYS_BYPASS.CLOSED = true := by
  cases h : s.on SYS_BYPASS.CLOSED
  case true => rw [State.closeBypass_of_closed h]; exact h
  case false => rw [State.on_of_regs (State.closeBypass_regs h)]; exact s.closedWords_closed

/-- A node whose by-pass closes repeats nothing, sees no ring and has no station (R71, R527). -/
theorem State.closeBypass_loopStat {s : State} (h : s.on SYS_BYPASS.CLOSED = false) :
    s.closeBypass.on LOP_STAT.REPEAT = false ∧ s.closeBypass.on LOP_STAT.RING = false ∧ s.closeBypass.get LOP_STAT.STATION = 0 := by
  have hregs := State.closeBypass_regs h
  rw [State.on_of_regs hregs, State.on_of_regs hregs, State.get_of_regs hregs]
  exact ⟨s.closedWords_repeat, s.closedWords_ring, s.closedWords_station⟩

theorem State.closeBypass_evt {s : State} (h : s.on SYS_BYPASS.CLOSED = false) : s.closeBypass.evt = (s.raise Ev.LEFT).evt := by
  rw [State.closeBypass_of_open h]; rfl

theorem State.closeBypass_joined {s : State} (h : s.on SYS_BYPASS.CLOSED = false) : s.closeBypass.bypass.joined = false := by
  rw [State.closeBypass_of_open h]; rfl

theorem State.closeBypass_waiting (s : State) : s.closeBypass.bypass.waiting = s.bypass.waiting := by
  cases h : s.on SYS_BYPASS.CLOSED
  case true => rw [State.closeBypass_of_closed h]
  case false => rw [State.closeBypass_of_open h]; rfl

theorem State.closeBypass_time (s : State) : s.closeBypass.time = s.time := by
  rw [s.closeBypass_bypassFrame.2]

/-! ### The by-pass opens -/

/-- The repeat path is enabled and the switch stands open, before any join (R71). -/
def State.switchedOpen (s : State) : State :=
  State.put { s with bypass := { s.bypass with repeating := true, rejoin := false } } SYS_BYPASS.CLOSED 0

theorem State.switchedOpen_onlyFields (s : State) : s.onlyFields s.switchedOpen [SYS_BYPASS.CLOSED] :=
  s.onlyFields_put_self SYS_BYPASS.CLOSED rfl 0

theorem State.switchedOpen_open (s : State) : s.switchedOpen.on SYS_BYPASS.CLOSED = false :=
  State.on_put_zero _ SYS_BYPASS.CLOSED rfl

theorem State.switchedOpen_relayType (s : State) : s.switchedOpen.relayType = s.relayType :=
  State.on_of_onlyFields s.switchedOpen_onlyFields SYS_STRAP.BYPTYPE (by decide)

theorem State.switchedOpen_bypassFrame (s : State) : s.bypassFrame s.switchedOpen :=
  ⟨State.onlyFields_mono s.switchedOpen_onlyFields (by simp [bypassFields]), rfl⟩

theorem State.openBypass_of_open {s : State} (h : s.on SYS_BYPASS.CLOSED = false) : s.openBypass = s := if_neg (by simp [h])

/-- The relay is driven, and SETTLE runs. -/
def State.relayDriven (s : State) : State :=
  { s.switchedOpen with bypass := { s.switchedOpen.bypass with settling := true, since := s.time.cyc } }

/-- The relay type settles first, the switch type joins at once (R71). -/
theorem State.openBypass_of_closed {s : State} (h : s.on SYS_BYPASS.CLOSED = true) :
    s.openBypass = if s.relayType then s.relayDriven else s.switchedOpen.join := by
  rw [← s.switchedOpen_relayType]
  exact if_pos h

/-- An opening finds the node open already, drives its relay, or joins it. -/
theorem State.openBypass_eq (s : State) :
    (s.on SYS_BYPASS.CLOSED = false ∧ s.openBypass = s) ∨ s.openBypass = s.relayDriven ∨ s.openBypass = s.switchedOpen.join := by
  cases h : s.on SYS_BYPASS.CLOSED
  case false => exact .inl ⟨rfl, State.openBypass_of_open h⟩
  case true =>
    rw [State.openBypass_of_closed h]
    cases s.relayType
    case false => exact .inr (.inr rfl)
    case true => exact .inr (.inl rfl)

theorem State.openBypass_bypassFrame (s : State) : s.bypassFrame s.openBypass := by
  obtain ⟨-, h⟩ | h | h := s.openBypass_eq <;> rw [h]
  · exact s.bypassFrame_refl
  · exact ⟨s.switchedOpen_bypassFrame.1, rfl⟩
  · exact State.bypassFrame_trans s.switchedOpen_bypassFrame s.switchedOpen.join_bypassFrame

theorem State.switchedOpen_join_open (s : State) : s.switchedOpen.join.on SYS_BYPASS.CLOSED = false :=
  (State.on_of_onlyFields s.switchedOpen.join_onlyFields SYS_BYPASS.CLOSED (by decide)).trans s.switchedOpen_open

theorem State.openBypass_open (s : State) : s.openBypass.on SYS_BYPASS.CLOSED = false := by
  obtain ⟨hopen, h⟩ | h | h := s.openBypass_eq <;> rw [h]
  · exact hopen
  · exact s.switchedOpen_open
  · exact s.switchedOpen_join_open

theorem State.openBypass_waiting (s : State) : s.openBypass.bypass.waiting = s.bypass.waiting := by
  obtain ⟨-, h⟩ | h | h := s.openBypass_eq <;> rw [h] <;> rfl

/-! ### One switching -/

theorem State.bypassAct_opens {s : State} (h : s.bypassMayOpen = true) (hr : s.bypass.rejoin = false) : s.bypassAct = s.openBypass := by
  simp [State.bypassAct, h, hr]

theorem State.bypassAct_closes {s : State} (h : s.bypassMayOpen = false) : s.bypassAct = s.closeBypass := by
  simp [State.bypassAct, h]

/-- One switching opens or closes. -/
theorem State.bypassAct_eq (s : State) : s.bypassAct = s.openBypass ∨ s.bypassAct = s.closeBypass := by
  unfold State.bypassAct
  split
  · exact .inr rfl
  · split
    · exact .inl rfl
    · exact .inr rfl

theorem State.bypassAct_bypassFrame (s : State) : s.bypassFrame s.bypassAct := by
  obtain h | h := s.bypassAct_eq <;> rw [h]
  · exact s.openBypass_bypassFrame
  · exact s.closeBypass_bypassFrame

theorem State.bypassAct_waiting (s : State) : s.bypassAct.bypass.waiting = s.bypass.waiting := by
  obtain h | h := s.bypassAct_eq <;> rw [h]
  · exact s.openBypass_waiting
  · exact s.closeBypass_waiting

theorem State.bypassIfRelay_internal {s : State} (h : s.relayType = false) : s.bypassIfRelay = s := by
  simp [State.bypassIfRelay, h]

theorem State.bypassIfRelay_bypassFrame (s : State) : s.bypassFrame s.bypassIfRelay := by
  unfold State.bypassIfRelay
  split
  · split
    · exact State.bypassFrame_trans s.bypassAct_bypassFrame s.bypassAct.bypassAct_bypassFrame
    · exact s.bypassAct_bypassFrame
  · exact s.bypassFrame_refl

/-! ### The commands -/

/-- BYPASS_SWITCH of the switch type. -/
theorem bypassSwitch_opens : Effect.bypassSwitch := by
  intro s hmay hrejoin hrelay hclosed
  have hact : s.bypassAct = s.switchedOpen.join :=
    (State.bypassAct_opens hmay hrejoin).trans ((State.openBypass_of_closed hclosed).trans (by simp [hrelay]))
  refine ⟨s.switchedOpen.join, congrArg go hact, s.switchedOpen_join_open, s.switchedOpen.join_repeat, rfl, rfl, ?_, rfl⟩
  exact State.onlyFields_trans (State.onlyFields_mono s.switchedOpen_onlyFields (by simp))
    (State.onlyFields_mono s.switchedOpen.join_onlyFields (by simp))

theorem bypassSwitch_closes : Effect.bypassSwitchCloses := by
  intro s hmay hopen
  obtain ⟨hrepeat, hring, hstation⟩ := State.closeBypass_loopStat hopen
  obtain ⟨hfields, hrest⟩ := s.closeBypass_bypassFrame
  exact ⟨s.closeBypass, congrArg go (State.bypassAct_closes hmay), s.closeBypass_closed, hrepeat, hring, hstation,
    State.closeBypass_joined hopen, State.closeBypass_evt hopen, hfields, hrest⟩

theorem bypassSettled_joins : Effect.bypassSettled := by
  intro s hsettling hsettle
  refine ⟨s.join, ?_, rfl, rfl, s.join_repeat, s.join_evt, s.join_onlyFields, s.join_rest⟩
  exact if_pos (by simp [hsettling, hsettle])

/-- What BYPASS_FAULT leaves of an open by-pass, before the wait is written. -/
def State.faultClosed (s : State) : State := (s.closeBypass.bump SYS_BYPASS.FAULTS).raise Ev.BYPASS_FAULT

theorem State.faultClosed_closed (s : State) : s.faultClosed.on SYS_BYPASS.CLOSED = true :=
  (State.on_put_apart s.closeBypass SYS_BYPASS.FAULTS SYS_BYPASS.CLOSED rfl rfl _).trans s.closeBypass_closed

theorem State.faultClosed_faults (s : State) : s.faultClosed.get SYS_BYPASS.FAULTS = min 255 (s.get SYS_BYPASS.FAULTS + 1) := by
  have hkept : s.closeBypass.get SYS_BYPASS.FAULTS = s.get SYS_BYPASS.FAULTS :=
    State.get_of_onlyFields s.closeBypass_bypassFrame.1 SYS_BYPASS.FAULTS (by decide)
  rw [← hkept]
  exact s.closeBypass.get_bump SYS_BYPASS.FAULTS rfl

theorem State.faultClosed_onlyFields (s : State) :
    s.onlyFields s.faultClosed [SYS_BYPASS.CLOSED, SYS_BYPASS.FAULTS, LOP_STAT.REPEAT, LOP_STAT.RING, LOP_STAT.STATION] := by
  have h := State.onlyFields_mono (gs := [SYS_BYPASS.CLOSED, SYS_BYPASS.FAULTS, LOP_STAT.REPEAT, LOP_STAT.RING, LOP_STAT.STATION])
    s.closeBypass_bypassFrame.1 (by simp [bypassFields])
  exact State.onlyFields_put h SYS_BYPASS.FAULTS (by simp) rfl _

theorem State.faultClosed_rest (s : State) :
    s.faultClosed = { s with regs := s.faultClosed.regs, evt := s.faultClosed.evt, bypass := s.faultClosed.bypass, lop := s.faultClosed.lop } :=
  congrArg (fun x : State => { x with regs := s.faultClosed.regs, evt := s.faultClosed.evt }) s.closeBypass_bypassFrame.2

theorem State.faultClosed_left {s : State} (h : s.on SYS_BYPASS.CLOSED = false) : s.faultClosed.raised Ev.LEFT := by
  refine State.raised_raise ?_ Ev.BYPASS_FAULT
  have hleft := s.raised_raise_self Ev.LEFT
  rw [State.raised, ← State.closeBypass_evt h] at hleft
  exact hleft

theorem bypassFault_closes : Effect.bypassFault := by
  intro s hrelay hjoined hopen hsince
  have htime : s.faultClosed.time = s.time := s.closeBypass_time
  refine ⟨{ s.faultClosed with bypass := { s.faultClosed.bypass with
      faults := s.bypass.faults + 1
      waiting := some (s.faultClosed.time.aoTick + 1024 * min 3600 (60 * 2 ^ min 6 s.bypass.faults)) } }, ?_, ?_⟩
  · exact if_pos (by simp [hrelay, hjoined, hsince])
  · refine ⟨s.faultClosed_closed, s.faultClosed_faults, State.closeBypass_joined hopen, ?_,
      State.raised_raise_self _ Ev.BYPASS_FAULT, State.faultClosed_left hopen, s.faultClosed_onlyFields, ?_⟩
    · rw [htime]
    · exact congrArg (fun x : State => { x with bypass := { s.faultClosed.bypass with
        faults := s.bypass.faults + 1
        waiting := some (s.faultClosed.time.aoTick + 1024 * min 3600 (60 * 2 ^ min 6 s.bypass.faults)) } }) s.faultClosed_rest

theorem bypassRetry_tries : Effect.bypassRetry := by
  intro s w hwait hdue
  obtain ⟨hfields, hrest⟩ := State.bypassAct_bypassFrame { s with bypass := { s.bypass with waiting := none } }
  refine ⟨State.bypassAct { s with bypass := { s.bypass with waiting := none } }, ?_, State.bypassAct_waiting _, ?_, hfields, hrest⟩
  · show execBypassRetry s = _
    simp [execBypassRetry, hwait, hdue, go]
  · intro hmay hrejoin
    rw [State.bypassAct_opens hmay hrejoin]
    exact State.openBypass_open _

/-- Settles O21: a switching opens or closes, and either moves the named fields alone; each command is one switching, a join, or a
closing with its wait. -/
theorem loopBypass : Obligations.LoopBypass :=
  ⟨bypassSwitch_opens, bypassSwitch_closes, bypassSettled_joins, bypassFault_closes, bypassRetry_tries⟩

end Sys2Proof.Machine
end

section
/-! PROOF. The supply monitors (R67, R106 to R108, R115, R116, R118; choices in log entry 23). -/

namespace Sys2Proof.Machine

/-! ### VIO_L -/

theorem violBack_good : Effect.violBack := by
  intro s
  have hput := s.onlyFields_put_self PWR_STAT.VIOLOK rfl 1
  obtain ⟨hfields, hrest⟩ := (s.put PWR_STAT.VIOLOK 1).bypassIfRelay_bypassFrame
  refine ⟨(s.put PWR_STAT.VIOLOK 1).bypassIfRelay, rfl, ?_, ?_, ?_, hrest⟩
  · rw [State.on_of_onlyFields hfields PWR_STAT.VIOLOK (by decide)]
    exact s.on_put_one PWR_STAT.VIOLOK rfl
  · exact State.onlyFields_trans (State.onlyFields_mono hput (by simp)) (State.onlyFields_mono hfields (by simp [bypassFields]))
  · intro hinternal
    have hkept : (s.put PWR_STAT.VIOLOK 1).relayType = false :=
      (State.on_of_onlyFields hput SYS_STRAP.BYPTYPE (by decide)).trans hinternal
    rw [State.bypassIfRelay_internal hkept]
    exact ⟨hput, rfl⟩

/-! ### VIO_H -/

/-- What VIOH_LOSS leaves of a chip whose VIO_H was good. -/
def State.viohLost (s : State) : State :=
  let u := (s.put PWR_STAT.VIOHOK 0).raiseIf (s.mode != .reset) Ev.VIOH_LOSS
  { u with pins := { s.pins with vioHBad := true, dRole := .floating, dOut := none, waitLow := false, frzFalling := false, frzRising := false }
           pwr := { s.pwr with presample := none } }

theorem execViohLoss_of_good {s : State} (h : s.pins.vioHBad = false) : execViohLoss s = .next s.viohLost := by
  simp [execViohLoss, h, go, State.viohLost]

theorem State.viohLost_onlyFields (s : State) : s.onlyFields s.viohLost [PWR_STAT.VIOHOK] :=
  State.onlyFields_raiseIf (s.onlyFields_put_self PWR_STAT.VIOHOK rfl 0) (s.mode != .reset) Ev.VIOH_LOSS

theorem State.viohLost_viohok (s : State) : s.viohLost.on PWR_STAT.VIOHOK = false :=
  (State.raiseIf_on _ _ Ev.VIOH_LOSS PWR_STAT.VIOHOK).trans (s.on_put_zero PWR_STAT.VIOHOK rfl)

theorem viohLoss_raises : Effect.viohLoss := by
  intro s hgood hmode
  have hraise : (s.mode != .reset) = true := by simp [hmode]
  refine ⟨s.viohLost, execViohLoss_of_good hgood, s.viohLost_viohok, rfl, rfl, rfl, rfl, ?_, s.viohLost_onlyFields, ?_⟩ <;>
    simp only [State.viohLost, hraise] <;> rfl

theorem viohLoss_inReset : Effect.viohLossInReset := by
  intro s hgood hmode
  refine ⟨s.viohLost, execViohLoss_of_good hgood, s.viohLost_viohok, rfl, rfl, s.viohLost_onlyFields, ?_⟩
  have hquiet : (s.mode != .reset) = false := by simp [hmode]
  simp only [State.viohLost, hquiet]
  rfl

/-- D[15:0] take their meaning where CS_N has been high (R63). -/
theorem State.takeRole_of_csHigh {s : State} (h : s.pins.csHigh = true) : s.takeRole.pins.dRole = s.takeRole.busRole := by
  simp only [State.takeRole, h, Bool.true_or, if_true]
  rfl

/-- Else they keep the meaning that they have, or float (R63). -/
theorem State.takeRole_keeps_or_floats {s : State} (h : s.pins.csHigh = false) :
    s.takeRole.pins.dRole = s.pins.dRole ∨ s.takeRole.pins.dRole = .floating := by
  simp only [State.takeRole, h, Bool.false_or]
  split
  next hrole => exact .inl (by simpa using hrole)
  next => exact .inr rfl

/-- What VIOH_BACK leaves before D[15:0] take a meaning. -/
def State.viohGood (s : State) (high : Bool) : State :=
  { s.put PWR_STAT.VIOHOK 1 with pins := { s.pins with vioHBad := false, csHigh := high } }

theorem viohBack_good : Effect.viohBack := by
  intro s high
  refine ⟨(s.viohGood high).takeRole, rfl, s.on_put_one PWR_STAT.VIOHOK rfl, rfl, s.onlyFields_put_self PWR_STAT.VIOHOK rfl 1, ?_, ?_, rfl⟩
  · intro hhigh
    exact State.takeRole_of_csHigh (s := s.viohGood high) hhigh
  · intro hlow
    exact State.takeRole_keeps_or_floats (s := s.viohGood high) hlow

/-! ### VDRV -/

theorem State.disarm_rest (s : State) (p : Nat → Bool) : s.disarm p = { s with fir := (s.disarm p).fir } := by
  unfold State.disarm
  split <;> rfl

/-- No member of the epoch in progress stays armed where every engine is disarmed (R256). -/
theorem State.disarm_all (s : State) (e : Epoch) (h : (s.disarm (fun _ => true)).fir.cur = some e) :
    ∀ v ∈ e.events, ∀ m ∈ v.members, m.armed = false := by
  unfold State.disarm at h
  split at h
  next hnone => simp [hnone] at h
  next e0 hsome =>
    simp only [State.mapEpoch, hsome, Option.map_some, if_true, Option.some.injEq] at h
    subst h
    intro v hv m hm
    obtain ⟨v0, -, rfl⟩ := List.mem_map.1 hv
    obtain ⟨m0, -, rfl⟩ := List.mem_map.1 hm
    rfl

theorem vdrvFault_disarms : Effect.vdrvFault := by
  intro s
  have hrest := (s.put PWR_STAT.VDRVOK 0).disarm_rest (fun _ => true)
  have hregs : ((s.put PWR_STAT.VDRVOK 0).disarm (fun _ => true)).regs = (s.put PWR_STAT.VDRVOK 0).regs := by rw [hrest]
  have hfields : s.onlyFields ((s.put PWR_STAT.VDRVOK 0).disarm (fun _ => true)) [PWR_STAT.VDRVOK] :=
    State.onlyFields_regs (s.onlyFields_put_self PWR_STAT.VDRVOK rfl 0) hregs
  refine ⟨((s.put PWR_STAT.VDRVOK 0).disarm (fun _ => true)).raise Ev.VDRV_FAULT, rfl, ?_, ?_, ?_, hfields, ?_⟩
  · rw [State.raise_on, hrest]
    exact s.on_put_zero PWR_STAT.VDRVOK rfl
  · rw [hrest]; rfl
  · intro e he
    exact (s.put PWR_STAT.VDRVOK 0).disarm_all e he
  · rw [hrest]; rfl

theorem vdrvBack_good : Effect.vdrvBack := fun s =>
  ⟨s.put PWR_STAT.VDRVOK 1, rfl, s.on_put_one PWR_STAT.VDRVOK rfl, s.onlyFields_put_self PWR_STAT.VDRVOK rfl 1, rfl⟩

/-! ### VBAT -/

theorem batend_raises : Effect.batend := by
  intro s hhub hbefore
  refine ⟨(s.put PWR_STAT.BATEND 1).raise Ev.BATEND, ?_, s.on_put_one PWR_STAT.BATEND rfl, rfl,
    s.onlyFields_put_self PWR_STAT.BATEND rfl 1, rfl⟩
  show execBatend s = _
  simp [execBatend, State.batEnd, hhub, hbefore, go]

/-- The samples in a row below the threshold, up to three, after one of `mv` (R107). -/
def State.lowAfter (s : State) (mv : Nat) : Nat := if mv < 2000 + 10 * s.get PWR_CFG.BATLOW then min 3 (s.pwr.lowSamples + 1) else 0

/-- The sample is shown and counted, before BATEND and BATLOW follow it. -/
def State.vbatShown (s : State) (mv : Nat) : State :=
  { s.put PWR_VBAT.MV mv with pwr := { s.pwr with lowSamples := s.lowAfter mv } }

/-- A sample of a hub that is not below 2.45 V clears BATEND (R108). -/
def State.vbatEndFollows (s : State) (mv : Nat) : State := if !s.pod && decide (2450 ≤ mv) then s.put PWR_STAT.BATEND 0 else s

/-- BATLOW follows the count `n` of low samples, with its event where it rises (R107). -/
def State.batlowFollows (s : State) (n : Nat) : State :=
  State.putB (s.raiseIf (decide (n = 3) && !s.on PWR_STAT.BATLOW) Ev.BATLOW) PWR_STAT.BATLOW (decide (n = 3))

theorem State.vbatShown_onlyFields (s : State) (mv : Nat) : s.onlyFields (s.vbatShown mv) [PWR_VBAT.MV] :=
  s.onlyFields_put_self PWR_VBAT.MV rfl mv

theorem State.vbatEndFollows_onlyFields (s : State) (mv : Nat) : s.onlyFields (s.vbatEndFollows mv) [PWR_STAT.BATEND] := by
  unfold State.vbatEndFollows
  split
  · exact s.onlyFields_put_self PWR_STAT.BATEND rfl 0
  · exact s.onlyFields_refl _

theorem State.vbatEndFollows_rest (s : State) (mv : Nat) : s.vbatEndFollows mv = { s with regs := (s.vbatEndFollows mv).regs } := by
  unfold State.vbatEndFollows
  split <;> rfl

theorem State.batlowFollows_onlyFields (s : State) (n : Nat) : s.onlyFields (s.batlowFollows n) [PWR_STAT.BATLOW] :=
  State.onlyFields_put (State.onlyFields_raiseIf (s.onlyFields_refl _) _ _) PWR_STAT.BATLOW (by simp) rfl _

theorem State.batlowFollows_rest (s : State) (n : Nat) :
    s.batlowFollows n = { s with regs := (s.batlowFollows n).regs, evt := (s.batlowFollows n).evt } := by
  unfold State.batlowFollows State.raiseIf
  split <;> rfl

theorem State.batlowFollows_raises {s : State} (h : s.on PWR_STAT.BATLOW = false) : (s.batlowFollows 3).raised Ev.BATLOW := by
  simpa [State.batlowFollows, State.raiseIf, h, State.raised] using s.raised_raise_self Ev.BATLOW

/-- The state after a sample, in the order in which the monitors follow it. -/
def State.vbatSampled (s : State) (mv : Nat) : State := ((s.vbatShown mv).vbatEndFollows mv).batlowFollows (s.lowAfter mv)

theorem State.vbatSampled_rest (s : State) (mv : Nat) : s.vbatSampled mv =
    { s with regs := (s.vbatSampled mv).regs, evt := (s.vbatSampled mv).evt, pwr := { s.pwr with lowSamples := s.lowAfter mv } } :=
  (((s.vbatShown mv).vbatEndFollows mv).batlowFollows_rest _).trans
    (congrArg (fun x : State => { x with regs := (s.vbatSampled mv).regs, evt := (s.vbatSampled mv).evt })
      ((s.vbatShown mv).vbatEndFollows_rest mv))

theorem execVbatSample_eq {s : State} (mv : BitVec 12) (hrun : s.mode = .run) (hfrozen : s.umb.frozen = false) (hshed : s.shed = false)
    (hstep : s.boot.steps.testBit 3 = true) : execVbatSample mv s = .next (s.vbatSampled mv.toNat) := by
  have hthreshold : (s.put PWR_VBAT.MV mv.toNat).get PWR_CFG.BATLOW = s.get PWR_CFG.BATLOW :=
    State.get_put_apart s PWR_VBAT.MV PWR_CFG.BATLOW rfl rfl _
  unfold execVbatSample
  rw [if_pos (by simp [hrun, hfrozen, hshed, hstep])]
  simp only [hthreshold, decide_eq_true_eq]
  rfl

theorem vbatSample_shows : Effect.vbatSample := by
  intro s mv hrun hfrozen hshed hstep
  have hrest := s.vbatSampled_rest mv.toNat
  have hcount : (s.vbatSampled mv.toNat).pwr.lowSamples = s.lowAfter mv.toNat := by rw [hrest]
  have h1 := s.vbatShown_onlyFields mv.toNat
  have h2 := (s.vbatShown mv.toNat).vbatEndFollows_onlyFields mv.toNat
  have h3 := ((s.vbatShown mv.toNat).vbatEndFollows mv.toNat).batlowFollows_onlyFields (s.lowAfter mv.toNat)
  refine ⟨s.vbatSampled mv.toNat, execVbatSample_eq mv hrun hfrozen hshed hstep, ?_, hcount, ?_, ?_, ?_, ?_⟩
  · rw [State.vbatSampled, State.get_of_onlyFields h3 PWR_VBAT.MV (by decide), State.get_of_onlyFields h2 PWR_VBAT.MV (by decide)]
    exact State.get_put_le s PWR_VBAT.MV rfl _ (Nat.le_sub_one_of_lt mv.isLt)
  · rw [hcount]
    exact State.on_putB _ PWR_STAT.BATLOW rfl _
  · intro hthree hbefore
    rw [State.vbatSampled, ← hcount, hthree]
    refine State.batlowFollows_raises ?_
    rw [State.on_of_onlyFields h2 PWR_STAT.BATLOW (by decide), State.on_of_onlyFields h1 PWR_STAT.BATLOW (by decide), hbefore]
  · exact State.onlyFields_trans (State.onlyFields_mono h1 (by simp))
      (State.onlyFields_trans (State.onlyFields_mono h2 (by simp)) (State.onlyFields_mono h3 (by simp)))
  · rw [hcount]; exact hrest

/-! ### HOLD and the vault -/

theorem holdokReached_good : Effect.holdokReached := by
  intro s hdip
  refine ⟨s.put PWR_STAT.HOLDOK 1, ?_, s.on_put_one PWR_STAT.HOLDOK rfl, s.onlyFields_put_self PWR_STAT.HOLDOK rfl 1, rfl⟩
  show execHoldokReached s = _
  simp [execHoldokReached, hdip, go]

theorem holdFault_noted : Effect.holdFault := by
  intro s hhub hreset hhold hwarm
  refine ⟨_, ?_, rfl⟩
  show execHoldFault s = _
  simp [execHoldFault, hhub, hreset, hhold, hwarm, go]

/-- Updates of the registers alone, one after another, are one. -/
theorem foldl_regs_rest {α : Type} (f : State → α → State) (hf : ∀ s a, f s a = { s with regs := (f s a).regs }) (xs : List α) (s : State) :
    xs.foldl f s = { s with regs := (xs.foldl f s).regs } := by
  induction xs generalizing s with
  | nil => rfl
  | cons a xs ih => exact (ih (f s a)).trans (congrArg (fun x : State => { x with regs := (xs.foldl f (f s a)).regs }) (hf s a))

/-- The power-fail record and the start and freeze counts are cleared. -/
def State.vaultCountsCleared (s : State) : State :=
  [PWR_PF.addr, SYS_RSTCNT.addr, UMB_FRZNUM.addr, UMB_TOTAL.addr, UMB_TOTAL_H.addr].foldl (fun s a => s.wr a 0) s

theorem State.vaultCountsCleared_rest (s : State) : s.vaultCountsCleared = { s with regs := s.vaultCountsCleared.regs } :=
  foldl_regs_rest _ (fun _ _ => rfl) _ _

/-- The registers that the vault keeps across starts are cleared: those counts, and the levels of the lock-outs. -/
def State.vaultRegsCleared (s : State) : State :=
  (List.range 17).foldl (fun s c => (s.put (STO_LOCK.FAILS c) 0).put (STO_LOCK.LEVEL c) 0)
    ((s.vaultCountsCleared.put SEA_LOCK.FAILS 0).put SEA_LOCK.LEVEL 0)

theorem State.vaultRegsCleared_rest (s : State) : s.vaultRegsCleared = { s with regs := s.vaultRegsCleared.regs } :=
  (foldl_regs_rest _ (fun _ _ => rfl) _ _).trans
    (congrArg (fun x : State => { x with regs := s.vaultRegsCleared.regs }) s.vaultCountsCleared_rest)

/-- Beside the registers, a lost vault changes its own bytes, the RTC and what the vault kept (R118). -/
theorem State.clearVault_rest (s : State) : s.clearVault =
    { s with regs := s.vaultRegsCleared.regs, vault := [], time := { s.time with rtc := 0, presc := 0 }
             pwr := { s.pwr with pfCut := false, rstoreCut := false }, boot := { s.boot with lostSets := 0 }
             sea := { s.sea with lockEnd := none }, sto := { s.sto with lockEnd := [] }, umb := { s.umb with due := none } } :=
  congrArg (fun x : State =>
    { x with vault := [], time := { x.time with rtc := 0, presc := 0 }
             pwr := { x.pwr with pfCut := false, rstoreCut := false }, boot := { x.boot with lostSets := 0 }
             sea := { x.sea with lockEnd := none }, sto := { x.sto with lockEnd := [] }, umb := { x.umb with due := none } })
    s.vaultRegsCleared_rest

theorem vaultRetentionLoss_clears : Effect.vaultRetentionLoss := by
  intro s
  refine ⟨{ s.clearVault with pwr := { s.clearVault.pwr with vaultLost := true, aoReset := true } }, rfl, ?_⟩
  rw [s.clearVault_rest]
  exact ⟨rfl, rfl, rfl, rfl, rfl, rfl, rfl, rfl, rfl⟩

/-- Settles O17: each monitor writes its own field of PWR_STAT, and the commands around it act as their lemmas say. -/
theorem supplyMonitors : Obligations.SupplyMonitors :=
  ⟨violBack_good, viohLoss_raises, viohBack_good, vdrvFault_disarms, vdrvBack_good, batend_raises, vbatSample_shows, holdokReached_good,
    holdFault_noted, vaultRetentionLoss_clears, viohLoss_inReset⟩

end Sys2Proof.Machine
end

section
/-! PROOF. The Umbra port: a read-out begun before the image is ready (R366). -/

namespace Sys2Proof.Machine

/-- A chip frozen by FRZ_N whose host has let CS_N fall before the image is ready: D[15:0] are the Umbra port, and nothing drives them yet. -/
def csLowBeforeReady : State :=
  { State.reset with umb := { State.reset.umb with frozen := true, port := true },
                     pins := { State.reset.pins with dRole := .umbra, csHigh := false } }

/-- UMBRA_PORT_ENABLE leaves it where CS_N falls at once. -/
theorem umbraPortEnable_csLowBeforeReady :
    exec (.umbraPortEnable true) { State.reset with umb := { State.reset.umb with frozen := true } } = .next csLowBeforeReady := rfl

/-- Where CS_N is low as the image becomes ready, the chip drives the first word at once (R366). -/
theorem execImageReady_drives {s : State} (hfrozen : s.umb.frozen = true) (hready : s.umb.ready = false) (hprog : s.umb.programming = false)
    (hport : s.umb.port = true) (hstopped : s.umb.stopped = false) (hvioH : s.pins.vioHBad = false) (hrising : s.pins.frzRising = false)
    (hcs : s.pins.csHigh = false) (hawait : s.pins.awaitFall = false) :
    ∃ t, exec .imageReady s = .next t ∧ t.pins.dOut = some (if s.umb.pos < 98304 then s.umbraImage.getD s.umb.pos 0 else 0xFFFF) := by
  refine ⟨State.driveUmbra { s with
    free := s.free + 98304
    umb := { s.umb with
      programming := false, ready := true, image := s.umbraImage
      crc := some ((s.umbraImage.getD 98302 0).toNat + 65536 * (s.umbraImage.getD 98303 0).toNat) } }, ?_, rfl⟩
  show execImageReady s = _
  simp [execImageReady, State.readOutRuns, State.readOutServes, hfrozen, hready, hprog, hport, hstopped, hvioH, hrising, hcs, hawait, go]

/-- Where CS_N has fallen before the image is ready, IMAGE_READY drives D[15:0], and the clause leaves the pins as they were. -/
theorem imageReady_movesPins : ¬ Effect.imageReady := by
  intro h
  obtain ⟨t, hexec, -, -, -, -, hframe⟩ := h csLowBeforeReady rfl rfl rfl
  obtain ⟨u, hdrives, hout⟩ := execImageReady_drives (s := csLowBeforeReady) rfl rfl rfl rfl rfl rfl rfl rfl rfl
  obtain rfl : t = u := Host.Outcome.next.inj (hexec.symm.trans hdrives)
  rw [hframe] at hout
  exact Option.some_ne_none _ hout.symm

/-- Refutes O22: its clause on IMAGE_READY says that no pin changes, but a chip whose CS_N fell before the image was ready (`csLowBeforeReady`)
drives the first word on D[15:0] then, as R366 says. -/
theorem not_freezePort : ¬ Obligations.FreezePort :=
  fun ⟨_, _, hready, _⟩ => imageReady_movesPins hready

end Sys2Proof.Machine
end

section
/-! PROOF. The zero-crossing trackers (R135, R136): what CLK_ZCk shows of a tracker, a crossing held over, and the loss of lock. -/

namespace Sys2Proof.Machine

/-! ### A tracker and its register -/

/-- The fields in which CLK_ZCk shows the tracker of phase `k` (Table CLK-12). -/
def trackerFields (k : Nat) : List Fd := [CLK_ZC.HALF k, CLK_ZC.LOCK k, CLK_ZC.HOLD k]

theorem State.tracker_of_clk {s t : State} (h : t.clk = s.clk) (k : Nat) : t.tracker k = s.tracker k := by
  simp only [State.tracker, h]

section
variable (s : State) (k : Nat) (t : Tracker)

theorem State.setTracker_tracker : (s.setTracker k t).tracker k = t := (Sparse.get_set Tracker.fresh _ k k t).trans (if_pos rfl)

theorem State.setTracker_rest :
    s.setTracker k t = { s with regs := (s.setTracker k t).regs, clk := { s.clk with trackers := (s.setTracker k t).clk.trackers } } := rfl

theorem State.setTracker_onlyFields : s.onlyFields (s.setTracker k t) (trackerFields k) := by
  have hhalf := State.onlyFields_put (s.onlyFields_refl (trackerFields k)) (CLK_ZC.HALF k) (by simp [trackerFields]) rfl
    (roundDiv (10 * t.p) 192).toNat
  have hlock := State.onlyFields_put hhalf (CLK_ZC.LOCK k) (by simp [trackerFields]) rfl (t.stage == .locked).toNat
  exact State.onlyFields_put hlock (CLK_ZC.HOLD k) (by simp [trackerFields]) rfl t.hold

theorem State.setTracker_lock : (s.setTracker k t).on (CLK_ZC.LOCK k) = (t.stage == .locked) :=
  (State.on_put_apart _ (CLK_ZC.HOLD k) (CLK_ZC.LOCK k) rfl (by simp [Fd.apart, CLK_ZC.HOLD, CLK_ZC.LOCK]) t.hold).trans
    (State.on_putB _ (CLK_ZC.LOCK k) rfl _)

/-- HOLD takes the held-over crossings of every tracker, 16 at most. -/
theorem State.setTracker_hold (h : t.hold ≤ 31) : (s.setTracker k t).get (CLK_ZC.HOLD k) = t.hold :=
  State.get_put_le _ (CLK_ZC.HOLD k) rfl t.hold h

theorem State.setTracker_ignored : (s.setTracker k t).get (CLK_ZC.IGNORED k) = s.get (CLK_ZC.IGNORED k) :=
  State.get_of_onlyFields (s.setTracker_onlyFields k t) (CLK_ZC.IGNORED k)
    (by simp [trackerFields, Fd.apart, CLK_ZC.HALF, CLK_ZC.LOCK, CLK_ZC.HOLD, CLK_ZC.IGNORED])

end

/-! ### A crossing within the window -/

/-- The tracker after a crossing at `x`, the prediction plus `e` (R135). -/
def Tracker.kept (t : Tracker) (x e : Int) : Tracker :=
  { t with r := t.r + t.p + roundDiv e 4, p := t.p + roundDiv e 16, last := some x, hold := 0, missed := false }

/-- A crossing at the prediction `c` plus `e` deviates from it by `e`. -/
theorem deviation_of_predicted (c e : Int) : c + e - c = e := by omega

section
variable {s : State} {k : Fin 3} {e : Int}

theorem execZeroCrossing_near (hrun : s.trackersRun = true) (hlocked : (s.tracker k).stage = .locked) (hnear : e.natAbs ≤ 5760) :
    execZeroCrossing k ((s.tracker k).r + (s.tracker k).p + e) s
      = .next (s.setTracker k ((s.tracker k).kept ((s.tracker k).r + (s.tracker k).p + e) e)) := by
  simp only [execZeroCrossing, deviation_of_predicted]
  simp [hrun, hlocked, hnear, zcWindow, Tracker.kept, go]

theorem execZeroCrossing_settles (hrun : s.trackersRun = true) (hsettle : (s.tracker k).stage = .settle 31) (hnear : e.natAbs ≤ 5760) :
    execZeroCrossing k ((s.tracker k).r + (s.tracker k).p + e) s
      = .next ((s.setTracker k { (s.tracker k).kept ((s.tracker k).r + (s.tracker k).p + e) e with stage := .locked }).raise Ev.ZC_LOCK) := by
  simp only [execZeroCrossing, deviation_of_predicted]
  simp [hrun, hsettle, hnear, zcWindow, Tracker.kept, go]

end

theorem zeroCrossing_follows : Effect.zeroCrossing := by
  intro s k e hrun hlocked hnear
  have htracker := s.setTracker_tracker k ((s.tracker k).kept ((s.tracker k).r + (s.tracker k).p + e) e)
  refine ⟨_, execZeroCrossing_near hrun hlocked hnear, ?_, ?_, ?_, ?_, s.setTracker_hold k _ (Nat.zero_le _), s.setTracker_onlyFields k _, rfl⟩
  · rw [htracker]; rfl
  · rw [htracker]; rfl
  · rw [htracker]; exact hlocked
  · rw [State.setTracker_lock]; simp [Tracker.kept, hlocked]

theorem zeroCrossing_locks : Effect.zeroCrossingLocks := by
  intro s k e hrun hsettle hnear
  refine ⟨_, execZeroCrossing_settles hrun hsettle hnear, ?_, ?_, rfl, ?_, rfl⟩
  · rw [State.tracker_of_clk (State.raise_clk _ _), State.setTracker_tracker]
  · rw [State.raise_on]; exact s.setTracker_lock k _
  · exact State.onlyFields_regs (s.setTracker_onlyFields k _) (State.raise_regs _ _)

/-! ### A deviating crossing -/

/-- A tracker that holds a crossing over runs on by its own half-cycle (R135). -/
def Tracker.heldOver (t : Tracker) (seen : Option Int) : Tracker :=
  { t with r := t.r + t.p, last := seen, hold := t.hold + 1, missed := seen.isNone }

/-- A tracker that loses its lock acquires afresh and keeps its half-cycle (R135, R136). -/
def Tracker.lost (t : Tracker) (seen : Option Int) : Tracker := { t with last := seen, hold := 0, missed := false, stage := .acquire [] }

/-- The registers after a crossing held over: the tracker's, and the count of them. -/
def State.heldOver (s : State) (k : Nat) (t : Tracker) (seen : Option Int) : State :=
  (s.setTracker k (t.heldOver seen)).bump (CLK_ZC.IGNORED k)

section
variable (s : State) (k : Nat) (t : Tracker) (seen : Option Int)

theorem State.zcDeviates_held (hlocked : t.stage = .locked) (hhold : t.hold < 16) :
    s.zcDeviates k t seen = (s.heldOver k t seen).raise Ev.ZC_IGNORED := by
  simp [State.zcDeviates, State.heldOver, Tracker.heldOver, hlocked, hhold]

theorem State.zcDeviates_lost (hlocked : t.stage = .locked) (hhold : 16 ≤ t.hold) :
    s.zcDeviates k t seen = (s.setTracker k (t.lost seen)).raise Ev.ZC_LOST := by
  simp [State.zcDeviates, Tracker.lost, hlocked, Nat.not_lt.2 hhold]

theorem State.heldOver_tracker : ((s.heldOver k t seen).raise Ev.ZC_IGNORED).tracker k = t.heldOver seen :=
  (State.tracker_of_clk ((State.raise_clk _ _).trans (State.bump_clk _ _)) k).trans (s.setTracker_tracker k _)

theorem State.heldOver_hold (hhold : t.hold < 16) : (s.heldOver k t seen).get (CLK_ZC.HOLD k) = t.hold + 1 := by
  have hfits : (t.heldOver seen).hold ≤ 31 := Nat.le_trans (Nat.succ_le_of_lt hhold) (by decide)
  exact (State.get_put_apart _ (CLK_ZC.IGNORED k) (CLK_ZC.HOLD k) rfl (by simp [Fd.apart, CLK_ZC.IGNORED, CLK_ZC.HOLD]) _).trans
    (s.setTracker_hold k _ hfits)

theorem State.heldOver_lock (hlocked : t.stage = .locked) : (s.heldOver k t seen).on (CLK_ZC.LOCK k) = true :=
  (State.on_put_apart _ (CLK_ZC.IGNORED k) (CLK_ZC.LOCK k) rfl (by simp [Fd.apart, CLK_ZC.IGNORED, CLK_ZC.LOCK]) _).trans
    ((s.setTracker_lock k _).trans (by simp [Tracker.heldOver, hlocked]))

theorem State.heldOver_ignored : (s.heldOver k t seen).get (CLK_ZC.IGNORED k) = min 255 (s.get (CLK_ZC.IGNORED k) + 1) := by
  rw [← s.setTracker_ignored k (t.heldOver seen)]
  exact State.get_bump _ (CLK_ZC.IGNORED k) rfl

theorem State.heldOver_onlyFields :
    s.onlyFields (s.heldOver k t seen) [CLK_ZC.HALF k, CLK_ZC.LOCK k, CLK_ZC.HOLD k, CLK_ZC.IGNORED k] :=
  State.onlyFields_put (State.onlyFields_mono (s.setTracker_onlyFields k _) (by simp [trackerFields])) (CLK_ZC.IGNORED k) (by simp) rfl _

end

/-- A crossing outside the window that the half-cycle before has not missed deviates. -/
theorem execZeroCrossing_far {s : State} {k : Fin 3} {x : Int} (hrun : s.trackersRun = true) (hlocked : (s.tracker k).stage = .locked)
    (hseen : (s.tracker k).missed = false) (hfar : 5760 < (x - ((s.tracker k).r + (s.tracker k).p)).natAbs) :
    execZeroCrossing k x s = .next (s.zcDeviates k (s.tracker k) (some x)) := by
  simp [execZeroCrossing, hrun, hlocked, hseen, Nat.not_le.2 hfar, zcWindow, go]

theorem execZcMissed_deviates {s : State} (k : Fin 3) (hrun : s.trackersRun = true) :
    execZcMissed k s = .next (s.zcDeviates k (s.tracker k) none) := if_pos hrun

theorem zeroCrossing_heldOver : Effect.zeroCrossingIgnored := by
  intro s k x hrun hlocked hseen hfar hhold
  have htracker := s.heldOver_tracker k (s.tracker k) (some x)
  have hexec := execZeroCrossing_far hrun hlocked hseen hfar
  rw [s.zcDeviates_held k _ (some x) hlocked hhold] at hexec
  refine ⟨_, hexec, ?_, ?_, by rw [htracker]; rfl, by rw [htracker]; rfl, ?_, rfl, ?_, rfl⟩
  · rw [State.raise_get]; exact s.heldOver_hold k _ _ hhold
  · rw [State.raise_on]; exact s.heldOver_lock k _ _ hlocked
  · rw [State.raise_get]; exact s.heldOver_ignored k _ _
  · exact State.onlyFields_regs (s.heldOver_onlyFields k _ _) (State.raise_regs _ _)

theorem zcMissed_heldOver : Effect.zcMissed := by
  intro s k hrun hlocked hhold
  have hexec := execZcMissed_deviates k hrun
  rw [s.zcDeviates_held k _ none hlocked hhold] at hexec
  refine ⟨_, hexec, ?_, ?_, by rw [State.heldOver_tracker]; rfl, rfl, ?_, rfl⟩
  · rw [State.raise_get]; exact s.heldOver_hold k _ _ hhold
  · rw [State.raise_on]; exact s.heldOver_lock k _ _ hlocked
  · exact State.onlyFields_regs (s.heldOver_onlyFields k _ _) (State.raise_regs _ _)

theorem zcMissed_losesLock : Effect.zcLost := by
  intro s k hrun hlocked hhold
  have hexec := execZcMissed_deviates k hrun
  rw [s.zcDeviates_lost k _ none hlocked hhold] at hexec
  refine ⟨_, hexec, ?_, rfl, ?_, rfl⟩
  · rw [State.raise_on]; exact s.setTracker_lock k _
  · exact State.onlyFields_regs (s.setTracker_onlyFields k _) (State.raise_regs _ _)

/-- Settles O16: every outcome writes one tracker, with what CLK_ZCk shows of it, and a crossing held over counts in IGNORED too. -/
theorem zeroCrossingTracker : Obligations.ZeroCrossingTracker :=
  ⟨zeroCrossing_follows, zeroCrossing_locks, zeroCrossing_heldOver, zcMissed_heldOver, zcMissed_losesLock⟩

end Sys2Proof.Machine
end

section
/-! PROOF. The engine clocks, the LPO, the crystals against each other, the die temperature and the end of the RTC count (R15, R137, R138,
R140, R626). -/

namespace Sys2Proof.Machine

/-! ### Shots in flight are discarded (R137): their counts, their events and the histories of their paths move, and no word below FIR_PCNT -/

/-- A relation that holds of a state and itself, that is transitive, and that every update meets holds across a list of updates. -/
theorem foldl_related {α : Type} {R : State → State → Prop} (hrefl : ∀ s, R s s) (htrans : ∀ {s t u}, R s t → R t u → R s u)
    (f : State → α → State) (hf : ∀ s a, R s (f s a)) (xs : List α) (s : State) : R s (xs.foldl f s) := by
  induction xs generalizing s with
  | nil => exact hrefl s
  | cons a xs ih => exact htrans (hf s a) (ih (f s a))

/-- `t` differs from `s` at most as shots that are lost change it. -/
structure State.ShotsLost (s t : State) : Prop where
  words : ∀ a < FIR_PCNT.addr 0, t.rd a = s.rd a
  raises : ∀ n, s.raised n → t.raised n
  rest : t = { s with regs := t.regs, evt := t.evt, fir := t.fir, arv := t.arv }

theorem State.ShotsLost.refl (s : State) : s.ShotsLost s := ⟨fun _ _ => rfl, fun _ h => h, rfl⟩

theorem State.ShotsLost.trans {s t u : State} (h : s.ShotsLost t) (h2 : t.ShotsLost u) : s.ShotsLost u where
  words a ha := (h2.words a ha).trans (h.words a ha)
  raises n hn := h2.raises n (h.raises n hn)
  rest := h2.rest.trans (congrArg (fun x : State => { x with regs := u.regs, evt := u.evt, fir := u.fir, arv := u.arv }) h.rest)

theorem State.ShotsLost.get {s t : State} (h : s.ShotsLost t) (f : Fd) (hf : f.addr < FIR_PCNT.addr 0) : t.get f = s.get f := by
  simp only [State.get, h.words f.addr hf]

theorem lossField_addr (q p : Nat) : (lossField q p).addr = FIR_PCNT.addr p := by
  unfold lossField
  split <;> rfl

theorem State.loseShot_shotsLost (s : State) (id n p k : Nat) (rev : Bool) (q : Nat) (tail : Bool) :
    s.ShotsLost (s.loseShot id n p k rev q tail) where
  words a ha := by
    have hother : a ≠ (lossField q p).addr := by
      rw [lossField_addr]
      exact Nat.ne_of_lt (Nat.lt_of_lt_of_le ha (Nat.le_add_right _ p))
    exact (State.rd_wr _ _ a _).trans (if_neg hother)
  raises m hm := State.raised_raise (State.raised_raise (s := State.bump _ (lossField q p)) hm (Ev.PATH_LOSS p)) (lossEvent q k tail)
  rest := rfl

theorem State.discardFlying_shotsLost (s : State) (p : Nat → Bool) : s.ShotsLost (s.discardFlying p) := by
  unfold State.discardFlying State.loseWhere
  split
  · exact .refl s
  · refine foldl_related .refl .trans _ (fun s x => ?_) _ s
    refine foldl_related .refl .trans _ (fun s m => ?_) _ s
    refine foldl_related .refl .trans _ (fun s rev => ?_) _ s
    split
    · exact s.loseShot_shotsLost _ _ _ _ _ _ _
    · exact .refl s

theorem State.disarm_shotsLost (s : State) (p : Nat → Bool) : s.ShotsLost (s.disarm p) := by
  rw [s.disarm_rest p]
  exact ⟨fun _ _ => rfl, fun _ h => h, rfl⟩

/-! ### The PLL of an engine -/

/-- Bit `j` of an odd number less 1 is its bit `j`, but for bit 0. -/
theorem testBit_odd_pred (m j : Nat) : (2 * m).testBit j = ((2 * m + 1).testBit j && j != 0) := by
  cases j with
  | zero => simp
  | succ j =>
    have hhalf : (2 * m + 1) / 2 = m := by omega
    simp [Nat.testBit_succ, hhalf]

/-- The subtraction of a power of two that a mask holds clears its bit and no other. -/
theorem testBit_sub_two_pow {v k : Nat} (h : v.testBit k = true) (j : Nat) : (v - 2 ^ k).testBit j = (v.testBit j && j != k) := by
  have hodd : v / 2 ^ k % 2 = 1 := by simpa [Nat.testBit_eq_decide_div_mod_eq] using h
  obtain ⟨m, hm⟩ : ∃ m, v / 2 ^ k = 2 * m + 1 := ⟨v / 2 ^ k / 2, by omega⟩
  have hlow : v % 2 ^ k < 2 ^ k := Nat.mod_lt _ (Nat.two_pow_pos k)
  have hv : v = 2 ^ k * (2 * m + 1) + v % 2 ^ k := by rw [← hm, Nat.div_add_mod]
  have hsub : v - 2 ^ k = 2 ^ k * (2 * m) + v % 2 ^ k := by rw [Nat.mul_succ] at hv; omega
  have hbit : v.testBit j = if j < k then (v % 2 ^ k).testBit j else (2 * m + 1).testBit (j - k) :=
    (congrArg (Nat.testBit · j) hv).trans (Nat.testBit_two_pow_mul_add _ hlow j)
  rw [hbit, hsub, Nat.testBit_two_pow_mul_add _ hlow]
  split
  next hlt => simp [Nat.ne_of_lt hlt]
  next hge => 
    have hat : (j - k != 0) = (j != k) := by rw [Bool.eq_iff_iff]; simp; omega
    rw [testBit_odd_pred, hat]

/-- The bit of engine `k` falls, and the loss is counted and reported, before its shots are discarded. -/
def State.epllLost (s : State) (k : Fin 4) : State :=
  ((s.put CLK_STAT.EPLLOK (s.get CLK_STAT.EPLLOK - 2 ^ k.val)).bump CLK_FAIL.EPLL).raise Ev.EPLL_UNLOCK

theorem State.epllLost_epllok (s : State) (k : Fin 4) : (s.epllLost k).get CLK_STAT.EPLLOK = s.get CLK_STAT.EPLLOK - 2 ^ k.val := by
  rw [State.epllLost, State.raise_get]
  exact (State.get_put_apart _ CLK_FAIL.EPLL CLK_STAT.EPLLOK rfl rfl _).trans
    (s.get_put_le CLK_STAT.EPLLOK rfl _ (Nat.le_trans (Nat.sub_le _ _) (s.get_le_max CLK_STAT.EPLLOK)))

theorem State.epllLost_count (s : State) (k : Fin 4) : (s.epllLost k).get CLK_FAIL.EPLL = min 255 (s.get CLK_FAIL.EPLL + 1) := by
  rw [State.epllLost, State.raise_get, State.get_bump _ CLK_FAIL.EPLL rfl, State.get_put_apart s CLK_STAT.EPLLOK CLK_FAIL.EPLL rfl rfl]
  rfl

theorem execEpllUnlock_eq {s : State} {k : Fin 4} (hosc : s.oscOn = true) (hfrozen : s.umb.frozen = false)
    (hlocked : (s.get CLK_STAT.EPLLOK).testBit k = true) :
    execEpllUnlock k s = .next (((s.epllLost k).discardFlying (fun e => e == k.val)).disarm (fun e => e == k.val)) :=
  if_pos (by simp [hosc, hfrozen, hlocked])

theorem epllUnlock_drops : Effect.epllUnlock := by
  intro s k hosc hfrozen hlocked
  have hlost : (s.epllLost k).ShotsLost (((s.epllLost k).discardFlying (fun e => e == k.val)).disarm (fun e => e == k.val)) :=
    ((s.epllLost k).discardFlying_shotsLost _).trans (State.disarm_shotsLost _ _)
  refine ⟨_, execEpllUnlock_eq hosc hfrozen hlocked, ?_, ?_, ?_, ?_⟩
  · intro j
    rw [hlost.get CLK_STAT.EPLLOK (by decide), s.epllLost_epllok k]
    exact testBit_sub_two_pow hlocked j
  · rw [hlost.get CLK_FAIL.EPLL (by decide), s.epllLost_count k]
  · exact hlost.raises _ (State.raised_raise_self _ _)
  · rw [hlost.rest]
    exact ⟨rfl, rfl, rfl, rfl, rfl, rfl⟩

theorem epllRelock_rises : Effect.epllRelock := by
  intro s k hosc hfrozen hengine hhfxo
  have hfits : s.get CLK_STAT.EPLLOK ||| 2 ^ k.val < 2 ^ 4 :=
    Nat.or_lt_two_pow (Nat.lt_succ_of_le (s.get_le_max CLK_STAT.EPLLOK)) (Nat.pow_lt_pow_right (by decide) k.isLt)
  have hhas : s.hasEngine k.val = true := by
    obtain rfl | hpod := hengine
    · rfl
    · simp [State.hasEngine, hpod]
  refine ⟨s.put CLK_STAT.EPLLOK (s.get CLK_STAT.EPLLOK ||| 2 ^ k.val), if_pos (by simp [hosc, hfrozen, hhas, hhfxo]), ?_,
    s.onlyFields_put_self CLK_STAT.EPLLOK rfl _, rfl⟩
  intro j
  rw [s.get_put_le CLK_STAT.EPLLOK rfl _ (Nat.le_of_lt_succ hfits)]
  rw [Nat.testBit_or, Nat.testBit_two_pow, Bool.beq_eq_decide_eq, decide_eq_decide.2 (eq_comm (a := k.val))]

/-! ### The LPO -/

theorem lpoRange_lost : Effect.lpoRange := by
  intro s hlpo hlfxo hclock
  refine ⟨_, if_pos ⟨hlpo, hlfxo, hclock⟩, ?_, rfl, ?_, rfl⟩
  · rw [State.raise_on]
    exact s.on_put_zero CLK_STAT.LPOOK rfl
  · exact State.onlyFields_regs (s.onlyFields_put_self CLK_STAT.LPOOK rfl 0) (State.raise_regs _ _)

theorem lpoBack_good : Effect.lpoBack := fun s hlfxo hclock hsince =>
  ⟨s.put CLK_STAT.LPOOK 1, if_pos ⟨hlfxo, hclock, hsince⟩, s.on_put_one CLK_STAT.LPOOK rfl, s.onlyFields_put_self CLK_STAT.LPOOK rfl 1, rfl⟩

theorem lpoCalibrate_stores : Effect.lpoCalibrate := fun s f hosc hfrozen hsource hhfxo =>
  ⟨s.put CLK_LPO.FREQ f.toNat, if_pos (by simp [hosc, hfrozen, hsource, hhfxo]), s.get_put_le CLK_LPO.FREQ rfl _ (Nat.le_sub_one_of_lt f.isLt),
    s.onlyFields_put_self CLK_LPO.FREQ rfl _, rfl⟩

/-! ### The crystals against each other -/

/-- The counts in a row within window start again (R140). -/
def State.goodCountsZero (s : State) : State := { s with clk := { s.clk with mismatchGood := 0 } }

theorem xoMismatchCount_reports : Effect.xoMismatchCount := by
  intro s count hosc hfrozen hlfxo hhfxo hspll hgood hout
  have hexec : execXoMismatchCount count s = .next ((s.put CLK_STAT.MISMATCH 1).raise Ev.XO_MISMATCH).goodCountsZero := by
    have hfar : (decide (37463 ≤ count) && decide (count ≤ 37537)) = false := by simp; omega
    simp [execXoMismatchCount, hosc, hfrozen, hlfxo, hhfxo, hspll, hgood, hfar, go, State.goodCountsZero]
  exact ⟨_, hexec, s.on_put_one CLK_STAT.MISMATCH rfl, rfl, s.onlyFields_put_self CLK_STAT.MISMATCH rfl 1, rfl⟩

theorem xoMismatchCount_clears : Effect.xoMismatchClears := by
  intro s count hosc hfrozen hlfxo hhfxo hspll hbad hlow hhigh hfour
  have hexec : execXoMismatchCount count s = .next (s.put CLK_STAT.MISMATCH 0).goodCountsZero := by
    simp [execXoMismatchCount, hosc, hfrozen, hlfxo, hhfxo, hspll, hbad, hlow, hhigh, hfour, go, State.goodCountsZero]
  exact ⟨_, hexec, s.on_put_zero CLK_STAT.MISMATCH rfl, s.onlyFields_put_self CLK_STAT.MISMATCH rfl 0, rfl⟩

/-! ### The die temperature and the end of the RTC count -/

theorem tempSample_shows : Effect.tempSample := by
  intro s v hmode hshed
  have hruns : ((s.mode == .run && !s.umb.frozen || s.mode == .doze) && !s.shed) = true := by
    obtain ⟨hrun, hfrozen⟩ | hdoze := hmode
    · simp [hrun, hfrozen, hshed]
    · simp [hdoze, hshed]
  exact ⟨s.put SYS_TEMP.TEMP v.toNat, if_pos hruns, s.get_put_le SYS_TEMP.TEMP rfl _ (Nat.le_sub_one_of_lt v.isLt),
    s.onlyFields_put_self SYS_TEMP.TEMP rfl _, rfl⟩

theorem rtcEnd_reports : Effect.rtcEnd := fun s hend hfirst =>
  ⟨State.raise { s with clk := { s.clk with rtcEnded := true } } Ev.RTC_END, if_pos ⟨hend, by simp [hfirst]⟩, hend, rfl, rfl⟩

/-- Settles O15: an engine that loses its PLL loses the shots in flight besides (`State.ShotsLost`), and each other command moves the one
field that shows its clock or its value. -/
theorem engineAndLpoClocks : Obligations.EngineAndLpoClocks :=
  ⟨epllUnlock_drops, epllRelock_rises, lpoRange_lost, lpoBack_good, lpoCalibrate_stores, xoMismatchCount_reports, xoMismatchCount_clears,
    tempSample_shows, rtcEnd_reports⟩

end Sys2Proof.Machine
end

section
/-! PROOF. The background recall of the billing state (R159, R394). -/

namespace Sys2Proof.Machine

theorem execSettledPageRecall_recalls {s : State} {p : Nat} {ps : List Nat} (hwait : s.boot.unrecalled = p :: ps)
    (hstarted : s.started = true) (hwork : s.sto.work = []) : execSettledPageRecall none s = .next (s.recallPage p) := by
  simp [execSettledPageRecall, hwait, hstarted, hwork, go]

/-- A started chip whose background recall stands at page 72 of SR09, the first billing page of point 0 (R394), stored with LASTTOT 1. -/
def billingPageWaits : State :=
  { State.reset with
    boot := { State.reset.boot with legalLoaded := true, unrecalled := [272], outcome := [(272, 1)] }
    sto := { State.reset.sto with array := [(256 * 272, 1)] } }

/-- The recall loads LASTTOT into the billing state of the point. -/
theorem recallPage_loadsLasttot : ((billingPageWaits.recallPage 272).bill 0).last = 1 := by decide +kernel

/-- SETTLED_PAGE_RECALL moves the billing state, which its clause leaves as it was. -/
theorem settledPageRecall_movesBilling : ¬ Effect.settledPageRecall := by
  intro h
  have hexec := execSettledPageRecall_recalls (s := billingPageWaits) rfl rfl rfl
  obtain ⟨t, hnext, -, -, hframe⟩ := h billingPageWaits 272 [] rfl rfl rfl
  have hrecalled : t = billingPageWaits.recallPage 272 := Host.Outcome.next.inj (hnext.symm.trans hexec)
  have hbil : t.bil = billingPageWaits.bil := by rw [hframe]
  have hlast : (t.bill 0).last = 1 := hrecalled ▸ recallPage_loadsLasttot
  rw [State.bill, hbil] at hlast
  exact absurd hlast (by decide)

/-- Refutes O13: its clause on SETTLED_PAGE_RECALL says that the recall of a page changes registers, events, the start and the store alone, but
a page of SR09 that holds billing state (R394) is recalled into the billing state (`billingPageWaits`), as R159 has it. -/
theorem not_startSteps : ¬ Obligations.StartSteps :=
  fun ⟨_, _, _, _, _, hrecall, _⟩ => settledPageRecall_movesBilling hrecall

end Sys2Proof.Machine
end

section
/-! PROOF. A failure of HFXO beside a candidate table that the store keeps under stray addresses (R139, R455). -/

namespace Sys2Proof.Machine

/-- A command answers a next state for which `p` holds. -/
def answersWith (o : Out) (p : State → Bool) : Bool :=
  match o with
  | .next t => p t
  | _ => false

/-- A chip on HFXO that sends a mesh frame on its last try (R441, R455), SR07 not yet recalled. What the store keeps of the candidate table
with the page 160, the first of SR07, names CLK_STAT in place of a word of that table. -/
def strayCandidate : State :=
  { (State.reset.put CLK_STAT.HFXOOK 1).put PLS_CFG.NETMODE 1 with
    boot := { State.reset.boot with steps := 6, unrecalled := [160], outcome := [(160, 1)] }
    sto := { State.reset.sto with candArray := [(160, [(CLK_STAT.addr, 2)])] }
    pls := { State.reset.pls with
      train := some {
        frames := [{ bytes := [], plain := [], slot := none, next := 0, ackreq := true, relay := false, tries := 7, delayed := false, service := .plain }]
        next := 0, r := 0, span := 0, symbols := [], pos := 0, ack := false, stage := .sending, left := 0, phy := 0 } } }

/-- The failure gives the frame up, which breaks its route, which recalls SR07, which writes CLK_STAT: HFXOOK reads 1 after HFXO_FAIL. -/
theorem hfxoFail_strayCandidate : answersWith (exec .hfxoFail strayCandidate) (fun t => t.on CLK_STAT.HFXOOK) = true := by
  decide +kernel

theorem hfxoFail_leavesHfxook : ¬ Effect.hfxoFail := by
  intro h
  obtain ⟨t, hnext, hoff, -⟩ := h strayCandidate (by decide +kernel) rfl (by decide +kernel)
  have hon := hfxoFail_strayCandidate
  rw [hnext] at hon
  exact Bool.false_ne_true (hoff.symm.trans hon)

/-- Refutes O14: its clause on HFXO_FAIL says that HFXOOK falls, for any state at all. The front ends stop after it falls, and in
`strayCandidate` the recall of SR07 that this brings writes it back. No premise of the clause holds the words kept of the candidate table
to their own addresses. -/
theorem not_crystalFailures : ¬ Obligations.CrystalFailures :=
  fun ⟨_, _, hfail, _⟩ => hfxoFail_leavesHfxook hfail

end Sys2Proof.Machine
end
